-- ==== Sys2Proof/Word.lean ====
section
/-! DEFINITION. The widths the SP412's host and memory see: bytes, serials and directive words. -/

namespace Sys2Proof

/-- The smallest addressable unit of canvas memory and of the link (R4, R184). -/
abbrev Byte := BitVec 8

/-- A frame serial: 16 bits, wrapping from 65535 to 0 (R25). -/
abbrev Serial := BitVec 16

/-- A directive word (R160). -/
abbrev Word32 := BitVec 32

end Sys2Proof
end

