-- ==== Sys2Proof/Config.lean ====
section
/-! DEFINITION. What the manual leaves open: free values (constants with no body, about which nothing can be proved). -/

namespace Sys2Proof

/-- What a byte of canvas memory holds that nothing has written since the `epoch`-th power-on or RESET_N
(R4, R160: "undefined"). Free value, log 6. -/
opaque Config.powerOnByte (epoch addr : Nat) : Byte

/-- Whether the Export Unit has begun its next line at the moment the previous one has been sent (R155,
R158 do not say when a line begins). Free value drawn with the counter `State.free`, log 10. -/
opaque Config.nextLineBegun (draw : Nat) : Bool

/-- The offset of a checkpoint image's last byte (R176 gives the image's fields and no layout). Free value, log 11. -/
opaque Config.imageLastByte : Nat

/-- The format number this revision writes into a checkpoint image (R176). Free value, log 11. -/
opaque Config.formatNumber : Nat

/-- The CRC-32 over the other fields of a checkpoint image (R176 names neither polynomial nor byte
order). Free value, log 11. -/
opaque Config.imageCrc (fields : List Int) : BitVec 32

end Sys2Proof
end

