-- ==== Sys2Proof/Syntax.lean ====
section
/-! DEFINITION. The commands of the SP412: one constructor per row of spec/opcode_table.json, with what the outside supplies
with it as operands. -/

namespace Sys2Proof

/-- The host commands of the command table (11.5). RESUME (0x23) stands here as its four modes, which are
the rows of the table (log 4). -/
inductive HostCommand where
  | nop | readIdentity | readStatus | readEvents | setEventEnables | reset
  | configure | setParameters | setMasks | clearConditions | arm | finish
  | abort | resumeAccept | resumeSkip | resumePlace | resumeRollback | release
  | hint | setMark | readCapture | setCaptureAction | readLandmark | findLandmarks
  | examineLandmark | pinLandmark | unpinLandmark | retireLandmark | retireRegion | readPlacement
  | readCoverage | readClosure | writeDirectives | readDirectives | setList | checkpoint
  | rollback | readSlots | exportStart | exportStop
  deriving DecidableEq, Repr

/-- One constructor per row of spec/opcode_table.json. A host command carries its parameter bytes `p` (for the
four RESUME rows the bytes after the mode byte); DIE_SENSING_COMPLETE the presence map sensed; LINE its luma
samples and chroma pairs (Cb, Cr); TRANSACTION_END the inbound bytes. Every other step takes its data from
the state. -/
inductive Instr where
  /-- POWER_ON (R190). -/
  | powerOn
  /-- RESET_N_ASSERT (R190). -/
  | resetNAssert
  /-- DIE_SENSING_COMPLETE (R7). -/
  | dieSensingComplete (dies : BitVec 4)
  /-- REFRESH_DUE (R14). -/
  | refreshDue
  /-- FIRST_SLOT (R11). -/
  | firstSlot
  /-- SECOND_SLOT (R12). -/
  | secondSlot
  /-- SHUTTER_EDGE (R142). -/
  | shutterEdge
  /-- FRAME_START (R18). -/
  | frameStart
  /-- LINE (R19). -/
  | line (luma : List Byte) (chroma : List (Byte × Byte))
  /-- FRAME_END (R20). -/
  | frameEnd
  /-- TRANSACTION_START (R184). -/
  | transactionStart
  /-- TRANSACTION_END (R184). -/
  | transactionEnd (bytes : List Byte)
  /-- NOP (R189). -/
  | nop (p : List Byte)
  /-- READ_IDENTITY (R189). -/
  | readIdentity (p : List Byte)
  /-- READ_STATUS (R189). -/
  | readStatus (p : List Byte)
  /-- READ_EVENTS (R187). -/
  | readEvents (p : List Byte)
  /-- SET_EVENT_ENABLES (R187). -/
  | setEventEnables (p : List Byte)
  /-- RESET (R191). -/
  | reset (p : List Byte)
  /-- CONFIGURE (R5). -/
  | configure (p : List Byte)
  /-- SET_PARAMETERS (R186). -/
  | setParameters (p : List Byte)
  /-- SET_MASKS (R126). -/
  | setMasks (p : List Byte)
  /-- CLEAR_CONDITIONS (R127). -/
  | clearConditions (p : List Byte)
  /-- ARM (R122). -/
  | arm (p : List Byte)
  /-- FINISH (R133). -/
  | finish (p : List Byte)
  /-- ABORT (R136). -/
  | abort (p : List Byte)
  /-- ABORT_CLEAR_STEP (R136). -/
  | abortClearStep
  /-- RESUME_ACCEPT (R129). -/
  | resumeAccept (p : List Byte)
  /-- RESUME_SKIP (R130). -/
  | resumeSkip (p : List Byte)
  /-- RESUME_PLACE (R131). -/
  | resumePlace (p : List Byte)
  /-- RESUME_ROLLBACK (R132). -/
  | resumeRollback (p : List Byte)
  /-- RELEASE (R135). -/
  | release (p : List Byte)
  /-- HINT (R66). -/
  | hint (p : List Byte)
  /-- SET_MARK (R139). -/
  | setMark (p : List Byte)
  /-- READ_CAPTURE (R143). -/
  | readCapture (p : List Byte)
  /-- SET_CAPTURE_ACTION (R143). -/
  | setCaptureAction (p : List Byte)
  /-- READ_LANDMARK (R58). -/
  | readLandmark (p : List Byte)
  /-- FIND_LANDMARKS (R59). -/
  | findLandmarks (p : List Byte)
  /-- EXAMINE_LANDMARK (R60). -/
  | examineLandmark (p : List Byte)
  /-- PIN_LANDMARK (R55). -/
  | pinLandmark (p : List Byte)
  /-- UNPIN_LANDMARK (R56). -/
  | unpinLandmark (p : List Byte)
  /-- RETIRE_LANDMARK (R57). -/
  | retireLandmark (p : List Byte)
  /-- RETIRE_REGION (R52). -/
  | retireRegion (p : List Byte)
  /-- READ_PLACEMENT (R101). -/
  | readPlacement (p : List Byte)
  /-- READ_COVERAGE (R119). -/
  | readCoverage (p : List Byte)
  /-- READ_CLOSURE (R148). -/
  | readClosure (p : List Byte)
  /-- WRITE_DIRECTIVES (R161). -/
  | writeDirectives (p : List Byte)
  /-- READ_DIRECTIVES (R162). -/
  | readDirectives (p : List Byte)
  /-- SET_LIST (R163). -/
  | setList (p : List Byte)
  /-- CHECKPOINT (R172). -/
  | checkpoint (p : List Byte)
  /-- ROLLBACK (R177). -/
  | rollback (p : List Byte)
  /-- READ_SLOTS (R183). -/
  | readSlots (p : List Byte)
  /-- EXPORT (R154). -/
  | exportStart (p : List Byte)
  /-- EXPORT_STOP (R158). -/
  | exportStop (p : List Byte)
  /-- EXPORT_LINE (R156). -/
  | exportLine
  /-- MATCH_BANK_TAKE (R62). -/
  | matchBankTake
  /-- LOOKUP (R38). -/
  | lookup
  /-- SOLVE (R71). -/
  | solve
  /-- JUDGE (R74). -/
  | judge
  /-- PUSH (R92). -/
  | push
  /-- BATCH_OPENING (R42). -/
  | batchOpening
  /-- FOOTPRINT_READ (R39). -/
  | footprintRead
  /-- HIT_CLAIM (R43). -/
  | hitClaim
  /-- REVIVE_CLAIM (R44). -/
  | reviveClaim
  /-- MISS_CLAIM (R45). -/
  | missClaim
  /-- ADMISSION_CLAIM (R47). -/
  | admissionClaim
  /-- STALE_COUNT_CLAIM (R100). -/
  | staleCountClaim
  /-- BLEND_TAKE (R96). -/
  | blendTake
  /-- SEAM_FIX (R112). -/
  | seamFix
  /-- BLOCK_WRITE (R113). -/
  | blockWrite
  /-- BLEND_END (R116). -/
  | blendEnd
  /-- RETIRE_BEHIND (R51). -/
  | retireBehind
  /-- RETIREMENT_CLAIM (R99). -/
  | retirementClaim
  /-- BLEND_END_CLAIM (R98). -/
  | blendEndClaim
  /-- CLOSURE_JOIN (R149). -/
  | closureJoin
  /-- JOIN_COLUMN (R149). -/
  | joinColumn
  /-- COMMIT_ALL_OPEN_BLOCKS (R117). -/
  | commitAllOpenBlocks
  /-- COPY_PHASE (R174). -/
  | copyPhase
  /-- SAVE_COMPLETE (R174). -/
  | saveComplete
  /-- VERIFY_END (R178). -/
  | verifyEnd
  /-- ROLLBACK_REPLACE (R179). -/
  | rollbackReplace
  /-- STOP (R165). -/
  | dirStop
  /-- SKIP (R165). -/
  | dirSkip
  /-- NEXT (R165). -/
  | dirNext
  /-- NEXT_AND_STOP (R165). -/
  | dirNextAndStop
  /-- SIGNAL (R167). -/
  | dirSignal
  /-- HINT_DIRECTIVE (R168). -/
  | dirHint
  /-- MASKS (R167). -/
  | dirMasks
  /-- MARK (R167). -/
  | dirMark
  /-- RETIRE_REGION_DIRECTIVE (R169). -/
  | dirRetireRegion
  /-- RETIRE_REGION_CLAIM (R53). -/
  | retireRegionClaim
  /-- BLEND (R167). -/
  | dirBlend
  /-- DIRECTIVE_FAULT (R166). -/
  | directiveFault
  /-- RESET_N_RISES (R190). -/
  | resetNRises
  deriving DecidableEq, Repr

/-- The host command an instruction is, with its parameter bytes; `none` for every other step. -/
def Instr.hostCommand? : Instr → Option (HostCommand × List Byte)
  | .nop p => some (.nop, p)
  | .readIdentity p => some (.readIdentity, p)
  | .readStatus p => some (.readStatus, p)
  | .readEvents p => some (.readEvents, p)
  | .setEventEnables p => some (.setEventEnables, p)
  | .reset p => some (.reset, p)
  | .configure p => some (.configure, p)
  | .setParameters p => some (.setParameters, p)
  | .setMasks p => some (.setMasks, p)
  | .clearConditions p => some (.clearConditions, p)
  | .arm p => some (.arm, p)
  | .finish p => some (.finish, p)
  | .abort p => some (.abort, p)
  | .resumeAccept p => some (.resumeAccept, p)
  | .resumeSkip p => some (.resumeSkip, p)
  | .resumePlace p => some (.resumePlace, p)
  | .resumeRollback p => some (.resumeRollback, p)
  | .release p => some (.release, p)
  | .hint p => some (.hint, p)
  | .setMark p => some (.setMark, p)
  | .readCapture p => some (.readCapture, p)
  | .setCaptureAction p => some (.setCaptureAction, p)
  | .readLandmark p => some (.readLandmark, p)
  | .findLandmarks p => some (.findLandmarks, p)
  | .examineLandmark p => some (.examineLandmark, p)
  | .pinLandmark p => some (.pinLandmark, p)
  | .unpinLandmark p => some (.unpinLandmark, p)
  | .retireLandmark p => some (.retireLandmark, p)
  | .retireRegion p => some (.retireRegion, p)
  | .readPlacement p => some (.readPlacement, p)
  | .readCoverage p => some (.readCoverage, p)
  | .readClosure p => some (.readClosure, p)
  | .writeDirectives p => some (.writeDirectives, p)
  | .readDirectives p => some (.readDirectives, p)
  | .setList p => some (.setList, p)
  | .checkpoint p => some (.checkpoint, p)
  | .rollback p => some (.rollback, p)
  | .readSlots p => some (.readSlots, p)
  | .exportStart p => some (.exportStart, p)
  | .exportStop p => some (.exportStop, p)
  | .powerOn | .resetNAssert | .dieSensingComplete _ | .refreshDue | .firstSlot | .secondSlot | .shutterEdge
  | .frameStart | .line _ _ | .frameEnd | .transactionStart | .transactionEnd _ | .abortClearStep
  | .exportLine | .matchBankTake | .lookup | .solve | .judge | .push
  | .batchOpening | .footprintRead | .hitClaim | .reviveClaim | .missClaim | .admissionClaim
  | .staleCountClaim | .blendTake | .seamFix | .blockWrite | .blendEnd | .retireBehind
  | .retirementClaim | .blendEndClaim | .closureJoin | .joinColumn | .commitAllOpenBlocks | .copyPhase
  | .saveComplete | .verifyEnd | .rollbackReplace | .dirStop | .dirSkip | .dirNext
  | .dirNextAndStop | .dirSignal | .dirHint | .dirMasks | .dirMark | .dirRetireRegion
  | .retireRegionClaim | .dirBlend | .directiveFault | .resetNRises => none

end Sys2Proof
end

