-- ==== Sys2Proof/Machine/State.lean ====
section
/-! DEFINITION. Everything the SP412 holds, as plain data, block by block (Figure 0-1), and the machine right after the
power-on reset. -/

namespace Sys2Proof.Machine

/-! ### Canvas, memory and arbiter (Chapter 1) -/

/-- Sweep direction (00 Coordinates). -/
inductive Direction where | east | west
  deriving DecidableEq, Repr

/-- Configuration and the sweep's geometry (R1, R5, R122). -/
structure Geometry where
  cw : Nat
  ch : Nat
  fw : Nat
  fh : Nat
  direction : Direction
  startCol : Nat
  startRow : Nat
  deriving DecidableEq, Repr

/-- The sixteen host parameters (R186). -/
structure Params where
  matchDist : Nat
  searchRadius : Nat
  minInliers : Nat
  anchorHits : Nat
  missLimit : Nat
  predictLimit : Nat
  minStep : Nat
  reverseTol : Nat
  minOverlap : Nat
  paceLimit : Nat
  feather : Nat
  cornerMin : Nat
  admitMax : Nat
  closeEnable : Bool
  closeMin : Nat
  closeVtol : Nat
  deriving DecidableEq, Repr

/-- Canvas memory: the bytes written since the `epoch`-th power-on or RESET_N, addresses strictly rising. A
byte not listed is undefined (log 6). -/
structure Memory where
  cells : List Host.Cell
  epoch : Nat
  deriving DecidableEq, Repr

/-- The ring of the second-slot order (R12). -/
inductive Ring where | bu | eu | cx | link
  deriving DecidableEq, Repr

/-- The cause RESET_DONE carries (R190, R191). -/
inductive ResetCause where | powerOn | pin | command
  deriving DecidableEq, Repr

/-- The Memory Arbiter (R7, R12, R14) and the reset it takes part in: `sensing` is the cause of a reset
whose die sensing has not completed, `resetLow` the level of RESET_N. -/
structure Arbiter where
  dies : BitVec 4
  rotation : Ring
  refreshDue : Bool
  sensing : Option ResetCause
  resetLow : Bool
  deriving DecidableEq, Repr

/-! ### Pixel Intake (Chapter 2) -/

/-- The three frame banks (R23). -/
inductive BankId where | b0 | b1 | b2
  deriving DecidableEq, Repr

inductive BankState where | free | filling | queued | matching | placed | blending
  deriving DecidableEq, Repr

inductive DropMark where | none | held | closing
  deriving DecidableEq, Repr

/-- A corner candidate (R32); its list position is its place in the list. -/
structure Candidate where
  cell : Nat
  q : Nat
  p : Nat
  strength : Nat
  descriptor : BitVec 64
  deriving DecidableEq, Repr

/-- A frame bank's record with its on-chip guide image and candidate list (R23, R24). `sums` holds the guide
row in progress, one sum per guide column; `cornerMin` the CORNER_MIN taken at the frame start (R18);
`cellRows` how many rows of guide cells are selected (R32). -/
structure Bank where
  state : BankState
  serial : Option Serial
  lineCount : Nat
  damaged : Bool
  drop : DropMark
  cornerMin : Nat
  guide : List (List Byte)
  sums : List Nat
  cands : List Candidate
  cellRows : Nat
  deriving DecidableEq, Repr

structure Banks where
  b0 : Bank
  b1 : Bank
  b2 : Bank
  deriving DecidableEq, Repr

/-- Pixel Intake: the port (`none` is AWAIT, R17), the two segments of the line buffer, the one waiting for its
grant and the one filling, as the bytes to write (R15), the frame serial counter (R25), the queue of QUEUED banks,
head first (R20), and the banks. -/
structure Intake where
  port : Option BankId
  waiting : List Host.Cell
  filling : List Host.Cell
  serial : Serial
  queue : List BankId
  banks : Banks
  deriving DecidableEq, Repr

/-- Frame outcomes (2.9), in the order of their codes. -/
inductive FrameOutcome where
  | none | origin | placed | predicted | hostPlaced | dwell | reversed | unplaced | discarded
  | canvasEnd | droppedBusy | droppedHeld | droppedClosing | damaged | abandoned
  deriving DecidableEq, Repr

/-! ### Landmark Table Controller (Chapter 3) -/

inductive LandmarkState where | tentative | tracked | anchored | fading
  deriving DecidableEq, Repr

/-- A live landmark record (R33); index and generation belong to the entry. -/
structure Landmark where
  state : LandmarkState
  pinned : Bool
  origin : Bool
  x : Int
  y : Int
  descriptor : BitVec 64
  strength : Nat
  hits : Nat
  misses : Nat
  firstSeen : Serial
  lastSeen : Serial
  bin : Nat
  passMark : Bool
  deriving DecidableEq, Repr

/-- An entry of the table: its generation, and its record unless FREE (R33). -/
structure Entry where
  gen : BitVec 4
  lm : Option Landmark
  deriving DecidableEq, Repr

/-- The Landmark Table, the bin directory (R34), the three counts (R33), and the RETIRE REGION claims of
directives not yet taken (R37, R169), oldest first. -/
structure Table where
  entries : List Entry
  bins : List (List Nat)
  live : Nat
  pinned : Nat
  origin : Nat
  regionClaims : List (Nat × Nat)
  deriving DecidableEq, Repr

/-! ### Match Engine (Chapter 4) -/

/-- An entry of the motion record (R64). -/
structure Motion where
  serial : Serial
  x : Int
  y : Int
  deriving DecidableEq, Repr

/-- A motion hint; `tag` absent is tag NONE (R66). -/
structure Hint where
  dx : Int
  dy : Int
  tag : Option Serial
  deriving DecidableEq, Repr

inductive TrackMode where | locked | coasting | searching
  deriving DecidableEq, Repr

/-- A landmark as a lookup or footprint read returned it, with the recorded generation (R38), and the Hamming
distance of the comparison (R68). -/
structure Sighting where
  index : Nat
  gen : BitVec 4
  x : Int
  y : Int
  dist : Nat
  deriving DecidableEq, Repr

/-- A candidate's result (R68, R69). -/
inductive Verdict where | none | isMatch | stale | near | far | ambiguous | wrapped
  deriving DecidableEq, Repr

/-- A candidate in the pass record (R62): the copy of the bank's candidate and what the pass found for it. -/
structure PassCand where
  cand : Candidate
  verdict : Verdict
  chosen : Option Sighting
  wrapVote : Option Sighting
  inlier : Bool
  revival : Bool
  deriving DecidableEq, Repr

inductive HowPlaced where | origin | matched | predicted | host
  deriving DecidableEq, Repr

/-- The closure test's result kept from check 5 (R145): measured Ce, r_y and votes with `none` for a test
that is met and the reason otherwise. -/
inductive ClosureReason where | residual | circumference
  deriving DecidableEq, Repr

structure ClosureTest where
  ce : Int
  ry : Int
  votes : Nat
  reason : Option ClosureReason
  deriving DecidableEq, Repr

/-- An admission claim (R46): candidate's strength and descriptor, and its canvas position. -/
structure Admission where
  strength : Nat
  descriptor : BitVec 64
  x : Int
  y : Int
  deriving DecidableEq, Repr

/-- A hit, revive or miss claim (R42): index, recorded generation and, for a hit, the observed position. -/
structure UpdateClaim where
  index : Nat
  gen : BitVec 4
  x : Int
  y : Int
  deriving DecidableEq, Repr

/-- The two claims that record a sighting: a hit (R43) and a revive (R44). -/
inductive SightKind where | hit | revive
  deriving DecidableEq, Repr

/-- Where a match pass stands (4.1 "pass stage"). -/
inductive Stage where
  /-- the lookup of the candidate at list position `i` comes next, `second` its wrapped lookup (R67) -/
  | lookup (i : Nat) (second : Bool)
  /-- all lookups answered -/
  | solve
  /-- the judge's checks come next (R74) -/
  | judge
  /-- waiting at a hold of the judge (R74) -/
  | judgeHeld
  /-- the push is presented; `accepted` after RESUME ACCEPT of a WINDOW_OVERFLOW hold (R92, R95) -/
  | push (accepted : Bool)
  /-- waiting at a WINDOW_OVERFLOW hold (R93) -/
  | pushHeld
  /-- the footprint read comes next (R83) -/
  | footprint
  /-- the update batch is ready to open (R84) -/
  | opening
  /-- the batch is open; `accepted` while the parked claim that a RESUME ACCEPT takes anew is still to come (R49) -/
  | batch (accepted : Bool)
  /-- the batch is parked at a TABLE_FULL hold (R49) -/
  | parked
  /-- the parked claim is accepted by a RESUME and left, with the claims after it, for after the save (R37, R173) -/
  | fenced
  /-- the last claim is answered; the counts are to be reported (R84) -/
  | report
  deriving DecidableEq, Repr

/-- The pass record (4.1). `bank` is present while the frame stands in its MATCHING bank. `progress` is the
progress read at the pass start (R67). `wrapMean` is the closure cluster's count and mean (R72). `pushed` says
that the frame was pushed, so that its batch admits (R46). `sights` holds the hit and revive claims in candidate list
order (R42). -/
structure Pass where
  serial : Serial
  bank : Option BankId
  stage : Stage
  cands : List PassCand
  predX : Int
  predY : Int
  progress : Nat
  inliers : Nat
  solved : Option (Int × Int)
  wrapMean : Option (Nat × Int × Int)
  how : HowPlaced
  x : Int
  y : Int
  step : Int
  overlap : Int
  clipped : Bool
  gap : Bool
  pushed : Bool
  closure : Option ClosureTest
  footprint : List UpdateClaim
  sights : List (SightKind × UpdateClaim)
  misses : List UpdateClaim
  admissions : List Admission
  stale : Nat
  admitted : Nat
  deriving DecidableEq, Repr

/-- The Match Engine (4.1); the motion record is newest first. -/
structure Matcher where
  motion : List Motion
  hint : Option Hint
  mode : TrackMode
  predicted : Nat
  pass : Option Pass
  deriving DecidableEq, Repr

/-! ### Placement Window (Chapter 5) -/

inductive PlacementState where | placed | blending | blended
  deriving DecidableEq, Repr

/-- Seam, feather used and gain (R97). -/
structure SeamPart where
  seam : Int
  feather : Nat
  gain : Nat
  deriving DecidableEq, Repr

/-- The used part (R96): complete once `fixed` is present (R97). -/
structure UsedPart where
  x : Int
  y : Int
  fixed : Option SeamPart
  deriving DecidableEq, Repr

/-- A placement record (R88). -/
structure Placement where
  serial : Serial
  state : PlacementState
  how : HowPlaced
  x : Int
  y : Int
  inliers : Nat
  stale : Nat
  step : Int
  overlap : Int
  clipped : Bool
  gap : Bool
  featherClamped : Bool
  owned : Nat
  used : Option UsedPart
  deriving DecidableEq, Repr

/-! ### Blend Unit (Chapters 6 and 8) -/

/-- A coverage entry (R104). -/
inductive Coverage where
  | blank
  | opened (owner : Serial)
  | committed
  deriving DecidableEq, Repr

/-- The blend reference (R106): trailing u, first and last used row (last below first when there is none). -/
structure BlendRef where
  t : Int
  rowLo : Int
  rowHi : Int
  deriving DecidableEq, Repr

/-- How far granted bursts have brought a block write or a join column (R10): how many of its bytes are written, and the
bytes read for those to be written next. -/
structure Transfer where
  written : Nat
  held : List Byte
  deriving DecidableEq, Repr

/-- Where a blend pass stands (R107, R116). -/
inductive BlendStage where
  /-- measuring, with the sample bytes that granted bursts have read (R10); the pass stands at no block boundary -/
  | measuring (read : List Byte)
  /-- at a block boundary; sweep places of the blocks still to write -/
  | writing (todo : List Nat)
  /-- inside the write of the block at sweep place `place`, as far as granted bursts have brought it (R10, R113); the
  pass stands at no block boundary -/
  | inBlock (place : Nat) (rest : List Nat) (move : Transfer)
  /-- the commit is done; which of the two claims of R116 step 2 are still to be taken -/
  | ending (retireBehind retirement : Bool)
  deriving DecidableEq, Repr

/-- The blend pass in progress: the record's serial and bank, FEATHER as read at the take (R107), trailing u
and first row before clipping (R108), and seam, feather and gain once fixed. -/
structure BlendPass where
  serial : Serial
  bank : BankId
  feather : Nat
  t : Int
  y0 : Int
  seam : SeamPart
  stage : BlendStage
  deriving DecidableEq, Repr

/-- The closure join in progress (R149): the next join column, what was read at its start, and how far granted bursts
have brought that column (R10); the join stands at a boundary while they have moved nothing of it. -/
structure Join where
  next : Nat
  feather : Nat
  ce : Int
  ry : Int
  move : Transfer
  deriving DecidableEq, Repr

structure Blender where
  coverage : List Coverage
  commitLine : Int
  reference : Option BlendRef
  pass : Option BlendPass
  join : Option Join
  deriving DecidableEq, Repr

/-! ### Sweep Controller (Chapters 7 and 8) -/

/-- The eight conditions, in bit order (7.2). -/
inductive Condition where
  | lowMatch | lost | reversal | vertical | speed | windowOverflow | tableFull | canvasFull
  deriving DecidableEq, Repr

/-- The sweep state. HELD carries the held cause, so the sweep is HELD exactly when the held cause is not
NONE (R121). -/
inductive SweepState where
  | idle | armed | sweeping | held (cause : Condition) | closing | finished
  deriving DecidableEq, Repr

/-- The action of a sweep mark (7.6), in the order of the codes. -/
inductive MarkAction where | signal | cueSet | cueClear | cueToggle | finish
  deriving DecidableEq, Repr

structure Mark where
  value : Nat
  action : MarkAction
  armed : Bool
  deriving DecidableEq, Repr

/-- The action result of a capture (7.7), in the order of the codes. -/
inductive CaptureResult where | none | taken | waiting | dropped
  deriving DecidableEq, Repr

/-- The shutter capture record (7.7). -/
structure Capture where
  progress : Nat
  newest : Option Serial
  current : Serial
  result : CaptureResult
  unread : Bool
  overrun : Bool
  deriving DecidableEq, Repr

inductive ClosureState where | none | detected | joined
  deriving DecidableEq, Repr

/-- The latest rejected detection (R144, R147). -/
structure Rejection where
  serial : Serial
  ce : Int
  ry : Int
  votes : Nat
  reason : ClosureReason
  deriving DecidableEq, Repr

/-- The closure record (R144). -/
structure Closure where
  state : ClosureState
  ce : Int
  ry : Int
  votes : Nat
  serial : Serial
  rejections : Nat
  last : Option Rejection
  deriving DecidableEq, Repr

/-- The last frame record (R26). -/
structure LastFrame where
  serial : Serial
  outcome : FrameOutcome
  x : Int
  y : Int
  inliers : Nat
  admitted : Nat
  stale : Nat
  step : Int
  deriving DecidableEq, Repr

/-- The Sweep Controller. `markFinishWaits` and `captureFinishWaits` are FINISH actions waiting for a
rollback operation to end (R140, R142). -/
structure Control where
  sweep : SweepState
  flags : BitVec 8
  masks : BitVec 8
  progress : Nat
  mark0 : Mark
  mark1 : Mark
  markFinishWaits : Bool
  capture : Capture
  captureFinish : Bool
  captureFinishWaits : Bool
  pace : Bool
  cue : Bool
  closure : Closure
  started : BitVec 32
  placed : BitVec 32
  dropped : BitVec 32
  setAside : BitVec 32
  last : LastFrame
  deriving DecidableEq, Repr

/-! ### Directive Reader (Chapter 9) -/

/-- A directive word as it was read, with CW/64 as it stood then: a RETIRE REGION word is checked against it (R166). -/
structure ReadWord where
  word : Word32
  nBins : Nat
  deriving DecidableEq, Repr

/-- A gap in progress (R164): the serial of its frame, and the word read and not yet applied; with no word a
word read is waiting for its grant. -/
structure Gap where
  frame : Serial
  word : Option ReadWord
  deriving DecidableEq, Repr

structure Reader where
  startPtr : Nat
  enabled : Bool
  readPtr : Nat
  budget : Nat
  fault : Option Nat
  gap : Option Gap
  deriving DecidableEq, Repr

/-! ### Context Mover (Chapter 10) -/

/-- A landmark in a checkpoint image (R176): no generation, state or pass mark; its place in its bin list. -/
structure ImageLandmark where
  pinned : Bool
  origin : Bool
  x : Int
  y : Int
  descriptor : BitVec 64
  strength : Nat
  hits : Nat
  misses : Nat
  firstSeen : Serial
  lastSeen : Serial
  bin : Nat
  place : Nat
  deriving DecidableEq, Repr

/-- A checkpoint image (R176). `landmarks` has one element per entry and `window` one per depth, absent where
the validity map says so; a window record's owned block count is not part of the image and stands as 0. -/
structure Image where
  format : Nat
  geo : Geometry
  progress : Nat
  mode : TrackMode
  predicted : Nat
  flags : BitVec 8
  masks : BitVec 8
  mark0 : Mark
  mark1 : Mark
  closure : Closure
  commitLine : Int
  motion : List Motion
  landmarks : List (Option ImageLandmark)
  window : List (Option Placement)
  coverage : List Coverage
  reserved : Nat
  crc : BitVec 32
  deriving DecidableEq, Repr

inductive SlotState where | empty | saving | valid
  deriving DecidableEq, Repr

/-- A checkpoint slot: state, save serial, and the image its 8 KiB hold (R171, log 11); the image stays when the slot
becomes EMPTY by a save that ends early, though nothing reads it then (R191). -/
structure Slot where
  state : SlotState
  saveSerial : Option Serial
  image : Option Image
  deriving DecidableEq, Repr

inductive RollbackResult where | none | ok | badImage | slotEmpty | cancelled
  deriving DecidableEq, Repr

/-- The two slots of the slot table. -/
inductive SlotId where | s0 | s1
  deriving DecidableEq, Repr

/-- The context operation in progress (R171): a save in its quiet wait, a save in its copy phase with the
frame serial at its start (R174), a verify, an apply. -/
inductive ContextOp where
  | none
  | quiet (slot : SlotId)
  | copy (slot : SlotId) (serial : Serial)
  | verify (slot : SlotId)
  | apply (slot : SlotId)
  deriving DecidableEq, Repr

/-- The Context Mover: the slot table, the last rollback, the operation, and how many bytes of the image granted bursts
have moved in a copy or verify (R10, R174, R178). -/
structure Context where
  slot0 : Slot
  slot1 : Slot
  lastResult : RollbackResult
  lastSlot : Option SlotId
  op : ContextOp
  moved : Nat
  deriving DecidableEq, Repr

/-! ### Export Unit (Chapter 8) -/

inductive JobState where | idle | running | stopping
  deriving DecidableEq, Repr

inductive JobResult where | none | complete | stopped
  deriving DecidableEq, Repr

/-- The block EU has reached in its line, and whether it read the block's entry as BLANK (R156). -/
structure Reached where
  block : Nat
  blank : Bool
  deriving DecidableEq, Repr

/-- The export job record (8.5). `columns` pairs each memory column with its shift (R155); `lineBegun` says
whether the next line is in progress (R158), `fetched` holds the source values of that line which EU has passed, and
`reached` the block it has reached in it (R10, R156). -/
structure Export where
  state : JobState
  panorama : Bool
  quarter : Bool
  columns : List (Nat × Int)
  firstRow : Nat
  rowCount : Nat
  linesSent : Nat
  result : JobResult
  lineBegun : Bool
  fetched : List Byte
  reached : Option Reached
  deriving DecidableEq, Repr

/-- What the pixel output port carries (R155). -/
inductive PortEvent where
  | frameStart
  | line (luma : List Byte) (chroma : List (Byte × Byte))
  | frameEnd
  deriving DecidableEq, Repr

/-! ### Link Interface (Chapter 11) -/

inductive ReplyStatus where | done | accepted | refused | pending | resetDone
  deriving DecidableEq, Repr

/-- A reply: status and data (11.5 outbound frame). -/
structure Reply where
  status : ReplyStatus
  data : List Byte
  deriving DecidableEq, Repr

/-- The command being processed (R185): taken and not yet checked; or accepted with its link burst or its
clear step still to come (R13, R136). -/
inductive Processing where
  | taken (c : HostCommand) (p : List Byte)
  | linkWrite (offset : Nat) (bytes : List Byte)
  | linkRead (offset count : Nat)
  | aborting
  deriving DecidableEq, Repr

/-- The Link Interface (Chapter 11). `transaction` is the outbound part of the transaction in progress. -/
structure Link where
  reply : Reply
  processing : Option Processing
  transaction : Option Reply
  events : BitVec 14
  enables : BitVec 14
  attn : Bool
  deriving DecidableEq, Repr

/-! ### The whole block -/

/-- The SP412. The last three fields are the model's own: what the pixel output port has carried, oldest
first (log 30); the counter free values are drawn with (log 10); the commands waiting, first in first out. -/
structure State where
  geo : Geometry
  prm : Params
  mem : Memory
  ma : Arbiter
  pi : Intake
  ltc : Table
  me : Matcher
  pw : List Placement
  bu : Blender
  sc : Control
  dr : Reader
  cx : Context
  eu : Export
  li : Link
  port : List PortEvent
  free : Nat
  pending : List Instr
  deriving DecidableEq, Repr

/-- What stops the machine. -/
inductive Fault where
  /-- An access to canvas memory past memory present (R7, R9). Raised by the steps that read or write canvas
  memory; no state reached from reset raises it. Safe: the manual gives no such access (log 31). -/
  | addressBeyondMemory
  deriving DecidableEq, Repr

/-- Commands without a meaning. -/
inductive Refusal where
  /-- Raised by exec's arm of a command that has no meaning yet. Safe. No arm is in this case. -/
  | notModelled (mnemonic : String)
  deriving DecidableEq, Repr

/-! ### Reset values (1.6, 2.7, R61, R86, R91, R120, 7.9, R144, R153, R163, R171, R184 to R191) -/

/-- The configuration after any reset (R6); start row by log 23. -/
def Geometry.default : Geometry := ⟨8192, 1280, 768, 1024, .east, 0, 0⟩

/-- The bracketed values of the host parameter table (R186). -/
def Params.default : Params where
  matchDist := 10
  searchRadius := 24
  minInliers := 6
  anchorHits := 4
  missLimit := 3
  predictLimit := 3
  minStep := 8
  reverseTol := 16
  minOverlap := 128
  paceLimit := 256
  feather := 32
  cornerMin := 400
  admitMax := 24
  closeEnable := true
  closeMin := 8
  closeVtol := 32

/-- A FREE bank with its record, guide image and candidate list empty (R23, R24). -/
def Bank.empty : Bank := ⟨.free, none, 0, false, .none, 0, [], [], [], 0⟩

def Intake.empty : Intake := ⟨none, [], [], 0#16, [], ⟨Bank.empty, Bank.empty, Bank.empty⟩⟩

/-- Every entry FREE with generation 0, 128 empty bin lists, the counts 0 (R61). -/
def Table.empty : Table := ⟨List.replicate 256 ⟨0#4, none⟩, List.replicate 128 [], 0, 0, 0, []⟩

def Matcher.empty : Matcher := ⟨[], none, .locked, 0, none⟩

/-- Nothing of a block or column is moved. -/
def Transfer.start : Transfer := ⟨0, []⟩

/-- 256 BLANK entries, the commit line −32, no reference, no pass (R120). -/
def Blender.empty : Blender := ⟨List.replicate 256 .blank, -32, none, none, none⟩

def Mark.empty : Mark := ⟨0, .signal, false⟩

def Capture.empty : Capture := ⟨0, none, 0#16, .none, false, false⟩

def Closure.empty : Closure := ⟨.none, 0, 0, 0, 0#16, 0, none⟩

def LastFrame.empty : LastFrame := ⟨0#16, .none, 0, 0, 0, 0, 0, 0⟩

def Control.empty : Control where
  sweep := .idle
  flags := 0#8
  masks := 255#8
  progress := 0
  mark0 := Mark.empty
  mark1 := Mark.empty
  markFinishWaits := false
  capture := Capture.empty
  captureFinish := false
  captureFinishWaits := false
  pace := false
  cue := false
  closure := Closure.empty
  started := 0#32
  placed := 0#32
  dropped := 0#32
  setAside := 0#32
  last := LastFrame.empty

def Reader.empty : Reader := ⟨0, false, 0, 0, none, none⟩

/-- A slot after power-on and RESET_N: EMPTY, its serial absent (R171). Its contents are undefined then (10.7) and nothing
reads them; the model holds no image there, its own choice (log 11). -/
def Slot.empty : Slot := ⟨.empty, none, none⟩

def Context.empty : Context := ⟨Slot.empty, Slot.empty, .none, none, .none, 0⟩

def Export.empty : Export := ⟨.idle, false, false, [], 0, 0, 0, .none, false, [], none⟩

/-- The empty reply: DONE with length 0 (R184). -/
def Reply.empty : Reply := ⟨.done, []⟩

/-- The power-on reset at its end (R190): RESET_DONE with cause POWER_ON (1) stands in the reply register.
The presence map, dies 0 and 1 (32 MiB), is the model's choice (log 5). -/
def State.reset : State where
  geo := Geometry.default
  prm := Params.default
  mem := ⟨[], 0⟩
  ma := ⟨3#4, .link, false, none, false⟩
  pi := Intake.empty
  ltc := Table.empty
  me := Matcher.empty
  pw := []
  bu := Blender.empty
  sc := Control.empty
  dr := Reader.empty
  cx := Context.empty
  eu := Export.empty
  li := ⟨⟨.resetDone, [1#8]⟩, none, none, 0#14, 0#14, false⟩
  port := []
  free := 0
  pending := []

end Sys2Proof.Machine
end

