-- ==== Sys2Proof/Machine/Geometry.lean ====
section
/-! DEFINITION. Canvas coordinates, blocks and bins, rounding, and the memory layout (Chapter 1, Conventions). -/

namespace Sys2Proof.Machine

/-- Rounding to the nearest integer, halves away from zero (Conventions, Rounding), of `n / m` for `m > 0`. -/
def roundDiv (n : Int) (m : Nat) : Int :=
  if 0 ≤ n then (2 * n + m) / (2 * m) else -((2 * -n + m) / (2 * m))

/-- `v` confined to `lo..hi`. -/
def clampInt (lo hi v : Int) : Int := max lo (min hi v)

/-- d: +1 for EAST, −1 for WEST (Conventions, Coordinates). -/
def Direction.sign : Direction → Int
  | .east => 1
  | .west => -1

/-- The wrapped distance of two positions on a circle of `m` units (Conventions, Coordinates). -/
def wrappedDist (a b : Int) (m : Nat) : Int := min ((a - b) % m) (m - (a - b) % m)

namespace Geometry

def nBlocks (g : Geometry) : Nat := g.cw / 32

def nBins (g : Geometry) : Nat := g.cw / 64

def d (g : Geometry) : Int := g.direction.sign

/-- The memory column of an unwrapped X (R1). -/
def memCol (g : Geometry) (x : Int) : Nat := ((g.startCol + x / 4) % g.cw).toNat

/-- The memory column of a u in whole columns (R1 with X = 4·d·u). -/
def memColU (g : Geometry) (u : Int) : Nat := ((g.startCol + g.d * u) % g.cw).toNat

/-- The column u of a position X: round(d·X/4) (4.6). -/
def columnU (g : Geometry) (x : Int) : Int := roundDiv (g.d * x) 4

/-- The sweep u of a memory column (R3). -/
def sweepU (g : Geometry) (m : Nat) : Nat := (g.d * ((m : Int) - g.startCol) % g.cw).toNat

/-- The place `a` of block `k` in the sweep: it covers sweep u 32a to 32a+31 (R3). -/
def blockPlace (g : Geometry) (k : Nat) : Nat := (g.d * ((k : Int) - (g.startCol / 32 : Nat)) % g.nBlocks).toNat

/-- The block at sweep place `a` (R3). -/
def blockAt (g : Geometry) (a : Nat) : Nat := (((g.startCol / 32 : Nat) + g.d * a) % g.nBlocks).toNat

/-- The place `b` of bin `j` in the sweep: it covers sweep u 64b to 64b+63 (R3). -/
def binPlace (g : Geometry) (j : Nat) : Nat := (g.d * ((j : Int) - (g.startCol / 64 : Nat)) % g.nBins).toNat

/-- A block lies wholly behind the line when 32·a + 32 ≤ line (R105). -/
def blockBehind (g : Geometry) (line : Int) (k : Nat) : Bool := (32 * g.blockPlace k + 32 : Int) ≤ line

/-- A bin lies wholly behind the line when 64·b + 64 ≤ line (R51). -/
def binBehind (g : Geometry) (line : Int) (j : Nat) : Bool := (64 * g.binPlace j + 64 : Int) ≤ line

/-- The bin holding the memory column of an X (R34). -/
def binOf (g : Geometry) (x : Int) : Nat := g.memCol x / 64

/-- The run of `count` bins from `first` (any integer), wrapping at CW/64 (R38). -/
def binRun (g : Geometry) (first : Int) (count : Nat) : List Nat :=
  (List.range count).map fun (i : Nat) => ((first + i) % g.nBins).toNat

/-- ARM's test of a start column: the trailing column of a bin in the direction (R3). -/
def startOk (dir : Direction) (col : Nat) : Bool :=
  match dir with
  | .east => col % 64 == 0
  | .west => col % 64 == 63

/-- Canvas size C in bytes (R9). -/
def canvasSize (g : Geometry) : Nat := g.cw * g.ch * 3 / 2

/-- Bank size B in bytes (R9). -/
def bankSize (g : Geometry) : Nat := g.fw * g.fh * 3 / 2

/-- Byte of canvas luma (m, r) (R4). -/
def lumaAddr (g : Geometry) (m r : Nat) : Nat := r * g.cw + m

/-- Byte of the Cb serving canvas pixel (m, r); Cr is the byte after (R4). -/
def chromaAddr (g : Geometry) (m r : Nat) : Nat := g.cw * g.ch + r / 2 * g.cw + 2 * (m / 2)

/-- Byte of frame luma at delivery column `c`, row `r`, from the bank's first address (R4). -/
def frameLuma (g : Geometry) (base c r : Nat) : Nat := base + r * g.fw + c

/-- Byte of the frame's Cb serving delivery column `c`, row `r` (R4). -/
def frameChroma (g : Geometry) (base c r : Nat) : Nat := base + g.fw * g.fh + r / 2 * g.fw + 2 * (c / 2)

/-- Delivery column of the frame's `k`-th column counted from its trailing side (R2). -/
def deliveryCol (g : Geometry) (k : Nat) : Nat :=
  match g.direction with
  | .east => k
  | .west => g.fw - 1 - k

/-- First and last memory row of a frame whose top row lands on `y0` (R108); empty when last is below first. -/
def usedRows (g : Geometry) (y0 : Int) : Int × Int := (max 0 y0, min (g.ch - 1) (y0 + g.fh - 1))

end Geometry

/-- Memory present in units of 32 MiB from the presence map (R7). -/
def presentUnits (dies : BitVec 4) : Nat :=
  if dies = 15#4 then 2 else if dies &&& 3#4 = 3#4 then 1 else 0

/-- Memory present M in bytes (R7). -/
def presentBytes (dies : BitVec 4) : Nat := presentUnits dies * 33554432

/-- R9: canvas and fixed regions do not overlap in `m` bytes of memory: C ≤ L = M − 20 KiB − 3B. -/
def Geometry.fitsIn (g : Geometry) (m : Nat) : Bool := g.canvasSize + 20480 + 3 * g.bankSize ≤ m

/-- Memory present is not 0 MiB (R8). -/
def State.hasMemory (s : State) : Bool := presentUnits s.ma.dies != 0

/-- Every region of R9 lies in memory present. -/
def State.memoryFits (s : State) : Bool := s.hasMemory && s.geo.fitsIn (presentBytes s.ma.dies)

/-- First address of the directive area, D (R9). -/
def State.directiveBase (s : State) : Nat := presentBytes s.ma.dies - 20480

/-- First address of a checkpoint slot's 8 KiB (R9); the image there is held as a record (log 11). -/
def State.slotBase (s : State) : SlotId → Nat
  | .s0 => presentBytes s.ma.dies - 16384
  | .s1 => presentBytes s.ma.dies - 8192

def BankId.index : BankId → Nat
  | .b0 => 0
  | .b1 => 1
  | .b2 => 2

/-- First address of a frame bank (R9). -/
def State.bankBase (s : State) (b : BankId) : Nat :=
  presentBytes s.ma.dies - 20480 - (b.index + 1) * s.geo.bankSize

end Sys2Proof.Machine
end

