-- ==== Sys2Proof/Machine/Memory.lean ====
section
/-! DEFINITION. Canvas memory: reading and writing bytes, and its canonical form. -/

namespace Sys2Proof.Machine

/-- The byte listed for an address. -/
def cellAt : List Host.Cell → Nat → Option Byte
  | [], _ => none
  | (k, b) :: rest, a => if k = a then some b else cellAt rest a

/-- The list with `b` at address `a`, kept in rising order. -/
def setCell : List Host.Cell → Nat → Byte → List Host.Cell
  | [], a, b => [(a, b)]
  | (k, c) :: rest, a, b =>
    if a < k then (a, b) :: (k, c) :: rest
    else if a = k then (a, b) :: rest
    else (k, c) :: setCell rest a b

/-- The canonical form: addresses strictly rising. An unlisted byte reads as a free value that equals no
listed byte, so no listed byte is redundant (log 6). -/
abbrev Memory.wf (m : Memory) : Prop := (m.cells.map Prod.fst).Pairwise (· < ·)

/-- A byte of canvas memory; undefined until written (R4, log 6). -/
def Memory.read (m : Memory) (a : Nat) : Byte := (cellAt m.cells a).getD (Config.powerOnByte m.epoch a)

def Memory.write (m : Memory) (a : Nat) (b : Byte) : Memory := { m with cells := setCell m.cells a b }

/-- A list of writes, first to last. -/
def Memory.writeAll (m : Memory) (cs : List Host.Cell) : Memory := cs.foldl (fun m c => m.write c.1 c.2) m

/-- The contents become undefined at power-on and RESET_N (R4, R14). -/
def Memory.lose (m : Memory) : Memory := ⟨[], m.epoch + 1⟩

/-- `n` bytes from address `a`. -/
def Memory.bytes (m : Memory) (a n : Nat) : List Byte := (List.range n).map fun i => m.read (a + i)

/-- The most a burst moves (R10). -/
def burstBytes : Nat := 64

/-- The bytes of a checkpoint image: a free value (log 11) from 1 to the 8 KiB of a slot (R9, chapter 10). -/
def imageBytes : Nat := min Config.imageLastByte 8191 + 1

/-- Bytes placed from address `a` on. -/
def cellsAt (a : Nat) (bs : List Byte) : List Host.Cell := (List.range bs.length).zip bs |>.map fun ib => (a + ib.1, ib.2)

def State.writeMem (s : State) (cs : List Host.Cell) : State := { s with mem := s.mem.writeAll cs }

/-- A step that reads or writes canvas memory; the model's one fault where a region lies past memory present
(R7, R9, log 31). -/
def State.access (s : State) (next : State) : Host.Outcome State Fault Refusal :=
  if s.memoryFits then .next next else .fault .addressBeyondMemory

end Sys2Proof.Machine
end

