-- ==== Sys2Proof/Machine/Bursts.lean ====
section
/-! DEFINITION. Work that goes in bursts (R10): the bytes it writes, each with the bytes it is formed from, and what one
granted burst, a read or a write of up to 64 bytes, does to it. -/

namespace Sys2Proof.Machine

/-- A byte that a block write or a join column writes: its address, the addresses it is formed from, and how. -/
structure Output where
  target : Nat
  sources : List Nat
  form : (Nat → Byte) → Byte

/-- The byte as a cell, formed from what `rd` gives for each address. -/
def Output.cell (rd : Nat → Byte) (o : Output) : Host.Cell := (o.target, o.form rd)

/-- The addresses a list of bytes is formed from, in order. -/
def sourcesOf (os : List Output) : List Nat := os.flatMap Output.sources

/-- The byte held for an address, where `held` was read from `addrs` in order; no other address is asked for. -/
def heldAt (addrs : List Nat) (held : List Byte) (a : Nat) : Byte := held[addrs.idxOf a]?.getD 0#8

/-- A granted read burst: the next bytes of `addrs`, up to 64, behind those already read (R10). -/
def State.readOn (s : State) (addrs : List Nat) (held : List Byte) : List Byte :=
  held ++ ((addrs.drop held.length).take burstBytes).map s.mem.read

namespace Transfer

/-- The bytes to be written next, up to 64: what one write burst moves. -/
def chunk (t : Transfer) (os : List Output) : List Output := (os.drop t.written).take burstBytes

/-- Nothing is left to write. -/
def done (t : Transfer) (os : List Output) : Bool := decide (os.length ≤ t.written)

/-- The bytes to be written next are still to be read. -/
def reads (t : Transfer) (os : List Output) : Bool := decide (t.held.length < (sourcesOf (t.chunk os)).length)

end Transfer

/-- What a granted burst writes of some work: nothing where it reads (R10). -/
def Transfer.cells (t : Transfer) (os : List Output) : List Host.Cell :=
  if t.reads os then []
  else (t.chunk os).map (Output.cell (heldAt (sourcesOf (t.chunk os)) t.held))

/-- How far a granted burst brings some work: one read, or one write (R10). -/
def State.advance (s : State) (t : Transfer) (os : List Output) : Transfer :=
  if t.reads os then { t with held := s.readOn (sourcesOf (t.chunk os)) t.held }
  else ⟨t.written + (t.chunk os).length, []⟩

end Sys2Proof.Machine
end

