-- ==== Sys2Proof/Machine/Operands.lean ====
section
/-! DEFINITION. Operand forms: parameter bytes of host commands, fields of directive words, and the bytes of replies
(11.5: all multi-byte values little-endian, signed values in two's complement). -/

namespace Sys2Proof.Machine

/-! ### Parameter bytes -/

/-- Byte `i` of the parameters as a number; callers check the length first. -/
def u8At (p : List Byte) (i : Nat) : Nat := (p.getD i 0#8).toNat

/-- Two bytes from `i`, unsigned. -/
def u16At (p : List Byte) (i : Nat) : Nat := u8At p i + 256 * u8At p (i + 1)

/-- The two's complement reading of an unsigned `n` of `bits` bits. -/
def signedOf (bits n : Nat) : Int := if n < 2 ^ (bits - 1) then n else (n : Int) - (2 ^ bits : Nat)

def s8At (p : List Byte) (i : Nat) : Int := signedOf 8 (u8At p i)

def s16At (p : List Byte) (i : Nat) : Int := signedOf 16 (u16At p i)

/-! ### Reply bytes -/

/-- `k` bytes of a number, least significant first. -/
def leBytes : Nat → Nat → List Byte
  | 0, _ => []
  | k + 1, n => BitVec.ofNat 8 n :: leBytes k (n / 256)

/-- `k` bytes of a signed number in two's complement. -/
def leSigned (k : Nat) (z : Int) : List Byte := leBytes k (z % (256 ^ k : Nat)).toNat

def byteOf (n : Nat) : Byte := BitVec.ofNat 8 n

def byteBool (b : Bool) : Byte := if b then 1#8 else 0#8

def leSerial (v : Serial) : List Byte := leBytes 2 v.toNat

/-- A two-byte value with 0xFFFF for absent (READ STATUS). -/
def leOrFFFF : Option Nat → List Byte
  | some n => leBytes 2 n
  | none => [255#8, 255#8]

/-! ### Directive words (11.5 Directive word) -/

/-- A field of `width` bits from bit `lo`. -/
def field (w : Word32) (lo width : Nat) : Nat := w.toNat / 2 ^ lo % 2 ^ width

/-- The four bytes of a directive word in memory, little-endian (log 33). -/
def wordOfBytes (bs : List Byte) : Word32 :=
  BitVec.ofNat 32 (u8At bs 0 + 256 * u8At bs 1 + 65536 * u8At bs 2 + 16777216 * u8At bs 3)

/-! ### Codes of named values (11.5 Byte encodings) -/

def ReplyStatus.code : ReplyStatus → Nat
  | .done => 1 | .accepted => 2 | .refused => 3 | .pending => 4 | .resetDone => 5

/-- Refusal reasons (11.5). -/
inductive Reason where
  | unknownCommand | badLength | badValue | wrongState | busy | isProtected | emptyEntry | noMemory
  | limit | slotEmpty
  deriving DecidableEq, Repr

def Reason.code : Reason → Nat
  | .unknownCommand => 1 | .badLength => 2 | .badValue => 3 | .wrongState => 4 | .busy => 5
  | .isProtected => 6 | .emptyEntry => 7 | .noMemory => 8 | .limit => 9 | .slotEmpty => 10

def ResetCause.code : ResetCause → Nat
  | .powerOn => 1 | .pin => 2 | .command => 3

def Condition.bit : Condition → Nat
  | .lowMatch => 0 | .lost => 1 | .reversal => 2 | .vertical => 3 | .speed => 4 | .windowOverflow => 5
  | .tableFull => 6 | .canvasFull => 7

def SweepState.code : SweepState → Nat
  | .idle => 0 | .armed => 1 | .sweeping => 2 | .held _ => 3 | .closing => 4 | .finished => 5

/-- Held cause: the condition's bit number, NONE 8. -/
def SweepState.causeCode : SweepState → Nat
  | .held c => c.bit
  | .idle | .armed | .sweeping | .closing | .finished => 8

def TrackMode.code : TrackMode → Nat
  | .locked => 0 | .coasting => 1 | .searching => 2

def BankState.code : BankState → Nat
  | .free => 0 | .filling => 1 | .queued => 2 | .matching => 3 | .placed => 4 | .blending => 5

def FrameOutcome.code : FrameOutcome → Nat
  | .none => 0 | .origin => 1 | .placed => 2 | .predicted => 3 | .hostPlaced => 4 | .dwell => 5 | .reversed => 6
  | .unplaced => 7 | .discarded => 8 | .canvasEnd => 9 | .droppedBusy => 10 | .droppedHeld => 11
  | .droppedClosing => 12 | .damaged => 13 | .abandoned => 14

/-- Class code; FREE is 0. -/
def LandmarkState.code : LandmarkState → Nat
  | .tentative => 1 | .tracked => 2 | .anchored => 3 | .fading => 4

def PlacementState.code : PlacementState → Nat
  | .placed => 0 | .blending => 1 | .blended => 2

def HowPlaced.code : HowPlaced → Nat
  | .origin => 0 | .matched => 1 | .predicted => 2 | .host => 3

def MarkAction.ofCode : Nat → Option MarkAction
  | 0 => some .signal | 1 => some .cueSet | 2 => some .cueClear | 3 => some .cueToggle | 4 => some .finish
  | _ => none

def MarkAction.code : MarkAction → Nat
  | .signal => 0 | .cueSet => 1 | .cueClear => 2 | .cueToggle => 3 | .finish => 4

def JobState.code : JobState → Nat
  | .idle => 0 | .running => 1 | .stopping => 2

def JobResult.code : JobResult → Nat
  | .none => 0 | .complete => 1 | .stopped => 2

def SlotState.code : SlotState → Nat
  | .empty => 0 | .saving => 1 | .valid => 2

def RollbackResult.code : RollbackResult → Nat
  | .none => 0 | .ok => 1 | .badImage => 2 | .slotEmpty => 3 | .cancelled => 4

def SlotId.code : SlotId → Nat
  | .s0 => 0 | .s1 => 1

/-- Operation code and the slot's byte, 0xFF when the operation is NONE. -/
def ContextOp.code : ContextOp → Nat
  | .none => 0 | .quiet _ => 1 | .copy _ _ => 1 | .verify _ => 2 | .apply _ => 3

def ContextOp.slot? : ContextOp → Option SlotId
  | .none => Option.none
  | .quiet k => some k
  | .copy k _ => some k
  | .verify k => some k
  | .apply k => some k

def ClosureState.code : ClosureState → Nat
  | .none => 0 | .detected => 1 | .joined => 2

def ClosureReason.code : ClosureReason → Nat
  | .residual => 1 | .circumference => 2

def CaptureResult.code : CaptureResult → Nat
  | .none => 0 | .taken => 1 | .waiting => 2 | .dropped => 3

/-- The feather of a BLEND directive's code (R166). -/
def featherOfCode : Nat → Option Nat
  | 0 => some 0 | 1 => some 8 | 2 => some 16 | 3 => some 32 | 4 => some 64
  | _ => none

def featherCode : Nat → Nat
  | 0 => 0 | 8 => 1 | 16 => 2 | 32 => 3 | _ => 4

def Direction.ofCode : Nat → Option Direction
  | 0 => some .east | 1 => some .west
  | _ => none

/-- A byte naming one of two values by 0 and 1 (directions, scales, modes, list enable, capture action). -/
def bitOfCode : Nat → Option Bool
  | 0 => some false | 1 => some true
  | _ => none

def SlotId.ofCode : Nat → Option SlotId
  | 0 => some .s0 | 1 => some .s1
  | _ => none

end Sys2Proof.Machine
end

