-- ==== Sys2Proof/WellFormed.lean ====
section
/-! DEFINITION. Which commands can be sent at all: the length byte of a link transaction is at most 80 (R184, 11.5). -/

namespace Sys2Proof

/-- The most parameter bytes a row's operand can hold: 80, and 79 for the RESUME rows, whose mode byte is not
part of the operand (log 4). -/
def HostCommand.maxParams : HostCommand → Nat
  | .resumeAccept | .resumeSkip | .resumePlace | .resumeRollback => 79
  | .nop | .readIdentity | .readStatus | .readEvents | .setEventEnables | .reset | .configure | .setParameters
  | .setMasks | .clearConditions | .arm | .finish | .abort | .release | .hint | .setMark | .readCapture
  | .setCaptureAction | .readLandmark | .findLandmarks | .examineLandmark | .pinLandmark | .unpinLandmark
  | .retireLandmark | .retireRegion | .readPlacement | .readCoverage | .readClosure | .writeDirectives
  | .readDirectives | .setList | .checkpoint | .rollback | .readSlots | .exportStart | .exportStop => 80

/-- A host command's operand fits into one transaction; every other step is well-formed. -/
def Instr.wellFormed (i : Instr) : Bool :=
  match i.hostCommand? with
  | some (c, p) => p.length ≤ c.maxParams
  | none => true

end Sys2Proof
end

