-- ==== Sys2Proof/Decode.lean ====
section
/-! DEFINITION. What arrives as bits: the table's words (none), the link's command frames (11.5 Command codes), and directive
words (11.5 Directive word, R166) with their encoder. -/

namespace Sys2Proof

open Machine

/-- The table gives no row any bits, so no word spells a command. -/
def decodeTableWord (_nbits _w : Nat) : Option Instr := none

/-! ### Command frames -/

/-- What LI makes of a command code and its parameters (R185 check 1, and R128 for RESUME's mode byte, log 4). -/
inductive LinkTake where
  | take (c : HostCommand) (p : List Byte)
  | refuse (r : Reason)
  deriving DecidableEq, Repr

/-- RESUME's mode byte names the row; no byte is BAD_LENGTH, a byte that names no mode BAD_VALUE (R128). A byte that names
no mode is met before the length, which R128 holds against a named mode's only: with 3 bytes, or 5, R185's check 2 would
give BAD_LENGTH, and the model's choice is BAD_VALUE (log 41). -/
def resumeTake : List Byte → LinkTake
  | [] => .refuse .badLength
  | m :: rest =>
    match m.toNat with
    | 0 => .take .resumeAccept rest
    | 1 => .take .resumeSkip rest
    | 2 => .take .resumePlace rest
    | 3 => .take .resumeRollback rest
    | _ => .refuse .badValue

/-- The command table (11.5 Command codes). -/
def linkTake (code : Nat) (p : List Byte) : LinkTake :=
  match code with
  | 0x00 => .take .nop p
  | 0x01 => .take .readIdentity p
  | 0x02 => .take .readStatus p
  | 0x03 => .take .readEvents p
  | 0x04 => .take .setEventEnables p
  | 0x05 => .take .reset p
  | 0x10 => .take .configure p
  | 0x11 => .take .setParameters p
  | 0x12 => .take .setMasks p
  | 0x13 => .take .clearConditions p
  | 0x20 => .take .arm p
  | 0x21 => .take .finish p
  | 0x22 => .take .abort p
  | 0x23 => resumeTake p
  | 0x24 => .take .release p
  | 0x25 => .take .hint p
  | 0x26 => .take .setMark p
  | 0x27 => .take .readCapture p
  | 0x28 => .take .setCaptureAction p
  | 0x30 => .take .readLandmark p
  | 0x31 => .take .findLandmarks p
  | 0x32 => .take .examineLandmark p
  | 0x33 => .take .pinLandmark p
  | 0x34 => .take .unpinLandmark p
  | 0x35 => .take .retireLandmark p
  | 0x36 => .take .retireRegion p
  | 0x38 => .take .readPlacement p
  | 0x39 => .take .readCoverage p
  | 0x3A => .take .readClosure p
  | 0x40 => .take .writeDirectives p
  | 0x41 => .take .readDirectives p
  | 0x42 => .take .setList p
  | 0x48 => .take .checkpoint p
  | 0x49 => .take .rollback p
  | 0x4A => .take .readSlots p
  | 0x50 => .take .exportStart p
  | 0x51 => .take .exportStop p
  | _ => .refuse .unknownCommand

/-! ### Directive words -/

/-- A valid directive (R165, R166). `mark` names its unit by a Bool, `blend` carries the feather in columns. -/
inductive Directive where
  | stop
  | skip
  | next (p : Nat)
  | nextAndStop (p : Nat)
  | signal
  | hint (dx dy : Int)
  | masks (m : BitVec 8)
  | mark (unit : Bool) (action : MarkAction) (value : Nat)
  | retireRegion (first count : Nat)
  | blend (feather : Nat)
  deriving DecidableEq, Repr

/-- The directive a word spells, with `nBins` = CW/64 as it stands; `none` is a fault (R166): kind 10 to 15, a
field out of range, or a bit the kind does not use that is not zero. -/
def decodeDirective (nBins : Nat) (w : Word32) : Option Directive :=
  match field w 28 4 with
  | 0 => if field w 0 28 = 0 then some .stop else none
  | 1 => if field w 0 28 = 0 then some .skip else none
  | 2 => if field w 10 18 = 0 then some (.next (field w 0 10)) else none
  | 3 => if field w 10 18 = 0 then some (.nextAndStop (field w 0 10)) else none
  | 4 => if field w 0 28 = 0 then some .signal else none
  | 5 => if field w 0 8 = 0 then some (.hint (signedOf 12 (field w 16 12)) (signedOf 8 (field w 8 8))) else none
  | 6 => if field w 8 20 = 0 then some (.masks (BitVec.ofNat 8 (field w 0 8))) else none
  | 7 =>
    if field w 16 8 = 0 then
      (MarkAction.ofCode (field w 24 3)).map fun a => .mark (field w 27 1 == 1) a (field w 0 16)
    else none
  | 8 =>
    if field w 9 11 = 0 ∧ field w 20 8 < nBins ∧ 1 ≤ field w 0 9 ∧ field w 0 9 ≤ nBins then
      some (.retireRegion (field w 20 8) (field w 0 9))
    else none
  | 9 => if field w 3 25 = 0 then (featherOfCode (field w 0 3)).map .blend else none
  | _ => none

/-- A directive whose fields lie in the ranges of R166. -/
def Directive.valid (nBins : Nat) : Directive → Bool
  | .stop | .skip | .signal | .masks _ => true
  | .next p | .nextAndStop p => p ≤ 1023
  | .hint dx dy => -2048 ≤ dx && dx ≤ 2047 && -128 ≤ dy && dy ≤ 127
  | .mark _ _ v => v ≤ 65535
  | .retireRegion first count => first < nBins && 1 ≤ count && count ≤ nBins
  | .blend f => f == 0 || f == 8 || f == 16 || f == 32 || f == 64

/-- The word of a directive (11.5 Directive word). -/
def encodeDirective : Directive → Word32
  | .stop => BitVec.ofNat 32 0
  | .skip => BitVec.ofNat 32 (1 * 2 ^ 28)
  | .next p => BitVec.ofNat 32 (2 * 2 ^ 28 + p)
  | .nextAndStop p => BitVec.ofNat 32 (3 * 2 ^ 28 + p)
  | .signal => BitVec.ofNat 32 (4 * 2 ^ 28)
  | .hint dx dy => BitVec.ofNat 32 (5 * 2 ^ 28 + (dx % 4096).toNat * 2 ^ 16 + (dy % 256).toNat * 2 ^ 8)
  | .masks m => BitVec.ofNat 32 (6 * 2 ^ 28 + m.toNat)
  | .mark u a v => BitVec.ofNat 32 (7 * 2 ^ 28 + u.toNat * 2 ^ 27 + a.code * 2 ^ 24 + v)
  | .retireRegion first count => BitVec.ofNat 32 (8 * 2 ^ 28 + first * 2 ^ 20 + count)
  | .blend f => BitVec.ofNat 32 (9 * 2 ^ 28 + featherCode f)

end Sys2Proof
end

