-- ==== Sys2Proof/Machine/Flags.lean ====
section
/-! DEFINITION. The flags: event flags with their enables and ATTN (R187, R188), and condition flags with their masks (7.2). -/

namespace Sys2Proof.Machine

/-- The fourteen events, in bit order (11.3). -/
inductive Event where
  | held | closure | finished | aborted | exportDone | checkpointDone | rollbackDone | mark0 | mark1 | capture
  | directiveSignal | directiveFault | frameDropped | framePlaced
  deriving DecidableEq, Repr

def Event.bit : Event → Nat
  | .held => 0 | .closure => 1 | .finished => 2 | .aborted => 3 | .exportDone => 4 | .checkpointDone => 5
  | .rollbackDone => 6 | .mark0 => 7 | .mark1 => 8 | .capture => 9 | .directiveSignal => 10
  | .directiveFault => 11 | .frameDropped => 12 | .framePlaced => 13

/-- ATTN is asserted exactly when some flag is both set and enabled (R188). -/
def attnOf (events enables : BitVec 14) : Bool := events &&& enables != 0#14

/-- New flags and enables, with ATTN driven anew in the same step (R188). -/
def State.driveEvents (s : State) (events enables : BitVec 14) : State :=
  { s with li := { s.li with events := events, enables := enables, attn := attnOf events enables } }

/-- A block raises an event: its flag is set whether or not it is enabled (R187). -/
def State.raise (s : State) (e : Event) : State :=
  s.driveEvents (s.li.events ||| BitVec.ofNat 14 (2 ^ e.bit)) s.li.enables

def Condition.mask (c : Condition) : BitVec 8 := BitVec.ofNat 8 (2 ^ c.bit)

/-- The condition's flag stands. -/
def State.flagSet (s : State) (c : Condition) : Bool := s.sc.flags &&& c.mask != 0#8

/-- The condition is masked (R126: a set bit masks). -/
def State.masked (s : State) (c : Condition) : Bool := s.sc.masks &&& c.mask != 0#8

/-- SC sets a condition's flag (R124). -/
def State.setFlag (s : State) (c : Condition) : State := { s with sc := { s.sc with flags := s.sc.flags ||| c.mask } }

/-- CLEAR CONDITIONS: every flag but the held cause's while HELD (R127). -/
def State.clearFlags (s : State) : State :=
  match s.sc.sweep with
  | .held c => { s with sc := { s.sc with flags := s.sc.flags &&& c.mask } }
  | .idle | .armed | .sweeping | .closing | .finished => { s with sc := { s.sc with flags := 0#8 } }

end Sys2Proof.Machine
end

