-- ==== Sys2Proof/Machine/Ops.lean ====
section
/-! DEFINITION. The shared operations: replies, frame banks and outcomes, the Landmark Table, coverage and placement records,
conditions and holds, finishing a sweep, and the ends of context operations and export jobs. -/

namespace Sys2Proof.Machine

/-! ### Replies (R184, R185) -/

/-- The reply is formed: it enters the reply register and the processing indication becomes none (R185). -/
def State.reply (s : State) (r : Reply) : State := { s with li := { s.li with reply := r, processing := none } }

def State.answer (s : State) (data : List Byte) : State := s.reply ⟨.done, data⟩

def State.accept (s : State) : State := s.reply ⟨.accepted, []⟩

/-- REFUSED with the reason in one data byte; no other state changes (R185). -/
def State.refuse (s : State) (r : Reason) : State := s.reply ⟨.refused, [byteOf r.code]⟩

/-- LI has taken this command: a transaction carried it and it is being processed, or no command is being
processed and no transaction is open, the command's own transaction being implied (log 3). -/
def State.delivers (s : State) (c : HostCommand) (p : List Byte) : Bool :=
  s.ma.sensing.isNone &&
    match s.li.processing with
    | some (.taken c' p') => decide (c' = c ∧ p' = p)
    | some _ => false
    | none => s.li.transaction.isNone && decide (p.length ≤ c.maxParams)

/-- A host command step: a command LI has not taken is lost (R184); a parameter length that the command does
not allow is refused with BAD_LENGTH (R185 check 2); otherwise the command's own rule `f` answers. -/
def State.command (s : State) (c : HostCommand) (p : List Byte) (lenOk : Nat → Bool) (f : State → State) :
    Host.Outcome State Fault Refusal :=
  .next (if s.delivers c p then (if lenOk p.length then f s else s.refuse .badLength) else s)

/-! ### Phases that block others -/

/-- Between ABORT's stop step and its clear step (R136). -/
def State.aborting (s : State) : Bool := s.li.processing = some .aborting

/-- A rollback apply is in its stop phase (R179). -/
def State.applying (s : State) : Bool :=
  match s.cx.op with
  | .apply _ => true
  | .none | .quiet _ | .copy _ _ | .verify _ => false

/-- A stop stands on the Match Engine and the Blend Unit (R118, R136, R179). -/
def State.stopping (s : State) : Bool := s.aborting || s.applying

/-- A checkpoint copy is in progress (R174). -/
def State.copying (s : State) : Bool :=
  match s.cx.op with
  | .copy _ _ => true
  | .none | .quiet _ | .verify _ | .apply _ => false

/-- A checkpoint save is in its quiet wait or its copy phase: pushes and batch openings are fenced (R173). -/
def State.saving (s : State) : Bool :=
  match s.cx.op with
  | .quiet _ | .copy _ _ => true
  | .none | .verify _ | .apply _ => false

/-- A rollback verify or apply is in progress. -/
def State.rollingBack (s : State) : Bool :=
  match s.cx.op with
  | .verify _ | .apply _ => true
  | .none | .quiet _ | .copy _ _ => false

/-- Host changes of the table are refused and directive claims wait (R37). -/
def State.tableBusy (s : State) : Bool := s.copying || s.applying

/-- A block write has begun and not ended (R113): force-commit requests and stops wait for its end. -/
def State.insideBlock (s : State) : Bool :=
  s.bu.pass.any fun b =>
    match b.stage with
    | .inBlock _ _ _ => true
    | .measuring _ | .writing _ | .ending _ _ => false

/-- The Blend Unit has no pass and no join, or one at a block boundary (R107) or between two join columns (R151). -/
def State.blendAtBoundary (s : State) : Bool :=
  (s.bu.join.all fun j => decide (j.move = .start)) && s.bu.pass.all fun b =>
    match b.stage with
    | .writing _ => true
    | .measuring _ | .inBlock _ _ _ | .ending _ _ => false

/-! ### Frame banks and outcomes (R23, R26) -/

def Banks.get (k : Banks) : BankId → Bank
  | .b0 => k.b0
  | .b1 => k.b1
  | .b2 => k.b2

def Banks.set (k : Banks) (b : BankId) (v : Bank) : Banks :=
  match b with
  | .b0 => { k with b0 := v }
  | .b1 => { k with b1 := v }
  | .b2 => { k with b2 := v }

def State.bank (s : State) (b : BankId) : Bank := s.pi.banks.get b

def State.setBank (s : State) (b : BankId) (v : Bank) : State :=
  { s with pi := { s.pi with banks := s.pi.banks.set b v } }

/-- FILLING, QUEUED or MATCHING: the frame has no outcome yet (R27). -/
def BankState.isOpen : BankState → Bool
  | .filling | .queued | .matching => true
  | .free | .placed | .blending => false

/-- A bank becomes FREE: its serial is absent; the guide image and list are emptied at its next frame-start
(R18, R24, R32). -/
def Bank.freed (k : Bank) : Bank := { k with state := .free, serial := none }

def bankIds : List BankId := [.b0, .b1, .b2]

/-- The bank that holds the frame of this serial in this state. -/
def State.findBank (s : State) (st : BankState) (v : Serial) : Option BankId :=
  bankIds.find? fun b => decide ((s.bank b).state = st ∧ (s.bank b).serial = some v)

/-- The frame of this serial has no outcome yet (R27). -/
def State.withoutOutcome (s : State) (v : Serial) : Bool :=
  bankIds.any fun b => (s.bank b).state.isOpen && decide ((s.bank b).serial = some v)

/-- DROPPED_BUSY, DROPPED_HELD, DROPPED_CLOSING and DAMAGED: counted as dropped, raising FRAME_DROPPED (R26). -/
def FrameOutcome.isDropped : FrameOutcome → Bool
  | .droppedBusy | .droppedHeld | .droppedClosing | .damaged => true
  | .none | .origin | .placed | .predicted | .hostPlaced | .dwell | .reversed | .unplaced | .discarded | .canvasEnd
  | .abandoned => false

/-- ORIGIN, PLACED, PREDICTED, HOST_PLACED: counted as placed (R26). -/
def FrameOutcome.isPlaced : FrameOutcome → Bool
  | .origin | .placed | .predicted | .hostPlaced => true
  | .none | .dwell | .reversed | .unplaced | .discarded | .canvasEnd | .droppedBusy | .droppedHeld
  | .droppedClosing | .damaged | .abandoned => false

/-- SC counts an outcome and writes the last frame record; LI takes FRAME_DROPPED where it is due (R26). -/
def State.recordOutcome (s : State) (lf : LastFrame) : State :=
  if lf.outcome.isDropped then
    ({ s with sc := { s.sc with dropped := s.sc.dropped + 1#32, last := lf } }).raise .frameDropped
  else if lf.outcome.isPlaced then
    { s with sc := { s.sc with placed := s.sc.placed + 1#32, last := lf } }
  else
    { s with sc := { s.sc with setAside := s.sc.setAside + 1#32, last := lf } }

/-- The last frame record of an outcome that PI assigns: every measure is 0 (R26). -/
def LastFrame.ofIntake (v : Serial) (o : FrameOutcome) : LastFrame := ⟨v, o, 0, 0, 0, 0, 0, 0⟩

/-- A frame without an outcome takes one other than a push: its bank becomes FREE and leaves the queue (R23,
R26). -/
def State.settle (s : State) (b : BankId) (lf : LastFrame) : State :=
  if (s.bank b).state.isOpen then
    let s := s.setBank b (s.bank b).freed
    ({ s with pi := { s.pi with queue := s.pi.queue.filter fun c => !decide (c = b) } }).recordOutcome lf
  else s

/-- A hint tagged with this serial is cleared (R66). -/
def State.clearHint (s : State) (v : Serial) : State :=
  match s.me.hint with
  | some h => if h.tag = some v then { s with me := { s.me with hint := none } } else s
  | none => s

/-- A frame takes an outcome that PI assigns, so without a match pass (R26, R66). -/
def State.settleIntake (s : State) (b : BankId) (o : FrameOutcome) : State :=
  let v := (s.bank b).serial.getD 0#16
  (s.settle b (LastFrame.ofIntake v o)).clearHint v

/-- PI sets the drop mark of a storing bank unless one stands (R22). -/
def State.markStoring (s : State) (m : DropMark) : State :=
  match s.pi.port with
  | some b =>
    if (s.bank b).drop = .none then s.setBank b { s.bank b with drop := m } else s
  | none => s

/-- Every QUEUED bank is released as DROPPED_CLOSING, in queue order (R22). -/
def State.releaseQueue (s : State) : State := s.pi.queue.foldl (fun s b => s.settleIntake b .droppedClosing) s

/-- ABORT's clear step and the replace step: frames without an outcome become ABANDONED, the FILLING frame
first and then the queue (R22, log 19), every other bank is freed, and the port returns to AWAIT. -/
def State.abandonBanks (s : State) : State :=
  let s := match s.pi.port with
    | some b => s.settleIntake b .abandoned
    | none => s
  let s := s.pi.queue.foldl (fun s b => s.settleIntake b .abandoned) s
  let s := bankIds.foldl (fun s b => s.settleIntake b .abandoned) s
  { s with pi := { s.pi with port := none, waiting := [], filling := [], queue := [], banks :=
      ⟨s.pi.banks.b0.freed, s.pi.banks.b1.freed, s.pi.banks.b2.freed⟩ } }

/-! ### The Landmark Table (R33, R34, R40) -/

def Table.lm (t : Table) (i : Nat) : Option Landmark := t.entries[i]?.bind (·.lm)

def Table.gen (t : Table) (i : Nat) : BitVec 4 := (t.entries[i]?.map (·.gen)).getD 0#4

def Table.bin (t : Table) (j : Nat) : List Nat := t.bins[j]?.getD []

/-- A live record is rewritten in place. -/
def Table.put (t : Table) (i : Nat) (r : Landmark) : Table :=
  { t with entries := t.entries.modify i fun e => { e with lm := some r } }

/-- A landmark is protected when PINNED or ORIGIN is set (R33). -/
def Landmark.isProtected (r : Landmark) : Bool := r.pinned || r.origin

/-- Retirement (R40): out of its bin list, generation advanced, counts lowered, the entry FREE. -/
def Table.retire (t : Table) (i : Nat) : Table :=
  match t.lm i with
  | none => t
  | some r =>
    { t with
      entries := t.entries.modify i fun e => ⟨e.gen + 1#4, none⟩
      bins := t.bins.modify r.bin fun l => l.filter fun k => !decide (k = i)
      live := t.live - 1
      pinned := t.pinned - r.pinned.toNat
      origin := t.origin - r.origin.toNat }

def Table.retireAll (t : Table) (is : List Nat) : Table := is.foldl Table.retire t

/-- The entries whose live record satisfies `f`, in index order. -/
def Table.indicesOf (t : Table) (f : Landmark → Bool) : List Nat :=
  (List.range t.entries.length).filter fun i => (t.lm i).any f

/-- The clear at ABORT and RELEASE: every live entry retired, every bin list empty, the counts 0 (R54). -/
def Table.clear (t : Table) : Table :=
  { t with
    entries := t.entries.map fun e => if e.lm.isSome then ⟨e.gen + 1#4, none⟩ else e
    bins := t.bins.map fun _ => []
    live := 0
    pinned := 0
    origin := 0 }

/-- The unpinned landmarks listed in a run of bins, in bin order and list order (R52). -/
def Table.regionVictims (t : Table) (bins : List Nat) : List Nat :=
  (bins.flatMap t.bin).filter fun i => (t.lm i).any fun r => !r.pinned

/-- The lowest-numbered FREE entry (R47). -/
def Table.freeEntry (t : Table) : Option Nat := t.entries.findIdx? fun e => e.lm.isNone

/-! ### Coverage and placement records (R97, R104) -/

def Coverage.owner : Coverage → Option Serial
  | .opened o => some o
  | .blank | .committed => none

/-- How many blocks of a coverage map are OPEN under a serial (R88). -/
def ownedIn (cov : List Coverage) (v : Serial) : Nat := (cov.filter fun c => decide (c.owner = some v)).length

/-- OPEN blocks that `sel` picks by block number and owner become COMMITTED; each owner's count falls with
them, as one step (R97, R116, R117). -/
def State.commitBlocks (s : State) (sel : Nat → Serial → Bool) : State :=
  let cov := s.bu.coverage.mapIdx fun k c =>
    match c with
    | .opened o => if sel k o then .committed else c
    | .blank | .committed => c
  { s with
    bu := { s.bu with coverage := cov }
    pw := s.pw.map fun r => { r with owned := r.owned - (ownedIn s.bu.coverage r.serial - ownedIn cov r.serial) } }

/-- A record of the window, by serial. -/
def State.record (s : State) (v : Serial) : Option Placement := s.pw.find? fun r => decide (r.serial = v)

def State.updateRecord (s : State) (v : Serial) (f : Placement → Placement) : State :=
  { s with pw := s.pw.map fun r => if r.serial = v then f r else r }

/-- The coverage map, the commit line and the reference as ARM, RELEASE and ABORT leave them (R104 to R106);
no pass or join is in progress after them. -/
def State.clearBlender (s : State) : State :=
  { s with bu := ⟨List.replicate s.geo.nBlocks .blank, -32, none, none, none⟩ }

/-- Motion record and hint register empty, mode LOCKED, count 0 (R64, R66, R73); no pass. -/
def State.clearMatcher (s : State) : State := { s with me := Matcher.empty }

/-! ### Conditions, holds and sweep states (R22, R124, R125) -/

/-- A hold, in one step: held cause and state, the storing bank marked, HELD raised (R125). -/
def State.hold (s : State) (c : Condition) : State :=
  (({ s with sc := { s.sc with sweep := .held c } }).markStoring .held).raise .held

/-- A condition report (R124): the flag is set; the second component says whether the sweep is now held. -/
def State.report (s : State) (c : Condition) : State × Bool :=
  let s := s.setFlag c
  if decide (s.sc.sweep = .sweeping) && !s.masked c then (s.hold c, true) else (s, false)

/-- The sweep state becomes CLOSING: PI marks a storing bank and releases the queue (R22). -/
def State.enterClosing (s : State) : State :=
  (({ s with sc := { s.sc with sweep := .closing } }).markStoring .closing).releaseQueue

/-! ### The pass record (R63, R81) -/

def State.setPass (s : State) (p : Option Pass) : State := { s with me := { s.me with pass := p } }

/-- The last frame record of the pass's frame (R26); a measure not formed yet stands as 0 (log 18). -/
def Pass.lastFrame (p : Pass) (o : FrameOutcome) : LastFrame := ⟨p.serial, o, p.x, p.y, p.inliers, 0, 0, p.step⟩

/-- The frame takes an outcome that is not a push: its MATCHING bank becomes FREE (R74). -/
def State.settlePass (s : State) (p : Pass) (lf : LastFrame) : State :=
  match p.bank with
  | some b => s.settle b lf
  | none => s

/-- The frame takes the outcome and the pass ends without a batch (R84). -/
def State.endPassWith (s : State) (p : Pass) (o : FrameOutcome) : State :=
  (s.settlePass p (p.lastFrame o)).setPass none

/-- The pass stands at a boundary: anywhere but between the two lookups of one candidate, which are no two lookups of
two candidates (R63, log 9). -/
def Pass.atBoundary (p : Pass) : Bool :=
  match p.stage with
  | .lookup _ second => !second
  | .solve | .judge | .judgeHeld | .push _ | .pushHeld | .footprint | .opening | .batch _ | .parked | .fenced
  | .report => true

/-- A stop meets the pass: at a boundary it ends, its frame ABANDONED if it still stands in its MATCHING bank; elsewhere
it goes on to its next boundary (R63). -/
def State.stopPass (s : State) : State :=
  match s.me.pass with
  | some p => if p.atBoundary then s.endPassWith p .abandoned else s
  | none => s

/-- A stop that stands is met at the end of a step (R63). -/
def State.meetStop (s : State) : State := if s.stopping then s.stopPass else s

/-- Both passes have stopped, or none is in progress (R136, R179). -/
def State.bothStopped (s : State) : Bool := s.me.pass.isNone && s.blendAtBoundary

/-- What FINISH gives up of a held frame (R133): DISCARDED at a judge or push hold; at a TABLE_FULL hold the
batch ends and the frame keeps its outcome. -/
def State.giveUpHeld (s : State) : State :=
  match s.me.pass with
  | some p =>
    match p.stage with
    | .judgeHeld | .pushHeld => s.endPassWith p .discarded
    | .parked => s.setPass (some { p with admissions := [], stage := .report })
    | .lookup _ _ | .solve | .judge | .push _ | .footprint | .opening | .batch _ | .fenced | .report => s
  | none => s

/-- FINISH in ARMED before the origin push (R133): the origin pass stops, its frame DISCARDED; PI acts as at
an entry straight into FINISHED (R22). -/
def State.finishArmed (s : State) : State :=
  let s := match s.me.pass with
    | some p => s.endPassWith p .discarded
    | none => s
  ((({ s with sc := { s.sc with sweep := .finished } }).markStoring .closing).releaseQueue).raise .finished

/-- The effect of an accepted FINISH (R133), of a mark's FINISH and of a capture's FINISH (R140, R142). -/
def State.finishSweep (s : State) : State :=
  match s.sc.sweep with
  | .armed => s.finishArmed
  | .sweeping => s.enterClosing
  | .held _ => s.giveUpHeld.enterClosing
  | .idle | .closing | .finished => s

/-! ### FINISH actions that wait for a rollback operation (R140, R142) -/

def State.setCaptureResult (s : State) (r : CaptureResult) : State :=
  { s with sc := { s.sc with capture := { s.sc.capture with result := r }, captureFinishWaits := false } }

/-- A FINISH can take effect in this sweep state (R133). -/
def SweepState.canFinish : SweepState → Bool
  | .armed | .sweeping | .held _ => true
  | .idle | .closing | .finished => false

/-- The operation ended without an apply and without ABORT: what waited is taken now, the mark's action before
the capture's (log 13). -/
def State.takeWaitingFinish (s : State) : State :=
  let s := if s.sc.markFinishWaits then
      ({ s with sc := { s.sc with markFinishWaits := false } }).finishSweep
    else s
  if s.sc.captureFinishWaits then
    if s.sc.sweep.canFinish then (s.setCaptureResult .taken).finishSweep else s.setCaptureResult .none
  else s

/-- The apply completed or ABORT ended the operation: what waited is dropped. -/
def State.dropWaitingFinish (s : State) : State :=
  let s := { s with sc := { s.sc with markFinishWaits := false } }
  if s.sc.captureFinishWaits then s.setCaptureResult .dropped else s

/-! ### Context operations (R171, R178) -/

def Context.slot (c : Context) : SlotId → Slot
  | .s0 => c.slot0
  | .s1 => c.slot1

def Context.setSlot (c : Context) (k : SlotId) (v : Slot) : Context :=
  match k with
  | .s0 => { c with slot0 := v }
  | .s1 => { c with slot1 := v }

def State.setOp (s : State) (op : ContextOp) : State := { s with cx := { s.cx with op := op } }

/-- A verify begins (R178): none of the image is read yet. -/
def State.beginVerify (s : State) (k : SlotId) : State := { s with cx := { s.cx with op := .verify k, moved := 0 } }

/-- The slot becomes EMPTY with no save serial; its 8 KiB hold what they held (R175, R191). -/
def Slot.givenUp (k : Slot) : Slot := ⟨.empty, none, k.image⟩

/-- A save ends early: its slot EMPTY, the operation NONE, no event (R175). -/
def Context.endSave (c : Context) : Context :=
  match c.op with
  | .quiet k => { c.setSlot k (c.slot k).givenUp with op := .none }
  | .copy k _ => { c.setSlot k (c.slot k).givenUp with op := .none }
  | .none | .verify _ | .apply _ => c

/-- A verify or apply ends: result and slot recorded, the operation NONE, ROLLBACK_DONE raised (R178, R179). -/
def State.endRollback (s : State) (k : SlotId) (r : RollbackResult) : State :=
  ({ s with cx := { s.cx with lastResult := r, lastSlot := some k, op := .none } }).raise .rollbackDone

/-! ### Export jobs (R158) -/

def State.sendPort (s : State) (e : PortEvent) : State := { s with port := s.port ++ [e] }

/-- The end of a job, in one step: frame-end, IDLE, the result, EXPORT_DONE (R158). -/
def State.endJob (s : State) (r : JobResult) : State :=
  (({ s with eu := { s.eu with state := .idle, result := r, lineBegun := false, fetched := [], reached := none }
    }).sendPort .frameEnd).raise .exportDone

/-- A RUNNING job becomes STOPPING; with no line in progress it ends at once as STOPPED (R158). -/
def State.stopJob (s : State) : State :=
  match s.eu.state with
  | .running =>
    if s.eu.lineBegun then { s with eu := { s.eu with state := .stopping } } else s.endJob .stopped
  | .idle | .stopping => s

end Sys2Proof.Machine
end

