-- ==== Sys2Proof/Machine/Directives.lean ====
section
/-! DEFINITION. Frame-gap directive lists (Chapter 9): the gap, each directive kind, faults, and directive claims on the
Landmark Table. -/

namespace Sys2Proof.Machine

/-- The gap ends; a word read not yet granted is withdrawn (R164). -/
def State.dropGap (s : State) : State := { s with dr := { s.dr with gap := none } }

/-- The flow after a directive: one more against the budget; the gap goes on reading at `next`, or ends where
there is none or the budget reaches 16 (R165). -/
def State.flow (s : State) (next : Option Nat) : State :=
  { s with dr := { s.dr with
      budget := s.dr.budget + 1
      readPtr := next.getD s.dr.readPtr
      gap := if next.isNone || 16 ≤ s.dr.budget + 1 then none else s.dr.gap.map fun g => { g with word := none } } }

/-- The offset after this one, absent at the area's end (R165). -/
def State.offsetAfter (s : State) : Option Nat := if s.dr.readPtr < 1023 then some (s.dr.readPtr + 1) else none

def State.setStart (s : State) (p : Nat) : State := { s with dr := { s.dr with startPtr := p } }

/-- A mark's value and action are loaded and it is armed (R139, R167). -/
def State.loadMark (s : State) (unit : Bool) (a : MarkAction) (v : Nat) : State :=
  if unit then { s with sc := { s.sc with mark1 := ⟨v, a, true⟩ } }
  else { s with sc := { s.sc with mark0 := ⟨v, a, true⟩ } }

/-- All eight masks are replaced in one step (R126, R167). -/
def State.setMasks (s : State) (m : BitVec 8) : State := { s with sc := { s.sc with masks := m } }

def State.setFeather (s : State) (f : Nat) : State := { s with prm := { s.prm with feather := f } }

/-- A HINT directive loads the register with the tag of the gap's frame, unless that frame has an outcome
(R168). -/
def State.hintFor (s : State) (frame : Serial) (dx dy : Int) : State :=
  if s.withoutOutcome frame then { s with me := { s.me with hint := some ⟨dx, dy, some frame⟩ } } else s

/-- A RETIRE REGION claim joins those LTC has not taken (R169). -/
def State.claimRegion (s : State) (first count : Nat) : State :=
  { s with ltc := { s.ltc with regionClaims := s.ltc.regionClaims ++ [(first, count)] } }

/-- What each directive does (R165, R167 to R169), for the gap's frame. -/
def State.applyDirective (s : State) (frame : Serial) : Directive → State
  | .stop => s.flow none
  | .skip => s.flow s.offsetAfter
  | .next p => (s.setStart p).flow (some p)
  | .nextAndStop p => (s.setStart p).flow none
  | .signal => (s.raise .directiveSignal).flow s.offsetAfter
  | .hint dx dy => (s.hintFor frame dx dy).flow s.offsetAfter
  | .masks m => (s.setMasks m).flow s.offsetAfter
  | .mark u a v => (s.loadMark u a v).flow s.offsetAfter
  | .retireRegion first count => (s.claimRegion first count).flow s.offsetAfter
  | .blend f => (s.setFeather f).flow s.offsetAfter

/-- A fault, in one step: the gap ends, the list is DISABLED, the offset is recorded, DIRECTIVE_FAULT (R166). -/
def State.directiveFault (s : State) : State :=
  ({ s with dr := { s.dr with gap := none, enabled := false, fault := some s.dr.readPtr } }).raise .directiveFault

/-- A word already read is applied by its kind, or faults (R165, R166). -/
def State.applyWord (s : State) (frame : Serial) (w : ReadWord) : State :=
  match decodeDirective w.nBins w.word with
  | some d => s.applyDirective frame d
  | none => s.directiveFault

/-- A gap in progress ends at once, a word already read being applied first (R163, R164, R170). -/
def State.closeGap (s : State) : State :=
  match s.dr.gap with
  | some ⟨frame, some w⟩ => (s.applyWord frame w).dropGap
  | some ⟨_, none⟩ => s.dropGap
  | none => s

/-- A counted frame-start opens a gap where the list is ENABLED, ending an earlier gap first (R164). A fault in
the earlier gap's last word leaves the list DISABLED and opens none (log 16). -/
def State.openGap (s : State) (frame : Serial) : State :=
  if s.dr.enabled then
    let s := s.closeGap
    if s.dr.enabled then
      { s with dr := { s.dr with readPtr := s.dr.startPtr, budget := 0, gap := some ⟨frame, none⟩ } }
    else s
  else s

/-- The gap's frame and the directive its read word spells. -/
def State.readDirective (s : State) : Option (Serial × Directive) :=
  match s.dr.gap with
  | some ⟨frame, some w⟩ => (decodeDirective w.nBins w.word).map fun d => (frame, d)
  | some ⟨_, none⟩ => none
  | none => none

/-- A directive step takes place when the word read is of its row; otherwise nothing is due (log 2). -/
def State.directiveStep (s : State) (row : Directive → Bool) : Host.Outcome State Fault Refusal :=
  .next (match s.readDirective with
    | some (frame, d) => if row d then s.applyDirective frame d else s
    | none => s)

/-- STOP (R165): the gap ends. -/
def execDirStop (s : State) : Host.Outcome State Fault Refusal :=
  s.directiveStep fun d => match d with | .stop => true | _ => false

/-- SKIP (R165): the read pointer advances by one. -/
def execDirSkip (s : State) : Host.Outcome State Fault Refusal :=
  s.directiveStep fun d => match d with | .skip => true | _ => false

/-- NEXT p (R165): start pointer and read pointer both become p. -/
def execDirNext (s : State) : Host.Outcome State Fault Refusal :=
  s.directiveStep fun d => match d with | .next _ => true | _ => false

/-- NEXT AND STOP p (R165): the start pointer becomes p and the gap ends. -/
def execDirNextAndStop (s : State) : Host.Outcome State Fault Refusal :=
  s.directiveStep fun d => match d with | .nextAndStop _ => true | _ => false

/-- SIGNAL (R167): DIRECTIVE_SIGNAL is raised. -/
def execDirSignal (s : State) : Host.Outcome State Fault Refusal :=
  s.directiveStep fun d => match d with | .signal => true | _ => false

/-- HINT (R168). -/
def execDirHint (s : State) : Host.Outcome State Fault Refusal :=
  s.directiveStep fun d => match d with | .hint _ _ => true | _ => false

/-- MASKS m (R167). -/
def execDirMasks (s : State) : Host.Outcome State Fault Refusal :=
  s.directiveStep fun d => match d with | .masks _ => true | _ => false

/-- MARK unit, action, value (R167). -/
def execDirMark (s : State) : Host.Outcome State Fault Refusal :=
  s.directiveStep fun d => match d with | .mark _ _ _ => true | _ => false

/-- RETIRE REGION (R169): a claim is handed to LTC and the gap reads on without waiting for it. -/
def execDirRetireRegion (s : State) : Host.Outcome State Fault Refusal :=
  s.directiveStep fun d => match d with | .retireRegion _ _ => true | _ => false

/-- BLEND code (R167): FEATHER becomes the code's width. -/
def execDirBlend (s : State) : Host.Outcome State Fault Refusal :=
  s.directiveStep fun d => match d with | .blend _ => true | _ => false

/-- DIRECTIVE_FAULT (R166), where the word read is invalid. -/
def execDirectiveFault (s : State) : Host.Outcome State Fault Refusal :=
  .next (match s.dr.gap with
    | some ⟨_, some w⟩ => if (decodeDirective w.nBins w.word).isNone then s.directiveFault else s
    | some ⟨_, none⟩ => s
    | none => s)

/-- A region retirement as LTC takes it: every landmark listed in the run of bins but the PINNED ones (R52,
R53). -/
def State.retireRegion (s : State) (first count : Nat) : State :=
  { s with ltc := s.ltc.retireAll (s.ltc.regionVictims (s.geo.binRun first count)) }

/-- RETIRE_REGION_CLAIM (R53): LTC takes the oldest directive claim; during a copy or apply it waits (R37). -/
def execRetireRegionClaim (s : State) : Host.Outcome State Fault Refusal :=
  .next (match s.ltc.regionClaims with
    | (first, count) :: rest =>
      if s.tableBusy then s
      else ({ s with ltc := { s.ltc with regionClaims := rest } }).retireRegion first count
    | [] => s)

end Sys2Proof.Machine
end

