-- ==== Sys2Proof/Machine/Match.lean ====
section
/-! DEFINITION. The Match Engine (Chapter 4): the start of a pass, lookup and comparison, the solve, the judge's checks, and the
closure test (R145). -/

namespace Sys2Proof.Machine

/-! ### Starting a pass (R62, R65, R66, R85) -/

/-- The copy of a bank's candidates in the pass record (R62). -/
def PassCand.fresh (c : Candidate) : PassCand := ⟨c, .none, none, none, false, false⟩

/-- A pass record at its start; measures not formed yet stand as 0 (log 18). -/
def Pass.fresh (v : Serial) (b : BankId) (cands : List Candidate) (stage : Stage) : Pass where
  serial := v
  bank := some b
  stage := stage
  cands := cands.map PassCand.fresh
  predX := 0
  predY := 0
  progress := 0
  inliers := 0
  solved := none
  wrapMean := none
  how := .matched
  x := 0
  y := 0
  step := 0
  overlap := 0
  clipped := false
  gap := false
  pushed := false
  closure := none
  footprint := []
  sights := []
  misses := []
  admissions := []
  stale := 0
  admitted := 0

/-- A new entry of the motion record; the previous older entry is dropped (R64). -/
def pushMotion (m : List Motion) (e : Motion) : List Motion := e :: m.take 1

/-- The hint a match pass of this serial takes (R66). -/
def Hint.takenBy (h : Option Hint) (v : Serial) : Option Hint :=
  h.filter fun h => h.tag.isNone || decide (h.tag = some v)

/-- The prediction from the motion record alone (R65). An empty record predicts 0, 0 (log 26). -/
def predictFrom (mode : TrackMode) (v : Serial) : List Motion → Int × Int
  | [] => (0, 0)
  | [e] => (e.x, e.y)
  | e1 :: e0 :: _ =>
    let k : Int := (v - e1.serial).toNat
    let n := (e1.serial - e0.serial).toNat
    if mode = .searching ∨ n = 0 then (e1.x, e1.y)
    else (e1.x + roundDiv ((e1.x - e0.x) * k) n, e1.y + roundDiv ((e1.y - e0.y) * k) n)

/-- The newer entry of the motion record (R65); 0, 0 where it is empty (log 26). -/
def newestMotion (m : List Motion) : Int × Int := (m.head?.map fun e => (e.x, e.y)).getD (0, 0)

/-- A position offset from the newest established one by columns and rows in the sweep sense (R65, R131). -/
def offsetFrom (g : Geometry) (m : List Motion) (dx dy : Int) : Int × Int :=
  ((newestMotion m).1 + 4 * g.d * dx, (newestMotion m).2 + 4 * dy)

/-- The predicted position of the frame (R65). -/
def State.predict (s : State) (v : Serial) : Int × Int :=
  match Hint.takenBy s.me.hint v with
  | some h => offsetFrom s.geo s.me.motion h.dx h.dy
  | none => predictFrom s.me.mode v s.me.motion

/-- The head QUEUED bank becomes MATCHING and the queue advances (R62, R23). -/
def State.takeQueued (s : State) (b : BankId) (rest : List BankId) : State :=
  let s := s.setBank b { s.bank b with state := .matching }
  { s with pi := { s.pi with queue := rest } }

/-- The origin pass (R85): the push is presented at X 0 and the start row. -/
def State.beginOrigin (s : State) (b : BankId) : State :=
  let v := (s.bank b).serial.getD 0#16
  let y : Int := 4 * s.geo.startRow
  let s := s.clearHint v
  let p := Pass.fresh v b (s.bank b).cands (.push false)
  { s with me := { s.me with
      motion := [⟨v, 0, y⟩]
      mode := .locked
      predicted := 0
      pass := some { p with how := .origin, y := y } } }

/-- A match pass (R62, R65, R66): the hint is taken or kept, the prediction formed, progress read (R67). -/
def State.beginMatch (s : State) (b : BankId) : State :=
  let v := (s.bank b).serial.getD 0#16
  let pred := s.predict v
  let cands := (s.bank b).cands
  let p := Pass.fresh v b cands (if cands.isEmpty then .solve else .lookup 0 false)
  { s with me := { s.me with
      hint := if (Hint.takenBy s.me.hint v).isSome then none else s.me.hint
      pass := some { p with predX := pred.1, predY := pred.2, progress := s.sc.progress } } }

/-- MATCH_BANK_TAKE (R62): due while no pass is in progress, the queue holds a bank and no stop stands on ME
(R136, R179). -/
def execMatchBankTake (s : State) : Host.Outcome State Fault Refusal :=
  .next (match s.me.pass, s.pi.queue with
    | none, b :: rest =>
      if s.stopping || !decide ((s.bank b).state = .queued) then s
      else
        match s.sc.sweep with
        | .armed => (s.takeQueued b rest).beginOrigin b
        | .sweeping => (s.takeQueued b rest).beginMatch b
        | .idle | .held _ | .closing | .finished => s
    | _, _ => s)

/-! ### Lookup and comparison (R38, R67 to R69) -/

/-- What a lookup of a run of bins returns: index, generation and record, in bin order and list order (R38). -/
def Table.lookup (t : Table) (bins : List Nat) : List (Nat × BitVec 4 × Landmark) :=
  (bins.flatMap t.bin).filterMap fun i => (t.lm i).map fun r => (i, t.gen i, r)

/-- The Hamming distance of two descriptors (R68). -/
def hamming (a b : BitVec 64) : Nat := (List.range 64).countP fun i => (a ^^^ b).getLsbD i

namespace Geometry

/-- The run of a normal lookup at Xc (R67). As a run of R38 it begins at its first bin in rising order. So the landmarks of
a SEARCHING run in a WEST sweep come from the ahead end first, though R67 names the behind end first, and ties of R69 go
by that order: the model's reading (log 40). -/
def lookupBins (g : Geometry) (mode : TrackMode) (xc : Int) : List Nat :=
  match mode with
  | .locked | .coasting => g.binRun ((g.binOf xc : Int) - 1) 3
  | .searching =>
    let lo := g.binOf (4 * (xc / 4 - (g.fw / 2 : Nat)))
    let hi := g.binOf (4 * (xc / 4 + (g.fw / 2 : Nat)))
    g.binRun ((lo : Int) - 1) ((((hi : Int) - lo) % g.nBins).toNat + 3)

/-- The run of a wrapped lookup: the bins of u 0 to FW − 1 and one more on each side (R67, log 29). -/
def wrappedBins (g : Geometry) : List Nat :=
  let n := (g.fw + 63) / 64
  let first : Int := match g.direction with
    | .east => (g.startCol / 64 : Nat) - 1
    | .west => (g.startCol / 64 : Nat) - (n : Int)
  g.binRun first (n + 2)

/-- Whether a landmark lies in the window of a normal lookup and not on the other turn (R67). A landmark at exactly
the window's distance lies inside it: the rule gives the size only, and this is the model's choice (log 34). -/
def inWindow (g : Geometry) (prm : Params) (mode : TrackMode) (xc yc : Int) (r : Landmark) : Bool :=
  let w : Nat × Nat := match mode with
    | .locked | .coasting => (4 * prm.searchRadius, 4 * prm.searchRadius)
    | .searching => (2 * g.fw, 2 * g.fh)
  decide (wrappedDist r.x xc (4 * g.cw) ≤ w.1 ∧ (r.y - yc).natAbs ≤ w.2 ∧ (r.x - xc).natAbs ≤ 2 * g.cw)

/-- Whether an ORIGIN landmark is compared in a wrapped comparison (R67). -/
def inWrapWindow (g : Geometry) (prm : Params) (xc yc : Int) (r : Landmark) : Bool :=
  r.origin && decide (4 * ((g.fw : Int) - prm.searchRadius) ≤ g.d * (xc - r.x) ∧
    g.d * (xc - r.x) ≤ 4 * ((g.cw : Int) - 64 + prm.searchRadius) ∧
    (r.y - yc).natAbs ≤ 4 * (prm.searchRadius + prm.closeVtol))

end Geometry

/-- A comparison of a candidate with a returned landmark (R68). -/
def sighting (c : Candidate) (e : Nat × BitVec 4 × Landmark) : Sighting :=
  ⟨e.1, e.2.1, e.2.2.x, e.2.2.y, hamming c.descriptor e.2.2.descriptor⟩

/-- The comparison of lowest distance, the earlier among equals (R69). -/
def bestSighting : List (Sighting × LandmarkState) → Option (Sighting × LandmarkState)
  | [] => none
  | c :: rest =>
    match bestSighting rest with
    | some b => if b.1.dist < c.1.dist then some b else some c
    | none => some c

/-- The result of a candidate's normal comparisons and its chosen landmark (R68, R69; AMBIG_MARGIN 3). -/
def verdictOf (matchDist : Nat) (comps : List (Sighting × LandmarkState)) : Verdict × Option Sighting :=
  match bestSighting comps with
  | none => (.none, none)
  | some (b, st) =>
    if b.dist ≤ matchDist then
      if st = .fading then (.stale, some b)
      else if 2 ≤ comps.countP (fun c => c.1.dist < b.dist + 3) then (.ambiguous, none)
      else (.isMatch, some b)
    else if b.dist ≤ 2 * matchDist then (.near, some b)
    else (.far, some b)

/-- The candidate's predicted canvas position (R67, R2). -/
def Pass.candidateAt (p : Pass) (g : Geometry) (c : Candidate) : Int × Int := (p.predX + g.d * c.q, p.predY + c.p)

/-- The normal lookup and comparison of one candidate (R67 to R69). -/
def State.compareNormal (s : State) (p : Pass) (c : PassCand) : PassCand :=
  let at' := p.candidateAt s.geo c.cand
  let returned := s.ltc.lookup (s.geo.lookupBins s.me.mode at'.1)
  let comps := (returned.filter fun e => s.geo.inWindow s.prm s.me.mode at'.1 at'.2 e.2.2).map fun e =>
    (sighting c.cand e, e.2.2.state)
  { c with verdict := (verdictOf s.prm.matchDist comps).1, chosen := (verdictOf s.prm.matchDist comps).2 }

/-- The wrapped lookup and comparison of one candidate (R67 to R69). -/
def State.compareWrapped (s : State) (p : Pass) (c : PassCand) : PassCand :=
  let at' := p.candidateAt s.geo c.cand
  let returned := s.ltc.lookup s.geo.wrappedBins
  let comps := (returned.filter fun e => s.geo.inWrapWindow s.prm at'.1 at'.2 e.2.2).map fun e =>
    (sighting c.cand e, e.2.2.state)
  match bestSighting (comps.filter fun e => e.1.dist ≤ s.prm.matchDist) with
  | some (b, _) => { c with wrapVote := some b, verdict := if c.verdict = .none then .wrapped else c.verdict }
  | none => c

/-- A second, wrapped lookup follows each candidate's first (R67). -/
def State.wrapsDue (s : State) (p : Pass) : Bool := s.prm.closeEnable && decide (s.geo.fw < p.progress)

/-- The stage after a candidate's last lookup. -/
def Pass.afterCandidate (p : Pass) (i : Nat) : Stage :=
  if i + 1 < p.cands.length then .lookup (i + 1) false else .solve

/-- LOOKUP (R38): the claim the pass presents next, with the comparisons on its answer (R68). A stop that came between the
two lookups of a candidate is met after the second (R63). -/
def execLookup (s : State) : Host.Outcome State Fault Refusal :=
  .next (match s.me.pass with
    | some p =>
      match p.stage with
      | .lookup i false =>
        (s.setPass (some { p with
          cands := p.cands.modify i (s.compareNormal p)
          stage := if s.wrapsDue p then .lookup i true else p.afterCandidate i })).meetStop
      | .lookup i true =>
        (s.setPass (some { p with
          cands := p.cands.modify i (s.compareWrapped p)
          stage := p.afterCandidate i })).meetStop
      | .solve | .judge | .judgeHeld | .push _ | .pushHeld | .footprint | .opening | .batch _ | .parked
      | .fenced | .report => s
    | none => s)

/-! ### The solve (R70 to R72) -/

/-- Candidate `a` at position `i` keeps a shared landmark against `b` at `j`: lower distance, then higher
strength, then earlier in the list (R70). -/
def beats (a : PassCand) (sa : Sighting) (i : Nat) (b : PassCand) (sb : Sighting) (j : Nat) : Bool :=
  sa.dist < sb.dist || (sa.dist == sb.dist &&
    (b.cand.strength < a.cand.strength || (a.cand.strength == b.cand.strength && i < j)))

/-- Whether the candidate at `i` loses its landmark to another one that picks the same (R70). -/
def losesPick (pick : PassCand → Option Sighting) (cs : List PassCand) (i : Nat) (c : PassCand) : Bool :=
  match pick c with
  | some sc => cs.zipIdx.any fun b =>
      match pick b.1 with
      | some sb => decide (b.2 ≠ i) && sb.index == sc.index && beats b.1 sb b.2 c sc i
      | none => false
  | none => false

/-- The landmark a MATCH or STALE candidate has chosen. -/
def PassCand.claimed (c : PassCand) : Option Sighting :=
  match c.verdict with
  | .isMatch | .stale => c.chosen
  | .none | .near | .far | .ambiguous | .wrapped => none

/-- One claim per landmark among chosen landmarks and among wrapped votes (R70). -/
def dedupe (cs : List PassCand) : List PassCand :=
  cs.mapIdx fun i c =>
    let c1 := if losesPick PassCand.claimed cs i c then { c with verdict := .ambiguous, chosen := none } else c
    if losesPick PassCand.wrapVote cs i c then
      { c1 with wrapVote := none, verdict := if c1.verdict = .wrapped then .ambiguous else c1.verdict }
    else c1

/-- A vote: the frame position a landmark implies for the candidate (R71). -/
def voteOf (g : Geometry) (c : Candidate) (l : Sighting) : Int × Int := (l.x - g.d * c.q, l.y - c.p)

/-- Two positions differ by at most 8 quarter units in each axis (R71). -/
def isNear (a b : Int × Int) : Bool := decide ((a.1 - b.1).natAbs ≤ 8 ∧ (a.2 - b.2).natAbs ≤ 8)

/-- The winning vote: most neighbours, then nearest the prediction, then earliest (R71). -/
def winningVote (pred : Int × Int) (votes : List (Int × Int)) : Option (Int × Int) :=
  let count := fun v => votes.countP (isNear v)
  let dist := fun (v : Int × Int) => (v.1 - pred.1).natAbs + (v.2 - pred.2).natAbs
  votes.foldl (fun best v =>
    match best with
    | none => some v
    | some b => if count b < count v ∨ (count b = count v ∧ dist v < dist b) then some v else some b) none

/-- The winning cluster: its votes' count and their rounded mean (R71). -/
def clusterMean (members : List (Int × Int)) : Int × Int :=
  (roundDiv (members.map Prod.fst).sum members.length, roundDiv (members.map Prod.snd).sum members.length)

/-- The vote of a MATCH candidate. -/
def PassCand.vote (g : Geometry) (c : PassCand) : Option (Int × Int) :=
  match c.verdict with
  | .isMatch => c.chosen.map (voteOf g c.cand)
  | .none | .stale | .near | .far | .ambiguous | .wrapped => none

/-- The implied offset of a STALE candidate (R72). -/
def PassCand.staleOffset (g : Geometry) (c : PassCand) : Option (Int × Int) :=
  match c.verdict with
  | .stale => c.chosen.map (voteOf g c.cand)
  | .none | .isMatch | .near | .far | .ambiguous | .wrapped => none

/-- The closure cluster's count and mean (R72). -/
def closureCluster (g : Geometry) (pred : Int × Int) (cs : List PassCand) : Option (Nat × Int × Int) :=
  let votes := cs.filterMap fun c => c.wrapVote.map (voteOf g c.cand)
  (winningVote pred votes).map fun w => ((votes.filter (isNear w)).length, clusterMean (votes.filter (isNear w)))

/-- The solve (R70 to R72); with no MATCH vote there is no offset, no revival and no closure cluster. -/
def Pass.solve (p : Pass) (g : Geometry) : Pass :=
  let cs := dedupe p.cands
  let votes := cs.filterMap (PassCand.vote g)
  match winningVote (p.predX, p.predY) votes with
  | none => { p with cands := cs, inliers := 0, solved := none, wrapMean := none, stage := .judge }
  | some w =>
    let mean := clusterMean (votes.filter (isNear w))
    { p with
      cands := cs.map fun c =>
        { c with inlier := (c.vote g).any (isNear w), revival := (c.staleOffset g).any (isNear mean) }
      inliers := (votes.filter (isNear w)).length
      solved := some mean
      wrapMean := closureCluster g (p.predX, p.predY) cs
      stage := .judge }

/-- SOLVE (R71). -/
def execSolve (s : State) : Host.Outcome State Fault Refusal :=
  .next (match s.me.pass with
    | some p => if p.stage = .solve then s.setPass (some (p.solve s.geo)) else s
    | none => s)

/-! ### The judge (R74 to R80, R145) -/

/-- A check calls for a condition: on a hold the pass waits at that check, on the default `f` goes on (R74). -/
def State.judgeReport (s : State) (p : Pass) (c : Condition) (f : State → State) : State :=
  if (s.report c).2 then (s.report c).1.setPass (some { p with stage := .judgeHeld }) else f (s.report c).1

/-- Column u of the newest placement's solved X (R77); 0 where the window is empty (log 26). -/
def State.newestU (s : State) : Int := (s.pw.head?.map fun r => s.geo.columnU r.x).getD 0

/-- The closure test of a MATCHED frame (R145): `none` where part 1 fails, which records nothing. -/
def closureTest (g : Geometry) (prm : Params) (p : Pass) : Option ClosureTest :=
  match p.how, p.wrapMean, p.solved with
  | .matched, some (n, xw, yw), some (xs, ys) =>
    if n < prm.closeMin then none
    else
      let ry := roundDiv (ys - yw) 4
      let ce := roundDiv (g.d * (xs - xw)) 4
      some ⟨ce, ry, n,
        if prm.closeVtol < ry.natAbs then some .residual
        else if ce < g.fw ∨ (g.cw : Int) - 64 < ce then some .circumference
        else none⟩
  | _, _, _ => none

/-- The test is met: a cluster that passes all three parts. -/
def closureMet (t : Option ClosureTest) : Bool := t.any fun t => t.reason.isNone

/-- The CANVAS_FULL default (R80, R124). Where the sweep goes to CLOSING, the released queue's outcomes come before the
frame's CANVAS_END: the model's choice (log 19). -/
def State.canvasEnd (s : State) (p : Pass) : State :=
  (if s.sc.sweep = .sweeping then s.enterClosing else s).endPassWith p .canvasEnd

/-- Check 5 (R80): the leading edge; a frame that passes goes to the push. -/
def State.check5 (s : State) (p : Pass) : State :=
  let p := { p with closure := closureTest s.geo s.prm p }
  if s.geo.columnU p.x + s.geo.fw ≤ (s.geo.cw : Int) - 32 ∨ closureMet p.closure then
    s.setPass (some { p with stage := .push false })
  else s.judgeReport p .canvasFull fun s => s.canvasEnd p

/-- SPEED's default (R79): GAP is set where the overlap is negative, and the judge goes on. -/
def State.speedDefault (s : State) (p : Pass) : State := s.check5 { p with gap := decide (p.overlap < 0) }

/-- Check 4 (R79): the overlap. -/
def State.check4 (s : State) (p : Pass) : State :=
  let p := { p with overlap := s.newestU + s.geo.fw - s.geo.columnU p.x }
  if p.overlap < (s.prm.minOverlap : Int) then s.judgeReport p .speed fun s => s.speedDefault p else s.check5 p

/-- VERTICAL's default (R78): CLIPPED is set, and the judge goes on. -/
def State.verticalDefault (s : State) (p : Pass) : State := s.check4 { p with clipped := true }

/-- Check 3 (R78): the footprint rows. -/
def State.check3 (s : State) (p : Pass) : State :=
  if roundDiv p.y 4 < 0 ∨ (s.geo.ch : Int) - 1 < roundDiv p.y 4 + s.geo.fh - 1 then
    s.judgeReport p .vertical fun s => s.verticalDefault p
  else s.check4 p

/-- A frame that moved too little (R77): a solved one sends its batch, without admissions (R83). -/
def State.dwell (s : State) (p : Pass) : State :=
  if p.how = .matched then
    (s.settlePass p (p.lastFrame .dwell)).setPass (some { p with bank := none, stage := .footprint })
  else s.endPassWith p .dwell

/-- Check 2 (R77): the step. -/
def State.check2 (s : State) (p : Pass) : State :=
  let p := { p with step := s.geo.columnU p.x - s.newestU }
  if p.step < -(s.prm.reverseTol : Int) then s.judgeReport p .reversal fun s => s.endPassWith p .reversed
  else if p.step < s.prm.minStep then s.dwell p
  else s.check3 p

def State.setMode (s : State) (m : TrackMode) (n : Nat) : State :=
  { s with me := { s.me with mode := m, predicted := n } }

/-- The frame is UNPLACED, reported with X, Y and step of 0 (R76). -/
def State.unplaced (s : State) (p : Pass) : State :=
  (s.settlePass p ⟨p.serial, .unplaced, 0, 0, p.inliers, 0, 0, 0⟩).setPass none

/-- LOST's default (R76). -/
def State.lostDefault (s : State) (p : Pass) : State := (s.setMode .searching 0).unplaced p

/-- LOW_MATCH's default (R75): placement on prediction, or a LOST report. -/
def State.lowMatchDefault (s : State) (p : Pass) : State :=
  if s.me.predicted < s.prm.predictLimit then
    (s.setMode .coasting (s.me.predicted + 1)).check2 { p with how := .predicted, x := p.predX, y := p.predY }
  else s.judgeReport p .lost fun s => s.lostDefault p

/-- A solved frame enters the motion record (R64, R75). -/
def State.solvedAt (s : State) (p : Pass) (x y : Int) : State :=
  { s with me := { s.me with
      motion := pushMotion s.me.motion ⟨p.serial, x, y⟩, mode := .locked, predicted := 0 } }

/-- Check 1 (R75, R76). -/
def State.check1 (s : State) (p : Pass) : State :=
  match p.solved with
  | some (x, y) =>
    if s.prm.minInliers ≤ p.inliers then (s.solvedAt p x y).check2 { p with how := .matched, x := x, y := y }
    else if s.me.mode = .searching then s.unplaced p
    else s.judgeReport p .lowMatch fun s => s.lowMatchDefault p
  | none =>
    if s.me.mode = .searching then s.unplaced p
    else s.judgeReport p .lowMatch fun s => s.lowMatchDefault p

/-- JUDGE (R74): the checks in order, up to a hold, an outcome or the push. -/
def execJudge (s : State) : Host.Outcome State Fault Refusal :=
  .next (match s.me.pass with
    | some p => if p.stage = .judge then s.check1 p else s
    | none => s)

end Sys2Proof.Machine
end

