-- ==== Sys2Proof/Machine/Push.lean ====
section
/-! DEFINITION. The push into the Placement Window (R81, R92 to R95) with the push report: progress, marks, PACE and the closure
result (R137 to R140, R146, R147). -/

namespace Sys2Proof.Machine

/-! ### The push report -/

def State.mark (s : State) (unit : Bool) : Mark := if unit then s.sc.mark1 else s.sc.mark0

def State.disarmMark (s : State) (unit : Bool) : State :=
  if unit then { s with sc := { s.sc with mark1 := { s.sc.mark1 with armed := false } } }
  else { s with sc := { s.sc with mark0 := { s.sc.mark0 with armed := false } } }

def State.setCue (s : State) (level : Bool) : State := { s with sc := { s.sc with cue := level } }

/-- A mark's FINISH action (R140): dropped between ABORT's steps, waiting during a rollback operation, and
otherwise the sweep goes from SWEEPING to CLOSING. -/
def State.markFinish (s : State) : State :=
  if s.aborting then s
  else if s.rollingBack then { s with sc := { s.sc with markFinishWaits := true } }
  else if s.sc.sweep = .sweeping then s.enterClosing
  else s

/-- A mark's action (R140). -/
def State.markAction (s : State) : MarkAction → State
  | .signal => s
  | .cueSet => s.setCue true
  | .cueClear => s.setCue false
  | .cueToggle => s.setCue !s.sc.cue
  | .finish => s.markFinish

/-- A mark that is armed and whose value is at most progress fires, once (R140). -/
def State.evalMark (s : State) (unit : Bool) : State :=
  if (s.mark unit).armed && decide ((s.mark unit).value ≤ s.sc.progress) then
    ((s.disarmMark unit).raise (if unit then .mark1 else .mark0)).markAction (s.mark unit).action
  else s

/-- Progress of a placement at X (R137). -/
def State.setProgress (s : State) (x : Int) : State :=
  { s with sc := { s.sc with progress := min 65535 (s.geo.columnU x + s.geo.fw).toNat } }

/-- PACE at a push (R138). -/
def State.drivePace (s : State) (step : Int) : State :=
  { s with sc := { s.sc with pace := decide ((s.prm.paceLimit : Int) < step) } }

/-- An accepted detection (R146). -/
def State.detectClosure (s : State) (v : Serial) (t : ClosureTest) : State :=
  if s.sc.closure.state = .none then
    let s := ({ s with sc := { s.sc with closure :=
      { s.sc.closure with state := .detected, ce := t.ce, ry := t.ry, votes := t.votes, serial := v } } }).raise
        .closure
    if s.sc.sweep = .sweeping then s.enterClosing else s
  else s

/-- A rejected detection (R147). -/
def State.rejectClosure (s : State) (v : Serial) (t : ClosureTest) (r : ClosureReason) : State :=
  { s with sc := { s.sc with closure :=
      { s.sc.closure with
        rejections := min 255 (s.sc.closure.rejections + 1)
        last := some ⟨v, t.ce, t.ry, t.votes, r⟩ } } }

/-- SC acts on the closure result kept from check 5 (R146, R147), for a MATCHED frame. -/
def State.closureResult (s : State) (p : Pass) : State :=
  match p.how, p.closure with
  | .matched, some t =>
    match t.reason with
    | none => s.detectClosure p.serial t
    | some r => s.rejectClosure p.serial t r
  | _, _ => s

/-- SC takes the push report (R137 to R140, R146, R147). -/
def State.pushReport (s : State) (p : Pass) : State :=
  ((((s.setProgress p.x).evalMark false).evalMark true).drivePace p.step).closureResult p

/-! ### The push (R81, R92 to R95) -/

/-- The record a push enters (R81, R92). -/
def Pass.placement (p : Pass) : Placement where
  serial := p.serial
  state := .placed
  how := p.how
  x := p.x
  y := p.y
  inliers := if p.how = .matched then p.inliers else 0
  stale := 0
  step := p.step
  overlap := p.overlap
  clipped := p.clipped
  gap := p.gap
  featherClamped := false
  owned := 0
  used := none

/-- The outcome of a push (R81, R85). -/
def HowPlaced.outcome : HowPlaced → FrameOutcome
  | .origin => .origin
  | .matched => .placed
  | .predicted => .predicted
  | .host => .hostPlaced

/-- The origin push takes the sweep from ARMED to SWEEPING (R123). -/
def State.originSweeping (s : State) (p : Pass) : State :=
  if p.how = .origin ∧ s.sc.sweep = .armed then { s with sc := { s.sc with sweep := .sweeping } } else s

/-- The push is taken (R92 step 3, R81, R123): record at depth 0, bank PLACED, outcome counted, FRAME_PLACED,
push report; the pass goes on to its update stage (R83). The pushed frame's outcome comes before those of the queue that
a mark's FINISH or a closure detection releases: the model's choice (log 19). -/
def State.enterPush (s : State) (p : Pass) (b : BankId) : State :=
  let s := s.originSweeping p
  let s := { s with pw := p.placement :: s.pw }
  let s := s.setBank b { s.bank b with state := .placed }
  let s := (s.recordOutcome (p.lastFrame p.how.outcome)).raise .framePlaced
  (s.pushReport p).setPass (some { p with
    bank := none
    pushed := true
    stage := if p.how = .matched then .footprint else .opening })

/-- A record of the same serial, or 8 records (R92 step 2). -/
def State.overflows (s : State) (v : Serial) : Bool := s.pw.any (fun r => decide (r.serial = v)) || 8 ≤ s.pw.length

/-- The victim: the clashing record, otherwise the one at depth 7 (R93). -/
def State.victim (s : State) (v : Serial) : Option Serial :=
  if s.pw.any fun r => decide (r.serial = v) then some v else s.pw[7]?.map (·.serial)

/-- Force-retirement (R94, R117): the victim's OPEN blocks become COMMITTED and the record leaves. -/
def State.forceRetire (s : State) (v : Serial) : State :=
  let s := s.commitBlocks fun _ o => decide (o = v)
  { s with pw := s.pw.filter fun r => !decide (r.serial = v) }

/-- Room is made for the push by force-retiring the victim (R93). -/
def State.forceVictim (s : State) (v : Serial) : State :=
  match s.victim v with
  | some w => s.forceRetire w
  | none => s

/-- PW takes a push, past any deferral (R92, R93, R95). A force-commit request is never taken inside a block write (R113),
so a push that needs one is not taken before the block write has ended (log 38). -/
def State.takePush (s : State) (p : Pass) (b : BankId) (accepted : Bool) : State :=
  if s.overflows p.serial then
    if accepted then if s.insideBlock then s else (s.forceVictim p.serial).enterPush p b
    else if (s.report .windowOverflow).2 then
      (s.report .windowOverflow).1.setPass (some { p with stage := .pushHeld })
    else if s.insideBlock then s else ((s.report .windowOverflow).1.forceVictim p.serial).enterPush p b
  else s.enterPush p b

/-- The push of a frame that stands in its MATCHING bank (R81). -/
def State.pushMatching (s : State) (p : Pass) (accepted : Bool) : State :=
  match p.bank with
  | some b => if (s.bank b).state = .matching then s.takePush p b accepted else s
  | none => s

/-- PUSH (R92): deferred while a checkpoint's quiet wait or copy is in progress. -/
def execPush (s : State) : Host.Outcome State Fault Refusal :=
  .next (match s.me.pass with
    | some p =>
      match p.stage with
      | .push accepted => if s.saving then s else s.pushMatching p accepted
      | .lookup _ _ | .solve | .judge | .judgeHeld | .pushHeld | .footprint | .opening | .batch _ | .parked
      | .fenced | .report => s
    | none => s)

end Sys2Proof.Machine
end

