-- ==== Sys2Proof/Machine/Update.lean ====
section
/-! DEFINITION. The update stage: footprint read, batch opening, hit, revive, miss and admission claims, and the stale-count
claim (R35, R39, R41 to R50, R83, R84, R100). -/

namespace Sys2Proof.Machine

/-! ### Footprint read (R39) -/

namespace Geometry

/-- The bins a footprint read visits, from the trailing side (R39). -/
def footprintBins (g : Geometry) (xf : Int) : List Nat :=
  let first := g.binOf (xf + g.d * 64)
  let last := g.binOf (xf + g.d * (4 * g.fw - 65))
  let n := (g.d * ((last : Int) - first) % g.nBins).toNat + 1
  (List.range (n + 2)).map fun (i : Nat) => (((first : Int) + g.d * ((i : Int) - 1)) % g.nBins).toNat

/-- A position lies inside the shrunk footprint (R39). -/
def inFootprint (g : Geometry) (xf yf x y : Int) : Bool :=
  decide (g.d * xf + 64 ≤ g.d * x ∧ g.d * x < g.d * xf + 4 * g.fw - 64 ∧ yf + 64 ≤ y ∧ y < yf + 4 * g.fh - 64)

end Geometry

/-- What a footprint read returns (R39). -/
def State.readFootprint (s : State) (xf yf : Int) : List UpdateClaim :=
  ((s.ltc.lookup (s.geo.footprintBins xf)).filter fun e => s.geo.inFootprint xf yf e.2.2.x e.2.2.y).map fun e =>
    ⟨e.1, e.2.1, e.2.2.x, e.2.2.y⟩

/-- FOOTPRINT_READ (R39), at the judged position; it stands behind the fence of a checkpoint save (R84, log 21). -/
def execFootprintRead (s : State) : Host.Outcome State Fault Refusal :=
  .next (match s.me.pass with
    | some p =>
      if p.stage = .footprint ∧ s.saving = false then
        s.setPass (some { p with footprint := s.readFootprint p.x p.y, stage := .opening })
      else s
    | none => s)

/-! ### The claims of a batch (R83) -/

/-- The hit claim of an inlier, with its observed position (R43, R83). -/
def Pass.hitOf (p : Pass) (g : Geometry) (c : PassCand) : Option UpdateClaim :=
  if c.inlier then c.chosen.map fun l => ⟨l.index, l.gen, p.x + g.d * c.cand.q, p.y + c.cand.p⟩ else none

/-- The revive claim of a revival (R44, R83). -/
def PassCand.reviveOf (c : PassCand) : Option UpdateClaim :=
  if c.revival then c.chosen.map fun l => ⟨l.index, l.gen, l.x, l.y⟩ else none

/-- A candidate is eligible for admission when its result is FAR or NONE (R46, R69). -/
def PassCand.eligible (c : PassCand) : Bool :=
  match c.verdict with
  | .far | .none => true
  | .isMatch | .stale | .near | .ambiguous | .wrapped => false

/-- Descending strength, the earlier in the list first among equals (R48). -/
def insertByStrength (c : Candidate) : List Candidate → List Candidate
  | [] => [c]
  | k :: rest => if k.strength < c.strength then c :: k :: rest else k :: insertByStrength c rest

/-- The candidates whose admission the pass presents, in order (R46, R48, R83). -/
def Pass.admissionCands (p : Pass) : List Candidate :=
  match p.how with
  | .origin => (p.cands.map (·.cand)).foldl (fun l c => insertByStrength c l) []
  | .matched | .predicted | .host => if p.pushed then (p.cands.filter PassCand.eligible).map (·.cand) else []

def Pass.admissionOf (p : Pass) (g : Geometry) (c : Candidate) : Admission :=
  ⟨c.strength, c.descriptor, p.x + g.d * c.q, p.y + c.p⟩

/-- The most ADMITTED answers a batch takes (R46, R48). -/
def Pass.admitLimit (p : Pass) (prm : Params) : Nat := if p.how = .origin then 48 else prm.admitMax

/-- The hit and revive claims of one candidate; a pass gives a candidate at most one of them (R83). -/
def Pass.sightsOf (p : Pass) (g : Geometry) (c : PassCand) : List (SightKind × UpdateClaim) :=
  (p.hitOf g c).toList.map (fun k => (.hit, k)) ++ c.reviveOf.toList.map fun k => (.revive, k)

/-- The pass after a claim, or after the opening: the batch goes on, or its last claim has been answered (R84). -/
def Pass.settleBatch (p : Pass) (prm : Params) : Pass :=
  if p.sights.isEmpty && p.misses.isEmpty &&
      (p.admissions.isEmpty || decide (p.admitLimit prm ≤ p.admitted)) then
    { p with admissions := [], stage := .report }
  else { p with stage := .batch false }

/-- The batch as it opens (R83): a MATCHED frame sends hits and revives, in candidate list order (R42), and misses;
a miss is left out where the landmark has a hit or revive claim. -/
def Pass.openBatch (p : Pass) (g : Geometry) (prm : Params) : Pass :=
  let sights := if p.how = .matched then p.cands.flatMap (p.sightsOf g) else []
  let claimed := sights.map fun k => k.2.index
  ({ p with
      sights := sights
      misses := p.footprint.filter fun c => !claimed.contains c.index
      admissions := p.admissionCands.map (p.admissionOf g) }).settleBatch prm

/-- Every pass mark is cleared (R42). -/
def Table.clearMarks (t : Table) : Table :=
  { t with entries := t.entries.map fun e => { e with lm := e.lm.map fun r => { r with passMark := false } } }

/-- BATCH_OPENING (R42), behind the fence of a checkpoint save (R84, R173). -/
def execBatchOpening (s : State) : Host.Outcome State Fault Refusal :=
  .next (match s.me.pass with
    | some p =>
      if p.stage = .opening ∧ s.saving = false then
        ({ s with ltc := s.ltc.clearMarks }).setPass (some (p.openBatch s.geo s.prm))
      else s
    | none => s)

/-! ### Hit, revive and miss claims (R35, R41, R43 to R45) -/

/-- The claim finds its landmark: the entry is live and its generation is the recorded one (R41). -/
def Table.claimed (t : Table) (c : UpdateClaim) : Option Landmark := if t.gen c.index = c.gen then t.lm c.index else none

/-- A sighting is counted (R43, R44). -/
def Landmark.sighted (r : Landmark) (v : Serial) : Landmark :=
  { r with hits := min 255 (r.hits + 1), misses := 0, lastSeen := v, passMark := true }

/-- The class after a sighting (R43, R44), with the hits counted. -/
def Landmark.classAfter (old : LandmarkState) (hits anchorHits : Nat) : LandmarkState :=
  match old with
  | .tentative => .tracked
  | .anchored => .anchored
  | .tracked | .fading => if anchorHits ≤ hits then .anchored else .tracked

/-- The position after a hit: refined while TENTATIVE or TRACKED, frozen otherwise (R43). -/
def Landmark.refined (r : Landmark) (g : Geometry) (x y : Int) : Int × Int :=
  match r.state with
  | .tentative | .tracked =>
    (roundDiv (r.x * r.hits + x) (r.hits + 1),
      clampInt 0 (4 * g.ch - 1) (roundDiv (r.y * r.hits + y) (r.hits + 1)))
  | .anchored | .fading => (r.x, r.y)

/-- The record after a hit claim (R43). -/
def Landmark.hit (r : Landmark) (g : Geometry) (anchorHits : Nat) (v : Serial) (x y : Int) : Landmark :=
  { r.sighted v with
    x := (r.refined g x y).1
    y := (r.refined g x y).2
    state := Landmark.classAfter r.state (min 255 (r.hits + 1)) anchorHits }

/-- The record after a revive claim (R44): its position stays frozen. -/
def Landmark.revived (r : Landmark) (anchorHits : Nat) (v : Serial) : Landmark :=
  { r.sighted v with state := Landmark.classAfter r.state (min 255 (r.hits + 1)) anchorHits }

/-- A refined record is put back, moving to the bin of its new X where that list has room (R35). -/
def Table.putMoving (t : Table) (g : Geometry) (i : Nat) (r : Landmark) : Table :=
  let j := g.binOf r.x
  if j = r.bin ∨ 8 ≤ (t.bin j).length then t.put i r
  else
    ({ t with bins := (t.bins.modify r.bin fun l => l.filter fun k => !decide (k = i)).modify j fun l =>
        l ++ [i] }).put i { r with bin := j }

/-- The record after a miss claim; `none` where the miss retires the landmark (R45). -/
def Landmark.missed (r : Landmark) (missLimit : Nat) : Option Landmark :=
  let m := min 15 (r.misses + 1)
  match r.state with
  | .tentative =>
    if m < missLimit then some { r with misses := m }
    else if r.isProtected then some { r with misses := m, state := .fading }
    else none
  | .tracked | .anchored =>
    if m < missLimit then some { r with misses := m } else some { r with misses := m, state := .fading }
  | .fading => if m < 2 * missLimit || r.isProtected then some { r with misses := m } else none

/-- A hit claim on its landmark (R43); only a refinement that changes X tries to move it (R35). -/
def Table.applyHit (t : Table) (g : Geometry) (anchorHits : Nat) (v : Serial) (c : UpdateClaim) (r : Landmark) :
    Table :=
  let r' := r.hit g anchorHits v c.x c.y
  if r'.x = r.x then t.put c.index r' else t.putMoving g c.index r'

def Table.applyRevive (t : Table) (anchorHits : Nat) (v : Serial) (c : UpdateClaim) (r : Landmark) : Table :=
  t.put c.index (r.revived anchorHits v)

def Table.applyMiss (t : Table) (missLimit : Nat) (c : UpdateClaim) (r : Landmark) : Table :=
  match r.missed missLimit with
  | some r' => t.put c.index r'
  | none => t.retire c.index

/-- LTC takes an update claim: APPLIED by `f`, or STALE, which the pass counts (R41, R84). `p` is the pass
with the claim taken off its list. -/
def State.takeClaim (s : State) (p : Pass) (c : UpdateClaim) (f : Landmark → Table) : State :=
  match s.ltc.claimed c with
  | some r => ({ s with ltc := f r }).setPass (some (p.settleBatch s.prm))
  | none => s.setPass (some ({ p with stale := p.stale + 1 }.settleBatch s.prm))

/-- The open batch whose next claim may be taken: no copy is in progress (R37, R174). -/
def State.openPass (s : State) : Option Pass :=
  match s.me.pass with
  | some p =>
    match p.stage with
    | .batch _ => if s.copying then none else some p
    | .lookup _ _ | .solve | .judge | .judgeHeld | .push _ | .pushHeld | .footprint | .opening | .parked | .fenced
    | .report => none
  | none => none

/-- HIT_CLAIM (R43), where the batch's next claim is a hit (R42). -/
def execHitClaim (s : State) : Host.Outcome State Fault Refusal :=
  .next (match s.openPass with
    | some p =>
      match p.sights with
      | (.hit, c) :: rest =>
        s.takeClaim { p with sights := rest } c (s.ltc.applyHit s.geo s.prm.anchorHits p.serial c)
      | (.revive, _) :: _ | [] => s
    | none => s)

/-- REVIVE_CLAIM (R44), where the batch's next claim is a revive (R42). -/
def execReviveClaim (s : State) : Host.Outcome State Fault Refusal :=
  .next (match s.openPass with
    | some p =>
      match p.sights with
      | (.revive, c) :: rest =>
        s.takeClaim { p with sights := rest } c (s.ltc.applyRevive s.prm.anchorHits p.serial c)
      | (.hit, _) :: _ | [] => s
    | none => s)

/-- MISS_CLAIM (R45): after the hit and revive claims (R42). -/
def execMissClaim (s : State) : Host.Outcome State Fault Refusal :=
  .next (match s.openPass with
    | some p =>
      match p.misses with
      | c :: rest =>
        if p.sights.isEmpty then
          s.takeClaim { p with misses := rest } c (s.ltc.applyMiss s.prm.missLimit c)
        else s
      | [] => s
    | none => s)

/-! ### Admission (R46 to R50) -/

/-- The entry becomes a live TENTATIVE record at the tail of its bin's list (R47). -/
def Table.admitLandmark (t : Table) (g : Geometry) (i : Nat) (a : Admission) (v : Serial) (origin : Bool) : Table :=
  { t.put i ⟨.tentative, false, origin, a.x, a.y, a.descriptor, a.strength, 1, 0, v, v, g.binOf a.x, true⟩ with
    bins := t.bins.modify (g.binOf a.x) fun l => l ++ [i]
    live := t.live + 1
    origin := t.origin + origin.toNat }

/-- An eviction victim (R50). -/
def Landmark.evictable (r : Landmark) : Bool := decide (r.state = .tentative) && !r.pinned && !r.origin && !r.passMark

/-- `a` is evicted rather than `b`: lower strength, then first seen further back from the serial `v` (R50). -/
def Landmark.weaker (v : Serial) (a b : Landmark) : Bool :=
  a.strength < b.strength || (a.strength == b.strength && (v - b.firstSeen).toNat < (v - a.firstSeen).toNat)

/-- The victim of eviction, the lower index among equals (R50). -/
def Table.evictionVictim (t : Table) (v : Serial) : Option Nat :=
  ((t.indicesOf Landmark.evictable).foldl (fun (best : Option (Nat × Landmark)) i =>
    match best, t.lm i with
    | none, some r => some (i, r)
    | some (j, b), some r => if Landmark.weaker v r b then some (i, r) else some (j, b)
    | best, none => best) none).map Prod.fst

/-- Admission with eviction (R49, R50): the table after it and whether the claim is ADMITTED. -/
def Table.admitEvicting (t : Table) (g : Geometry) (a : Admission) (v : Serial) (origin : Bool) : Table × Bool :=
  match t.evictionVictim v with
  | some i => ((t.retire i).admitLandmark g i a v origin, true)
  | none => (t, false)

/-- The claim's answer: ADMITTED or DECLINED (R84). -/
def State.admissionAnswered (s : State) (p : Pass) (t : Table × Bool) : State :=
  ({ s with ltc := t.1 }).setPass (some ({ p with
    admissions := p.admissions.tail, admitted := p.admitted + t.2.toNat }.settleBatch s.prm))

/-- LTC takes the first admission claim of the pass (R47, R49); `accepted` where RESUME ACCEPT has it taken anew. -/
def State.takeAdmission (s : State) (p : Pass) (a : Admission) (accepted : Bool) : State :=
  let origin := decide (p.how = .origin)
  if a.y < 0 ∨ 4 * (s.geo.ch : Int) - 1 < a.y ∨ 8 ≤ (s.ltc.bin (s.geo.binOf a.x)).length then
    s.admissionAnswered p (s.ltc, false)
  else
    match s.ltc.freeEntry with
    | some i => s.admissionAnswered p (s.ltc.admitLandmark s.geo i a p.serial origin, true)
    | none =>
      if accepted then s.admissionAnswered p (s.ltc.admitEvicting s.geo a p.serial origin)
      else if (s.report .tableFull).2 then (s.report .tableFull).1.setPass (some { p with stage := .parked })
      else (s.report .tableFull).1.admissionAnswered p (s.ltc.admitEvicting s.geo a p.serial origin)

/-- ADMISSION_CLAIM (R47): after the other claims of the batch (R46). -/
def execAdmissionClaim (s : State) : Host.Outcome State Fault Refusal :=
  .next (match s.openPass with
    | some p =>
      match p.admissions with
      | a :: _ =>
        if p.sights.isEmpty && p.misses.isEmpty then
          s.takeAdmission p a (decide (p.stage = .batch true))
        else s
      | [] => s
    | none => s)

/-! ### The end of the batch (R84, R100) -/

/-- STALE_COUNT_CLAIM (R100): the placement of a pushed frame takes its stale count, the last frame record the
two counts if it still names the frame, and the pass ends. -/
def execStaleCountClaim (s : State) : Host.Outcome State Fault Refusal :=
  .next (match s.me.pass with
    | some p =>
      if p.stage = .report then
        let s := if p.pushed then s.updateRecord p.serial fun r => { r with stale := p.stale } else s
        let s := if s.sc.last.serial = p.serial then
            { s with sc := { s.sc with last := { s.sc.last with admitted := p.admitted, stale := p.stale } } }
          else s
        s.setPass none
      else s
    | none => s)

end Sys2Proof.Machine
end

