-- ==== Sys2Proof/Machine/Blend.lean ====
section
/-! DEFINITION. The Blend Unit (Chapter 6): take, measure and seam, block writes, blend end and its claims. -/

namespace Sys2Proof.Machine

/-! ### The take (R96, R107, R108) -/

def State.setBlend (s : State) (b : Option BlendPass) : State := { s with bu := { s.bu with pass := b } }

/-- The deepest PLACED record (R96). -/
def State.deepestPlaced (s : State) : Option Placement := s.pw.reverse.find? fun r => decide (r.state = .placed)

/-- The used part at the take (R96, R108). -/
def usedAtTake (g : Geometry) (r : Placement) : UsedPart :=
  ⟨roundDiv r.x 4, clampInt 0 (g.ch - 1) (roundDiv r.y 4), none⟩

/-- The pass at the take: FEATHER is read, trailing u and first row are fixed (R107, R108). -/
def blendAtTake (g : Geometry) (feather : Nat) (r : Placement) (b : BankId) : BlendPass :=
  ⟨r.serial, b, feather, g.d * roundDiv r.x 4, roundDiv r.y 4, ⟨0, 0, 0⟩, .measuring []⟩

/-- Record and bank become BLENDING and the pass begins (R96, R107). -/
def State.takeBlend (s : State) (r : Placement) (b : BankId) : State :=
  let s := s.updateRecord r.serial fun r => { r with state := .blending, used := some (usedAtTake s.geo r) }
  let s := s.setBank b { s.bank b with state := .blending }
  s.setBlend (some (blendAtTake s.geo s.prm.feather r b))

/-- BU is free to begin a blend and no copy holds it back (R96, R107, R118). -/
def State.blenderFree (s : State) : Bool := s.bu.pass.isNone && s.bu.join.isNone && !s.copying && !s.stopping

/-- BLEND_TAKE (R96). -/
def execBlendTake (s : State) : Host.Outcome State Fault Refusal :=
  .next (if s.blenderFree then
      match s.deepestPlaced with
      | some r =>
        match s.findBank .placed r.serial with
        | some b => s.takeBlend r b
        | none => s
      | none => s
    else s)

/-! ### Measuring (R109 to R112) -/

/-- The address of the canvas luma at u and canvas row. -/
def Geometry.canvasLuma (g : Geometry) (u : Int) (row : Nat) : Nat := g.lumaAddr (g.memColU u) row

/-- The address of the frame's luma at u on a canvas row (R108: column u − t, row less y0). -/
def State.blendFrameLuma (s : State) (b : BlendPass) (u : Int) (row : Nat) : Nat :=
  s.geo.frameLuma (s.bankBase b.bank) (s.geo.deliveryCol (u - b.t).toNat) (row - b.y0).toNat

/-- The numbers `lo`, `lo + step`, … that do not pass `hi`. -/
def everyUpTo (lo hi : Int) (step : Nat) : List Int :=
  if hi < lo then [] else (List.range (((hi - lo) / step).toNat + 1)).map fun (i : Nat) => lo + step * (i : Int)

/-- Every fourth common row of the frame and the reference (R109, R111). -/
def commonRows (g : Geometry) (y0 : Int) (ref : BlendRef) : List Nat :=
  (everyUpTo (max ref.rowLo (g.usedRows y0).1) (min ref.rowHi (g.usedRows y0).2) 4).map Int.toNat

/-- The feather R110 gives before the seam range is formed: 0 for the origin, a GAP record, or no overlap. -/
def featherFor (how : HowPlaced) (gap : Bool) (feather : Nat) (overlap : Option Int) : Nat :=
  match overlap with
  | none => 0
  | some v =>
    if how = .origin ∨ gap then 0
    else ([64, 32, 16, 8].find? fun f => decide (f ≤ feather ∧ (f : Int) ≤ v - 8)).getD 0

/-- Low and high end of the seam range (R111). -/
def seamRange (t commitLine leading : Int) (f : Nat) : Int × Int :=
  (max (t + (f / 2 : Nat)) (commitLine + 32 + (f / 2 : Nat)), leading - (f / 2 : Nat))

/-- Where the range is empty, or the reference absent (R111). -/
def seamWithoutRange (t commitLine : Int) : Int := max t (commitLine + 32)

/-- Everything the measures of R110 to R112 go over, which no sample decides: the common rows and overlap columns sampled,
the feather, and the seam range. -/
structure SeamPlan where
  rows : List Nat
  cols : List Int
  feather : Nat
  range : Int × Int
  deriving DecidableEq, Repr

/-- The candidate columns for the seam (R111). -/
def SeamPlan.candidates (p : SeamPlan) : List Int := everyUpTo p.range.1 p.range.2 4

def State.seamPlan (s : State) (b : BlendPass) (r : Placement) (ref : BlendRef) : SeamPlan :=
  let leading := ref.t + s.geo.fw
  let f := featherFor r.how r.gap b.feather (some (leading - b.t))
  ⟨commonRows s.geo b.y0 ref, everyUpTo b.t (leading - 1) 4, f, seamRange b.t s.bu.commitLine leading f⟩

/-- The addresses BU reads to measure: at each overlap column and then at each candidate column, the canvas luma and
the frame's luma on every common row sampled (R111, R112, log 8). -/
def State.sampleAddrs (s : State) (b : BlendPass) (r : Placement) : List Nat :=
  match s.bu.reference with
  | none => []
  | some ref =>
    let p := s.seamPlan b r ref
    (p.cols ++ p.candidates).flatMap fun u =>
      p.rows.flatMap fun row => [s.geo.canvasLuma u row, s.blendFrameLuma b u row]

/-- A granted burst of the measuring: a read of the next samples (R10). -/
def State.burstMeasure (s : State) (b : BlendPass) (read : List Byte) : State :=
  match s.record b.serial with
  | some r => s.setBlend (some { b with stage := .measuring (s.readOn (s.sampleAddrs b r) read) })
  | none => s

/-- The luma difference of a candidate seam (R111). -/
def State.seamScore (s : State) (rd : Nat → Byte) (b : BlendPass) (rows : List Nat) (u : Int) : Nat :=
  (rows.map fun r => (((rd (s.geo.canvasLuma u r)).toNat : Int) - (rd (s.blendFrameLuma b u r)).toNat).natAbs).sum

/-- The candidate of lowest score, then nearest the centre, then further behind (R111). -/
def bestSeam (score : Int → Nat) (centre2 : Int) (cands : List Int) : Option Int :=
  cands.foldl (fun best u =>
    match best with
    | none => some u
    | some v =>
      if score u < score v ∨ (score u = score v ∧ (2 * u - centre2).natAbs < (2 * v - centre2).natAbs) then some u
      else some v) none

/-- The gain from the sample sums (R112). -/
def gainOf (sc sf : Nat) : Nat := if sf = 0 then 128 else (clampInt 32 128 (roundDiv (64 * sc) sf)).toNat

/-- The gain of the pass (R112): over every fourth overlap column and common row; 64 without samples. -/
def State.measureGain (s : State) (rd : Nat → Byte) (b : BlendPass) (p : SeamPlan) : Nat :=
  if p.cols.isEmpty || p.rows.isEmpty then 64
  else
    gainOf ((p.cols.map fun u => (p.rows.map fun r => (rd (s.geo.canvasLuma u r)).toNat).sum).sum)
      ((p.cols.map fun u => (p.rows.map fun r => (rd (s.blendFrameLuma b u r)).toNat).sum).sum)

/-- Seam, feather used and gain of a pass (R109 to R112), from the bytes `rd` gives for the sample addresses. -/
def State.measure (s : State) (rd : Nat → Byte) (b : BlendPass) (r : Placement) : SeamPart :=
  match s.bu.reference with
  | none => ⟨seamWithoutRange b.t s.bu.commitLine, 0, 64⟩
  | some ref =>
    let p := s.seamPlan b r ref
    match bestSeam (s.seamScore rd b p.rows) (p.range.1 + p.range.2) p.candidates with
    | some u => ⟨u, p.feather, s.measureGain rd b p⟩
    | none => ⟨seamWithoutRange b.t s.bu.commitLine, 0, s.measureGain rd b p⟩

/-- First u of the write range (R113). -/
def SeamPart.first (p : SeamPart) : Int := p.seam - (p.feather / 2 : Nat)

/-- The u past the write range: the frame's leading u, less columns at u ≥ CW (R113). -/
def writeEnd (g : Geometry) (t : Int) : Int := min (t + g.fw) g.cw

/-- The block schedule as sweep places, in increasing sweep u (R113). -/
def blockSchedule (first last : Int) : List Nat :=
  if last ≤ first then [] else List.range' (first / 32).toNat (((last - 1) / 32).toNat + 1 - (first / 32).toNat)

/-- The seam is fixed: the used part is complete and the pass stands before its first block write (R97, R112). -/
def State.fixSeam (s : State) (b : BlendPass) (m : SeamPart) : State :=
  (s.updateRecord b.serial fun r =>
      { r with
        used := r.used.map fun u => { u with fixed := some m }
        featherClamped := decide (m.feather < b.feather) }).setBlend
    (some { b with seam := m, stage := .writing (blockSchedule m.first (writeEnd s.geo b.t)) })

/-- SEAM_FIX (R112): once granted bursts have read the samples (R107). A pass that is measuring stands at no boundary, so
a stop waits for this step (R107). -/
def execSeamFix (s : State) : Host.Outcome State Fault Refusal :=
  .next (match s.bu.pass with
    | some b =>
      match b.stage with
      | .measuring read =>
        match s.record b.serial with
        | some r =>
          if (s.sampleAddrs b r).length ≤ read.length then
            s.fixSeam b (s.measure (heldAt (s.sampleAddrs b r) read) b r)
          else s
        | none => s
      | .writing _ | .inBlock _ _ _ | .ending _ _ => s
    | none => s)

/-! ### Block writes (R113, R114) -/

/-- Gained luma (R114). -/
def gained (luma gain : Nat) : Nat := min 255 (roundDiv (luma * gain) 64).toNat

/-- The mix at zone position `i` of a zone `f` wide: canvas and frame value (R114). -/
def mixed (f i canvas frame : Nat) : Nat :=
  (roundDiv ((canvas : Int) * (2 * f - 2 * i - 1) + (frame : Int) * (2 * i + 1)) (2 * f)).toNat

/-- The value written at u: mixed inside the feather zone, the frame's outside it (R114). -/
def SeamPart.value (m : SeamPart) (u : Int) (canvas frame : Nat) : Nat :=
  if u < m.first + m.feather then mixed m.feather (u - m.first).toNat canvas frame else frame

/-- The address of a chroma byte (0 Cb, 1 Cr) of the canvas pair that serves (u, row). -/
def Geometry.canvasChroma (g : Geometry) (u : Int) (row part : Nat) : Nat := g.chromaAddr (g.memColU u) row + part

/-- The address of a chroma byte of the frame pair that serves the frame pixel at u and canvas row (R114). -/
def State.blendFrameChroma (s : State) (b : BlendPass) (u : Int) (row part : Nat) : Nat :=
  s.geo.frameChroma (s.bankBase b.bank) (s.geo.deliveryCol (u - b.t).toNat) (row - b.y0).toNat + part

/-- What is read for a byte written at u: the frame's byte, and the canvas's where it is mixed in (R114). -/
def SeamPart.sources (m : SeamPart) (u : Int) (canvas frame : Nat) : List Nat :=
  if u < m.first + m.feather then [frame, canvas] else [frame]

/-- The luma byte written at u on a canvas row. -/
def State.blendLuma (s : State) (b : BlendPass) (u : Int) (row : Nat) : Output :=
  let canvas := s.geo.canvasLuma u row
  let frame := s.blendFrameLuma b u row
  ⟨canvas, b.seam.sources u canvas frame,
    fun rd => byteOf (b.seam.value u (rd canvas).toNat (gained (rd frame).toNat b.seam.gain))⟩

/-- The two chroma bytes of the group at u and row pair `i`; `top` is the row whose frame pixel gives the pair. -/
def State.blendChroma (s : State) (b : BlendPass) (u : Int) (i top : Nat) : List Output :=
  [0, 1].map fun part =>
    let canvas := s.geo.canvasChroma u (2 * i) part
    let frame := s.blendFrameChroma b u top part
    ⟨canvas, b.seam.sources u canvas frame, fun rd => byteOf (b.seam.value u (rd canvas).toNat (rd frame).toNat)⟩

/-- The columns of the block at sweep place `a` that lie in the write range (R113). -/
def BlendPass.columns (b : BlendPass) (g : Geometry) (a : Nat) : List Int :=
  everyUpTo (max b.seam.first (32 * a)) (min (writeEnd g b.t) (32 * a + 32) - 1) 1

/-- `u` gives its chroma group's weight: no written column of the group lies further ahead (R114). -/
def Geometry.leadsGroup (g : Geometry) (cols : List Int) (u : Int) : Bool :=
  !(cols.contains (u + 1) && g.memColU (u + 1) / 2 == g.memColU u / 2)

/-- Everything a block write writes (R113, R114). -/
def State.blockOutputs (s : State) (b : BlendPass) (a : Nat) : List Output :=
  let cols := b.columns s.geo a
  let rows := s.geo.usedRows b.y0
  let luma := (everyUpTo rows.1 rows.2 1).flatMap fun r => cols.map fun u => s.blendLuma b u r.toNat
  let chroma := if rows.2 < rows.1 then [] else
    (everyUpTo (rows.1 / 2) (rows.2 / 2) 1).flatMap fun i =>
      (cols.filter (s.geo.leadsGroup cols)).flatMap fun u =>
        s.blendChroma b u i.toNat (max rows.1 (2 * i)).toNat
  luma ++ chroma

/-- The frame has used rows (R108). -/
def BlendPass.hasRows (b : BlendPass) (g : Geometry) : Bool := decide ((g.usedRows b.y0).1 ≤ (g.usedRows b.y0).2)

def State.coverageAt (s : State) (k : Nat) : Coverage := s.bu.coverage[k]?.getD .blank

/-- The block becomes OPEN under `v`, with the matching count changes, as one step (R97, R113). -/
def State.openBlock (s : State) (k : Nat) (v : Serial) : State :=
  let old := (s.coverageAt k).owner
  { s with
    bu := { s.bu with coverage := s.bu.coverage.set k (.opened v) }
    pw := if old = some v then s.pw else
      s.pw.map fun r =>
        if r.serial = v then { r with owned := r.owned + 1 }
        else if old = some r.serial then { r with owned := r.owned - 1 }
        else r }

/-- The block at sweep place `a` is passed by: it is COMMITTED, or the frame has no used rows (R113). -/
def State.passesBlock (s : State) (b : BlendPass) (a : Nat) : Bool :=
  decide (s.coverageAt (s.geo.blockAt a) = .committed) || !b.hasRows s.geo

/-- A granted burst of the block write: a read or a write of up to 64 bytes (R10). -/
def State.burstBlock (s : State) (b : BlendPass) (a : Nat) (rest : List Nat) (t : Transfer) : State :=
  ({ s with mem := s.mem.writeAll (t.cells (s.blockOutputs b a)) }).setBlend
    (some { b with stage := .inBlock a rest (s.advance t (s.blockOutputs b a)) })

/-- The block write ends: coverage and counts change (R113). -/
def State.endBlock (s : State) (b : BlendPass) (a : Nat) (rest : List Nat) : State :=
  (s.openBlock (s.geo.blockAt a) b.serial).setBlend (some { b with stage := .writing rest })

/-- BLOCK_WRITE (R113): the next block of the schedule, once granted bursts have written it (R107); a COMMITTED block, or
a frame with no used rows, changes nothing. A stop takes effect at this boundary, and a block write begun is completed,
with its coverage change, whatever stop stands (R118). -/
def execBlockWrite (s : State) : Host.Outcome State Fault Refusal :=
  .next (match s.bu.pass with
    | some b =>
      match b.stage with
      | .writing (a :: rest) =>
        if s.stopping then s
        else if s.passesBlock b a then s.setBlend (some { b with stage := .writing rest })
        else if Transfer.start.done (s.blockOutputs b a) then s.endBlock b a rest
        else s
      | .inBlock a rest t => if t.done (s.blockOutputs b a) then s.endBlock b a rest else s
      | .writing [] | .measuring _ | .ending _ _ => s
    | none => s)

/-! ### Blend end and commitment (R116, R51, R98, R99) -/

/-- The commit line after the blend end (R116). -/
def BlendPass.newLine (b : BlendPass) (old : Int) : Int := max old (b.seam.first - 32)

/-- Step 1 of the blend end (R116): line and commits in one step; the claims are presented. -/
def State.endBlend (s : State) (b : BlendPass) : State :=
  let line := b.newLine s.bu.commitLine
  let s := s.commitBlocks fun k _ => s.geo.blockBehind line k
  { s with bu := { s.bu with commitLine := line, pass := some { b with stage := .ending true true } } }

/-- BLEND_END (R116). -/
def execBlendEnd (s : State) : Host.Outcome State Fault Refusal :=
  .next (match s.bu.pass with
    | some b => if b.stage = .writing [] ∧ s.stopping = false then s.endBlend b else s
    | none => s)

/-- Landmarks a retire-behind claim retires (R51). -/
def State.behindVictims (s : State) : List Nat :=
  s.ltc.indicesOf fun r => !r.isProtected && s.geo.binBehind s.bu.commitLine r.bin

/-- RETIRE_BEHIND (R51), with the commit line the blend end left. -/
def execRetireBehind (s : State) : Host.Outcome State Fault Refusal :=
  .next (match s.bu.pass with
    | some b =>
      match b.stage with
      | .ending true claim =>
        ({ s with ltc := s.ltc.retireAll s.behindVictims }).setBlend (some { b with stage := .ending false claim })
      | .ending false _ | .writing _ | .inBlock _ _ _ | .measuring _ => s
    | none => s)

/-- A record a retirement claim removes: BLENDED, not at depth 0, with no OPEN block (R99). -/
def Placement.retirable (r : Placement) : Bool := decide (r.state = .blended ∧ r.owned = 0)

def retirePlacements : List Placement → List Placement
  | [] => []
  | r :: rest => r :: rest.filter fun q => !q.retirable

/-- RETIREMENT_CLAIM (R99). -/
def execRetirementClaim (s : State) : Host.Outcome State Fault Refusal :=
  .next (match s.bu.pass with
    | some b =>
      match b.stage with
      | .ending claim true =>
        ({ s with pw := retirePlacements s.pw }).setBlend (some { b with stage := .ending claim false })
      | .ending _ false | .writing _ | .inBlock _ _ _ | .measuring _ => s
    | none => s)

/-- The record becomes BLENDED, its bank FREE, and the reference takes its values (R98, R106, R116). -/
def State.finishBlend (s : State) (b : BlendPass) : State :=
  let rows := s.geo.usedRows b.y0
  let s := s.updateRecord b.serial fun r => { r with state := .blended }
  let s := if (s.bank b.bank).state = .blending then s.setBank b.bank (s.bank b.bank).freed else s
  { s with bu := { s.bu with reference := some ⟨b.t, rows.1, rows.2⟩, pass := none } }

/-- BLEND_END_CLAIM (R98): after the claims of the blend end (R116, log 20). -/
def execBlendEndClaim (s : State) : Host.Outcome State Fault Refusal :=
  .next (match s.bu.pass with
    | some b => if b.stage = .ending false false then s.finishBlend b else s
    | none => s)

end Sys2Proof.Machine
end

