-- ==== Sys2Proof/Machine/ExportLines.lean ====
section
/-! DEFINITION. The Export Unit's output lines (R156 to R158): size, sources, the bursts that read them, and the line sent. -/

namespace Sys2Proof.Machine

/-! ### What a line is made of -/

/-- Samples of an output line, and lines of the job: at QUARTER a quarter of what FULL gives, and even (R155). -/
def Export.width (e : Export) : Nat := if e.quarter then 2 * (e.columns.length / 8) else e.columns.length

def Export.height (e : Export) : Nat := if e.quarter then 2 * (e.rowCount / 8) else e.rowCount

/-- Chroma pairs of line `k`: one for every two samples of an even-numbered line (R156, R157). -/
def Export.pairs (e : Export) (k : Nat) : Nat := if k % 2 = 0 then (e.width + 1) / 2 else 0

/-- A column of the list; the caller stays within the list. -/
def Export.column (e : Export) (i : Nat) : Nat × Int := e.columns[i]?.getD (0, 0)

/-- A source value of an output line: luma, or chroma byte `part` (0 Cb, 1 Cr), of a list position at a source row. -/
structure Source where
  part : Option Nat
  pos : Nat
  row : Nat
  deriving DecidableEq, Repr

/-- The sources of one kind at a list position, on `n` rows from `row`. -/
def sourceRows (part : Option Nat) (pos row n : Nat) : List Source :=
  (List.range n).map fun i => ⟨part, pos, row + i⟩

/-- The sources of line `k` at a list position (R156, R157). FULL: one luma value, and on an even-numbered line Cb and
Cr of every second position. QUARTER: the luma of four rows, and on an even-numbered line Cb and Cr of eight. -/
def Export.sourcesAt (e : Export) (k pos : Nat) : List Source :=
  let row := e.firstRow + if e.quarter then 4 * k else k
  let rows := if e.quarter then 8 else 1
  sourceRows none pos row (if e.quarter then 4 else 1) ++
    if k % 2 = 0 ∧ (e.quarter = true ∨ pos % 2 = 0) then
      sourceRows (some 0) pos row rows ++ sourceRows (some 1) pos row rows
    else []

/-- List positions a line is made of (R156, R157). -/
def Export.positions (e : Export) : Nat := if e.quarter then 4 * e.width else e.width

/-- The sources of line `k` in list order, which is the order EU comes to them (R156, log 8). -/
def Export.sources (e : Export) (k : Nat) : List Source := (List.range e.positions).flatMap (e.sourcesAt k)

/-! ### Reading it (R156) -/

/-- The reading of a block's coverage entry: the one taken when EU reached the block, or taken now where EU comes to it
from another block or begins its line (R156). -/
def State.reach (s : State) (at' : Option Reached) (block : Nat) : Reached :=
  match at' with
  | some r => if r.block = block then r else ⟨block, decide (s.coverageAt block = .blank)⟩
  | none => ⟨block, decide (s.coverageAt block = .blank)⟩

/-- The block of a source's memory column. -/
def Export.blockOf (e : Export) (c : Source) : Nat := (e.column c.pos).1 / 32

/-- The canvas address of a source, absent where it is fill: its row lies outside the canvas, or its block was read as
BLANK (R156). -/
def State.sourceAddr (s : State) (blank : Bool) (c : Source) : Option Nat :=
  let col := s.eu.column c.pos
  let r := (c.row : Int) + col.2
  if r < 0 ∨ (s.geo.ch : Int) ≤ r ∨ blank = true then none
  else
    some (match c.part with
      | none => s.geo.lumaAddr col.1 r.toNat
      | some part => s.geo.chromaAddr col.1 r.toNat + part)

/-- Fill: luma 16, chroma 128 (R156). -/
def Source.fill (c : Source) : Byte :=
  match c.part with
  | none => 16#8
  | some _ => 128#8

/-- EU goes along its line with a burst of `budget` bytes: it passes over fill without reading memory, and stands before
the first canvas byte the burst has no room for (R10, R156). `vs` holds the values so far, last first. -/
def State.passAlong (s : State) (budget : Nat) (at' : Option Reached) (vs : List Byte) :
    List Source → List Byte × Option Reached
  | [] => (vs.reverse, at')
  | c :: rest =>
    let r := s.reach at' (s.eu.blockOf c)
    match s.sourceAddr r.blank c with
    | none => s.passAlong budget (some r) (c.fill :: vs) rest
    | some a =>
      match budget with
      | 0 => (vs.reverse, at')
      | n + 1 => s.passAlong n (some r) (s.mem.read a :: vs) rest

/-- The sources of the line in progress that EU has not passed yet. -/
def State.unread (s : State) : List Source := (s.eu.sources s.eu.linesSent).drop s.eu.fetched.length

/-- What EU passes with a burst of `budget` bytes: the values, and the block it then stands in. -/
def State.passOn (s : State) (budget : Nat) : List Byte × Option Reached :=
  s.passAlong budget s.eu.reached [] s.unread

/-- Only fill is left of the line in progress: no byte of canvas memory is still to be read for it. -/
def State.lineRead (s : State) : Bool := decide (s.unread.length ≤ (s.passOn 0).1.length)

/-- A granted burst of EU, which begins the line if it has not begun: a read of the next canvas bytes of it, up to 64
(R10). -/
def State.fetchBurst (s : State) : State :=
  { s with eu := { s.eu with
      lineBegun := true
      fetched := s.eu.fetched ++ (s.passOn burstBytes).1
      reached := (s.passOn burstBytes).2 } }

/-! ### Sending it (R156 to R158) -/

/-- The source values of a line of which only fill is left. -/
def State.lineValues (s : State) : List Byte := s.eu.fetched ++ (s.passOn 0).1

/-- The mean of source values, halves going up (R157); of one value, the value (R156). -/
def meanByte (vs : List Byte) : Byte := byteOf ((2 * (vs.map BitVec.toNat).sum + vs.length) / (2 * vs.length))

/-- The source values of one kind, in list order. -/
def State.valuesOf (s : State) (part : Option Nat) : List Byte :=
  (((s.eu.sources s.eu.linesSent).zip s.lineValues).filter fun cv => decide (cv.1.part = part)).map Prod.snd

/-- `count` means, each of the next `n` values. -/
def meansOf (n count : Nat) (vs : List Byte) : List Byte :=
  (List.range count).map fun i => meanByte ((vs.drop (n * i)).take n)

/-- The next line of the job: a luma sample stands for 1 or 16 source values, a byte of a chroma pair for 1 or 64 (R156,
R157). -/
def State.nextLine (s : State) : PortEvent :=
  let n := s.eu.pairs s.eu.linesSent
  .line (meansOf (if s.eu.quarter then 16 else 1) s.eu.width (s.valuesOf none))
    ((meansOf (if s.eu.quarter then 64 else 1) n (s.valuesOf (some 0))).zip
      (meansOf (if s.eu.quarter then 64 else 1) n (s.valuesOf (some 1))))

/-- The next line is sent and counted (R158). -/
def State.sendLine (s : State) : State :=
  ({ s with eu := { s.eu with linesSent := s.eu.linesSent + 1, fetched := [], reached := none } }).sendPort s.nextLine

/-- After a line of a RUNNING job: complete, or on to the next line, begun or not (R158; a free value, log 10). -/
def State.afterLine (s : State) : State :=
  if s.eu.height ≤ s.eu.linesSent then s.endJob .complete
  else { s with eu := { s.eu with lineBegun := Config.nextLineBegun s.free }, free := s.free + 1 }

end Sys2Proof.Machine
end

