-- ==== Sys2Proof/Machine/Closing.lean ====
section
/-! DEFINITION. Ending a sweep: the steps of the closing (R134), the closure join (R149 to R151), the commit of all open blocks
(R117), and ABORT's clear step (R136). -/

namespace Sys2Proof.Machine

/-- Steps 1 to 3 of the closing have ended (R134): no match pass, no record PLACED or BLENDING, no blend or join
in progress, no checkpoint save to wait for (log 12). -/
def State.closingReady (s : State) : Bool :=
  decide (s.sc.sweep = .closing) && s.me.pass.isNone && s.bu.pass.isNone && s.bu.join.isNone && !s.saving &&
    !s.stopping && s.pw.all fun r => decide (r.state = .blended)

def State.setClosureState (s : State) (c : ClosureState) : State :=
  { s with sc := { s.sc with closure := { s.sc.closure with state := c } } }

/-- CLOSURE_JOIN (R149): FEATHER, Ce and r_y are read; with Fj 0 the join completes at once (R151). -/
def execClosureJoin (s : State) : Host.Outcome State Fault Refusal :=
  .next (if s.closingReady && decide (s.sc.closure.state = .detected) then
      if s.prm.feather = 0 then s.setClosureState .joined
      else { s with bu := { s.bu with join := some ⟨0, min 64 s.prm.feather, s.sc.closure.ce, s.sc.closure.ry, .start⟩ } }
    else s)

/-! ### A join column (R149, R150) -/

/-- The weighted mean of late and origin value at join column `i` (R149). -/
def joined (f i late origin : Nat) : Nat :=
  (roundDiv ((late : Int) * (2 * f - 2 * i - 1) + (origin : Int) * (2 * i + 1)) (2 * f)).toNat

/-- Join column `i` is written: neither block concerned is BLANK (R149). -/
def State.joinWrites (s : State) (j : Join) (i : Nat) : Bool :=
  s.coverageAt (s.geo.memColU i / 32) != .blank && s.coverageAt (s.geo.memColU (j.ce + i) / 32) != .blank

/-- A canvas row's partner row, where it lies in the canvas (R149). -/
def partnerRow (g : Geometry) (ry : Int) (row : Nat) : Option Nat :=
  if 0 ≤ row + ry ∧ row + ry < g.ch then some (row + ry).toNat else none

/-- A byte of the join: the mean of a late and an origin byte, written over the origin byte. -/
def Join.output (j : Join) (i late origin : Nat) : Output :=
  ⟨origin, [late, origin], fun rd => byteOf (joined j.feather i (rd late).toNat (rd origin).toNat)⟩

def State.joinLuma (s : State) (j : Join) (i : Nat) : List Output :=
  (List.range s.geo.ch).filterMap fun r => (partnerRow s.geo j.ry r).map fun q =>
    j.output i (s.geo.canvasLuma (j.ce + i) q) (s.geo.canvasLuma i r)

/-- The chroma pairs that take their weight from column `i` (R150): the greater column of the group, or the only
one written. The pair of a group with two written columns is written in the step of the greater, so an ABORT between the
two leaves it unjoined: the model's choice (log 17). -/
def State.joinChroma (s : State) (j : Join) (i : Nat) : List Output :=
  if i % 2 = 0 ∧ i + 1 < j.feather ∧ s.joinWrites j (i + 1) = true then []
  else
    ((List.range (s.geo.ch / 2)).filterMap fun k => (partnerRow s.geo j.ry (2 * k)).map fun q =>
      [0, 1].map fun part =>
        j.output i (s.geo.canvasChroma (j.ce + i) q part) (s.geo.canvasChroma i (2 * k) part)).flatten

/-- Everything the step of join column `i` writes (R149, R150). -/
def State.joinOutputs (s : State) (j : Join) (i : Nat) : List Output :=
  if s.joinWrites j i then s.joinLuma j i ++ s.joinChroma j i else []

/-- A granted burst of the join column: a read or a write of up to 64 bytes (R10). -/
def State.burstJoin (s : State) (j : Join) : State :=
  { s with
    mem := s.mem.writeAll (j.move.cells (s.joinOutputs j j.next))
    bu := { s.bu with join := some { j with move := s.advance j.move (s.joinOutputs j j.next) } } }

/-- The join goes on with its next column. After its last the closure record becomes JOINED, but not where ABORT stops
the join: then the join only ends (R151). -/
def State.joinAdvance (s : State) (j : Join) : State :=
  if j.next + 1 < j.feather then
    { s with bu := { s.bu with join := some { j with next := j.next + 1, move := .start } } }
  else
    let t := { s with bu := { s.bu with join := none } }
    if s.stopping then t else t.setClosureState .joined

/-- JOIN_COLUMN (R149): the column has been taken, once its bursts have been granted. ABORT stops the join at the boundary
before it, and a column begun is completed (R151). -/
def execJoinColumn (s : State) : Host.Outcome State Fault Refusal :=
  .next (match s.bu.join with
    | some j =>
      if s.stopping && decide (j.move = .start) then s
      else if j.move.done (s.joinOutputs j j.next) then s.joinAdvance j
      else s
    | none => s)

/-! ### The end of closing (R117, R134) -/

/-- Every OPEN block becomes COMMITTED, the window empties, the sweep becomes FINISHED and FINISHED is raised. -/
def State.finishClosing (s : State) : State :=
  let s := s.commitBlocks fun _ _ => true
  ({ s with pw := [], sc := { s.sc with sweep := .finished } }).raise .finished

/-- COMMIT_ALL_OPEN_BLOCKS (R117): after the join where one is due (R134). -/
def execCommitAllOpenBlocks (s : State) : Host.Outcome State Fault Refusal :=
  .next (if s.closingReady && !decide (s.sc.closure.state = .detected) then s.finishClosing else s)

/-! ### ABORT's clear step (R136, R54, R102, R118) -/

/-- What ABORT and RELEASE do to the engines and SC: table cleared, coverage BLANK, line −32, no reference, motion
and hint empty, mode LOCKED, progress 0, closure NONE, PACE deasserted, the sweep IDLE (R135, R136). -/
def State.toIdle (s : State) : State :=
  let s := { s with ltc := s.ltc.clear, pw := [] }
  let s := s.clearBlender.clearMatcher
  { s with sc := { s.sc with sweep := .idle, progress := 0, closure := Closure.empty, pace := false } }

/-- ABORT_CLEAR_STEP (R136): once both passes have stopped. -/
def execAbortClearStep (s : State) : Host.Outcome State Fault Refusal :=
  .next (if s.aborting && s.bothStopped then ((s.abandonBanks.toIdle).raise .aborted).answer [] else s)

end Sys2Proof.Machine
end

