-- ==== Sys2Proof/Machine/Context.lean ====
section
/-! DEFINITION. The Context Mover (Chapter 10): the checkpoint image, saving, verifying and applying. -/

namespace Sys2Proof.Machine

/-! ### The image's fields, in order, as numbers: what the check of R176 is formed over -/

def Mark.numbers (m : Mark) : List Int := [m.value, m.action.code, m.armed.toNat]

def Rejection.numbers (r : Rejection) : List Int := [r.serial.toNat, r.ce, r.ry, r.votes, r.reason.code]

def Closure.numbers (c : Closure) : List Int :=
  [(c.state.code : Int), c.ce, c.ry, c.votes, c.serial.toNat, c.rejections] ++
    match c.last with
    | some r => 1 :: r.numbers
    | none => [0]

def Motion.numbers (m : Motion) : List Int := [m.serial.toNat, m.x, m.y]

def ImageLandmark.numbers (l : ImageLandmark) : List Int :=
  [l.pinned.toNat, l.origin.toNat, l.x, l.y, l.descriptor.toNat, l.strength, l.hits, l.misses, l.firstSeen.toNat,
    l.lastSeen.toNat, l.bin, l.place]

def UsedPart.numbers (u : UsedPart) : List Int :=
  [u.x, u.y] ++ match u.fixed with
    | some f => [1, f.seam, f.feather, f.gain]
    | none => [0]

def Placement.numbers (r : Placement) : List Int :=
  [(r.serial.toNat : Int), r.state.code, r.how.code, r.x, r.y, r.inliers, r.stale, r.step, r.overlap, r.clipped.toNat,
    r.gap.toNat, r.featherClamped.toNat] ++ match r.used with
    | some u => 1 :: u.numbers
    | none => [0]

def Coverage.numbers : Coverage → List Int
  | .blank => [0]
  | .opened o => [1, o.toNat]
  | .committed => [2]

def Geometry.numbers (g : Geometry) : List Int :=
  [g.cw, g.ch, g.fw, g.fh, match g.direction with | .east => 0 | .west => 1, g.startCol, g.startRow]

/-- An item of a validity map: whether it is present, and its fields if it is (R176). -/
def presentNumbers {α : Type} (f : α → List Int) : Option α → List Int
  | some a => 1 :: f a
  | none => [0]

/-- Every field of an image but its check (R176). -/
def Image.numbers (m : Image) : List Int :=
  (m.format : Int) :: m.geo.numbers ++
    [(m.progress : Int), m.mode.code, m.predicted, m.flags.toNat, m.masks.toNat] ++ m.mark0.numbers ++
    m.mark1.numbers ++ m.closure.numbers ++ [m.commitLine, m.motion.length] ++ m.motion.flatMap Motion.numbers ++
    m.landmarks.flatMap (presentNumbers ImageLandmark.numbers) ++
    m.window.flatMap (presentNumbers Placement.numbers) ++ m.coverage.flatMap Coverage.numbers ++ [(m.reserved : Int)]

/-! ### Saving (R172 to R176) -/

/-- A landmark as the image holds it: no state, generation or pass mark, but its place in its list (R176). -/
def Table.imageOf (t : Table) (i : Nat) : Option ImageLandmark :=
  (t.lm i).map fun r =>
    ⟨r.pinned, r.origin, r.x, r.y, r.descriptor, r.strength, r.hits, r.misses, r.firstSeen, r.lastSeen, r.bin,
      (t.bin r.bin).findIdx fun k => decide (k = i)⟩

/-- The image of the state, its check still open (R176). -/
def State.imageBody (s : State) : Image where
  format := Config.formatNumber
  geo := s.geo
  progress := s.sc.progress
  mode := s.me.mode
  predicted := s.me.predicted
  flags := s.sc.flags
  masks := s.sc.masks
  mark0 := s.sc.mark0
  mark1 := s.sc.mark1
  closure := s.sc.closure
  commitLine := s.bu.commitLine
  motion := s.me.motion
  landmarks := (List.range 256).map s.ltc.imageOf
  window := (List.range 8).map fun d => s.pw[d]?.map fun r => { r with owned := 0 }
  coverage := s.bu.coverage
  reserved := 0
  crc := 0#32

/-- The image a save writes, with its check (R174, R176). -/
def State.image (s : State) : Image := { s.imageBody with crc := Config.imageCrc s.imageBody.numbers }

/-- The pass has an update batch open that is not parked (R173). A batch whose last claim is answered counts as open until
its stale-count claim is taken: the model's choice (log 39). -/
def State.batchOpen (s : State) : Bool :=
  s.me.pass.any fun p =>
    match p.stage with
    | .batch _ | .report => true
    | .lookup _ _ | .solve | .judge | .judgeHeld | .push _ | .pushHeld | .footprint | .opening | .parked
    | .fenced => false

/-- The quiet point (R173): no record PLACED or BLENDING, no update batch open but one whose claims are left for after
the save. -/
def State.quietPoint (s : State) : Bool := (s.pw.all fun r => decide (r.state = .blended)) && !s.batchOpen

/-- The copy phase begins (R174): the image is captured and written into the slot, and the save serial noted. -/
def State.beginCopy (s : State) (k : SlotId) : State :=
  { s with cx := { s.cx.setSlot k ⟨.saving, none, some s.image⟩ with op := .copy k s.pi.serial, moved := 0 } }

/-- A save begins (R172): the slot SAVING with no save serial, its 8 KiB as they were, and the quiet wait. -/
def State.beginWait (s : State) (k : SlotId) : State :=
  { s with cx := { s.cx.setSlot k ⟨.saving, none, (s.cx.slot k).image⟩ with op := .quiet k } }

/-- An accepted save: where the quiet point already holds, the copy phase begins at once (R173). -/
def State.beginSave (s : State) (k : SlotId) : State := if s.quietPoint then s.beginCopy k else s.beginWait k

/-- COPY_PHASE (R174): a save in its quiet wait that has reached the quiet point begins its copy phase. -/
def execCopyPhase (s : State) : Host.Outcome State Fault Refusal :=
  .next (match s.cx.op with
    | .quiet k => if s.quietPoint then s.beginCopy k else s
    | .none | .copy _ _ | .verify _ | .apply _ => s)

/-- Granted bursts have moved the whole image in the copy or verify in progress (R174, R178). -/
def State.imageMoved (s : State) : Bool := decide (imageBytes ≤ s.cx.moved)

/-- CX has a burst waiting while a copy or verify has bytes of the image left to move (R174, R178, log 11). -/
def State.contextWaits (s : State) : Bool :=
  match s.cx.op with
  | .copy _ _ => !s.imageMoved
  | .verify k => decide ((s.cx.slot k).state = .valid) && !s.imageMoved
  | .none | .quiet _ | .apply _ => false

/-- The fence on an accepted parked claim is lifted: the claim is taken next (R37, R49). -/
def Pass.unfenced (p : Pass) : Pass := if p.stage = .fenced then { p with stage := .batch true } else p

/-- The slot becomes VALID with its save serial, the operation NONE, the fences lift, CHECKPOINT_DONE (R174). -/
def State.completeSave (s : State) (k : SlotId) (v : Serial) : State :=
  ({ s with
    cx := { s.cx.setSlot k ⟨.valid, some v, (s.cx.slot k).image⟩ with op := .none }
    me := { s.me with pass := s.me.pass.map Pass.unfenced } }).raise .checkpointDone

/-- SAVE_COMPLETE (R174): a copy phase completes, once its bursts have written the image. -/
def execSaveComplete (s : State) : Host.Outcome State Fault Refusal :=
  .next (match s.cx.op with
    | .copy k v => if s.contextWaits then s else s.completeSave k v
    | .none | .quiet _ | .verify _ | .apply _ => s)

/-! ### The verify (R178) -/

def inRange (lo hi v : Int) : Bool := decide (lo ≤ v ∧ v ≤ hi)

/-- A landmark's fields lie in their ranges (R33). -/
def ImageLandmark.inRanges (l : ImageLandmark) (g : Geometry) : Bool :=
  inRange (-2147483648) 2147483647 l.x && inRange 0 (4 * g.ch - 1) l.y && inRange 0 65535 l.strength &&
    inRange 1 255 l.hits && inRange 0 15 l.misses && decide (l.bin < g.nBins ∧ l.place < 8)

/-- A window record is BLENDED with a complete used part, and its fields lie in their ranges (R88, R178). -/
def Placement.savedOk (r : Placement) (g : Geometry) : Bool :=
  decide (r.state = .blended) && inRange 0 96 r.inliers && inRange 0 256 r.stale &&
    match r.used with
    | some u => inRange 0 (g.ch - 1) u.y &&
      match u.fixed with
      | some f => ([0, 8, 16, 32, 64].contains f.feather) && inRange 32 128 f.gain
      | none => false
    | none => false

/-- The last rejection's votes: a rejected cluster had at least CLOSE_MIN, so 6, and at most 96 (R144, R145). -/
def Rejection.inRanges (r : Rejection) : Bool := inRange 6 96 r.votes

/-- The closure record's fields lie in their ranges (R144): measures 0 while NONE; otherwise Ce from FW to CW − 64, and
r_y and votes within the widest CLOSE_VTOL and CLOSE_MIN a host can have set (log 35). -/
def Closure.inRanges (c : Closure) (g : Geometry) : Bool :=
  inRange 0 255 c.rejections && c.last.all Rejection.inRanges &&
    match c.state with
    | .none => decide (c.ce = 0 ∧ c.ry = 0 ∧ c.votes = 0 ∧ c.serial = 0#16)
    | .detected | .joined => inRange g.fw (g.cw - 64) c.ce && inRange (-64) 64 c.ry && inRange 6 96 c.votes

/-- Each bin is named by at most 8 entries whose places are 0 up to their number less one, none repeated (R178). -/
def Image.binsOk (m : Image) : Bool :=
  (List.range m.geo.nBins).all fun j =>
    let places := (m.landmarks.filterMap id).filterMap fun l => if l.bin = j then some l.place else none
    decide (places.length ≤ 8) && (List.range places.length).all fun n => places.count n == 1

/-- The records of the image's window, newest first. -/
def Image.records (m : Image) : List Placement := m.window.filterMap id

/-- The valid depths run from 0 without a gap and number 1 to 8, with no serial repeated (R178). -/
def Image.windowOk (m : Image) : Bool :=
  decide (m.window.length = 8) && ((m.window.takeWhile Option.isSome).length == m.records.length) &&
    inRange 1 8 m.records.length && decide ((m.records.map (·.serial)).Nodup) &&
    m.records.all fun r => r.savedOk m.geo

/-- Every OPEN coverage entry names a record of the image's window (R178). -/
def Image.coverageOk (m : Image) : Bool :=
  decide (m.coverage.length = m.geo.nBlocks) && m.coverage.all fun c =>
    match c.owner with
    | some o => m.records.any fun r => decide (r.serial = o)
    | none => true

/-- The sweep record's fields lie in their ranges (R178). -/
def Image.sweepOk (m : Image) : Bool :=
  inRange 0 65535 m.progress && inRange 0 7 m.predicted && inRange 0 65535 m.mark0.value &&
    inRange 0 65535 m.mark1.value && inRange (-32) 16383 m.commitLine && inRange 0 2 m.motion.length &&
    m.closure.inRanges m.geo

/-- The landmarks: their map, their ranges, and at most 32 pinned and 48 origin entries (R178). -/
def Image.landmarksOk (m : Image) : Bool :=
  decide (m.landmarks.length = 256) && ((m.landmarks.filterMap id).all fun l => l.inRanges m.geo) &&
    decide ((m.landmarks.filterMap id).countP (·.pinned) ≤ 32) &&
    decide ((m.landmarks.filterMap id).countP (·.origin) ≤ 48)

/-- The image passes every check of R178 against the current configuration and sweep. -/
def Image.passes (m : Image) (g : Geometry) : Bool :=
  decide (m.crc = Config.imageCrc m.numbers) && decide (m.format = Config.formatNumber) && decide (m.reserved = 0) &&
    decide (m.geo = g) && m.sweepOk && m.landmarksOk && m.binsOk && m.windowOk && m.coverageOk

/-- The image of a VALID slot. -/
def Slot.validImage (k : Slot) : Option Image := if k.state = .valid then k.image else none

/-- A rollback can be applied only in SWEEPING or HELD (R178). -/
def SweepState.canRollBack : SweepState → Bool
  | .sweeping | .held _ => true
  | .idle | .armed | .closing | .finished => false

/-- The verify ends without an apply (R178): what waited for it is taken (R140, R142). -/
def State.verifyFails (s : State) (k : SlotId) (r : RollbackResult) : State := (s.endRollback k r).takeWaitingFinish

/-- VERIFY_END (R178): once CX has read the image of a VALID slot; a passing image begins the apply, whose stop meets the
match pass in the same step (R179). -/
def execVerifyEnd (s : State) : Host.Outcome State Fault Refusal :=
  .next (match s.cx.op with
    | .verify k =>
      if s.contextWaits then s
      else
        match (s.cx.slot k).validImage with
        | some m =>
          if m.passes s.geo then
            if s.sc.sweep.canRollBack then (s.setOp (.apply k)).stopPass else s.verifyFails k .cancelled
          else s.verifyFails k .badImage
        | none => s.verifyFails k .slotEmpty
    | .none | .quiet _ | .copy _ _ | .apply _ => s)

/-! ### The replace step (R179, R180) -/

/-- A restored landmark's state; `none` where it is not restored (R180). -/
def ImageLandmark.restoredState (l : ImageLandmark) (anchorHits missLimit : Nat) : Option LandmarkState :=
  if 2 ≤ l.hits ∧ missLimit ≤ l.misses then some .fading
  else if anchorHits ≤ l.hits then some .anchored
  else if 2 ≤ l.hits then some .tracked
  else if l.hits = 1 ∧ missLimit ≤ l.misses then (if l.pinned ∨ l.origin then some .fading else none)
  else some .tentative

/-- The record an image's landmark becomes (R180). -/
def ImageLandmark.restore (l : ImageLandmark) (prm : Params) : Option Landmark :=
  (l.restoredState prm.anchorHits prm.missLimit).map fun st =>
    ⟨st, l.pinned, l.origin, l.x, l.y, l.descriptor, l.strength, l.hits, l.misses, l.firstSeen, l.lastSeen, l.bin,
      false⟩

/-- The record restored into entry `i`. -/
def Image.restored (m : Image) (prm : Params) (i : Nat) : Option Landmark :=
  (m.landmarks[i]?.getD none).bind fun l => l.restore prm

/-- Bin `j`'s list: its entries by list place, without those not restored (R180). -/
def Image.binList (m : Image) (prm : Params) (j : Nat) : List Nat :=
  ((List.range 8).filterMap fun place =>
    m.landmarks.findIdx? fun l => l.any fun l => l.bin == j && l.place == place).filter fun i =>
      (m.restored prm i).isSome

/-- The Landmark Table after the replace (R37, R180). -/
def Table.replaced (t : Table) (m : Image) (prm : Params) (nBins : Nat) : Table :=
  let entries := t.entries.mapIdx fun i e => (⟨e.gen + 1#4, m.restored prm i⟩ : Entry)
  { entries := entries
    bins := (List.range nBins).map (m.binList prm)
    live := entries.countP fun e => e.lm.isSome
    pinned := entries.countP fun e => e.lm.any (·.pinned)
    origin := entries.countP fun e => e.lm.any (·.origin)
    regionClaims := t.regionClaims }

/-- The blend reference a window's depth 0 gives (R106). -/
def referenceOf (g : Geometry) : List Placement → Option BlendRef
  | [] => none
  | r :: _ => r.used.map fun u =>
      ⟨g.d * u.x, (g.usedRows (roundDiv r.y 4)).1, (g.usedRows (roundDiv r.y 4)).2⟩

/-- The Blend Unit after the replace (R103, R106, R118). -/
def Image.blender (m : Image) (g : Geometry) : Blender := ⟨m.coverage, m.commitLine, referenceOf g m.records, none, none⟩

/-- The window after the replace, with owned block counts from the restored coverage (R103). -/
def Image.placements (m : Image) : List Placement := m.records.map fun r => { r with owned := ownedIn m.coverage r.serial }

/-- The replace step (R179): banks, table, window and coverage, sweep record, hint and state, completion. -/
def State.replaceWith (s : State) (k : SlotId) (m : Image) : State :=
  let s := s.abandonBanks
  let s := { s with
    ltc := s.ltc.replaced m s.prm s.geo.nBins
    pw := m.placements
    bu := m.blender s.geo
    me := ⟨m.motion, none, m.mode, m.predicted, none⟩
    sc := { s.sc with
      sweep := .sweeping
      progress := m.progress
      flags := m.flags
      masks := m.masks
      mark0 := m.mark0
      mark1 := m.mark1
      closure := m.closure } }
  (s.endRollback k .ok).dropWaitingFinish

/-- ROLLBACK_REPLACE (R179): once both passes have stopped. -/
def execRollbackReplace (s : State) : Host.Outcome State Fault Refusal :=
  .next (match s.cx.op with
    | .apply k =>
      match (s.cx.slot k).image with
      | some m => if s.bothStopped then s.replaceWith k m else s
      | none => s
    | .none | .quiet _ | .copy _ _ | .verify _ => s)

end Sys2Proof.Machine
end

