-- ==== Sys2Proof/Machine/Corner.lean ====
section
/-! DEFINITION. The guide image and the Corner Finder (R28 to R32). All positions count from the trailing side of the guide
image, so that one text serves EAST and WEST (R28, R29, R31). -/

namespace Sys2Proof.Machine

/-- The luma sums of a line's groups of four samples, one per guide column in delivery order; samples a short
line did not deliver count as 0 (R28). -/
def lineSums (width : Nat) (luma : List Byte) : List Nat :=
  (List.range width).map fun gx =>
    ((List.range 4).map fun i => (luma.getD (4 * gx + i) 0#8).toNat).sum

/-- A guide row: the means of 16 samples, halves going up (R28). -/
def guideRow (sums : List Nat) : List Byte := sums.map fun n => BitVec.ofNat 8 ((n + 8) / 16)

namespace Geometry

def guideWidth (g : Geometry) : Nat := g.fw / 4

def guideHeight (g : Geometry) : Nat := g.fh / 4

/-- The guide pixel at trailing-side column `t` and row `gy` (R28). -/
def guideAt (g : Geometry) (img : List (List Byte)) (t gy : Nat) : Int :=
  let gx := match g.direction with
    | .east => t
    | .west => g.guideWidth - 1 - t
  (((img.getD gy []).getD gx 0#8).toNat : Int)

/-- Central differences, trailing to leading and top to bottom (R29). -/
def gradX (g : Geometry) (img : List (List Byte)) (t gy : Nat) : Int :=
  g.guideAt img (t + 1) gy - g.guideAt img (t - 1) gy

def gradY (g : Geometry) (img : List (List Byte)) (t gy : Nat) : Int :=
  g.guideAt img t (gy + 1) - g.guideAt img t (gy - 1)

/-- The nine pixels centred on one, in raster order. -/
def around (t gy : Nat) : List (Nat × Nat) :=
  [(t - 1, gy - 1), (t, gy - 1), (t + 1, gy - 1), (t - 1, gy), (t, gy), (t + 1, gy), (t - 1, gy + 1), (t, gy + 1),
    (t + 1, gy + 1)]

/-- The corner strength of a pixel at least 2 from each edge (R29). -/
def strength (g : Geometry) (img : List (List Byte)) (t gy : Nat) : Nat :=
  let px := around t gy
  let sum := fun (f : Nat × Nat → Int) => (px.map f).sum
  let sxx := sum fun c => g.gradX img c.1 c.2 * g.gradX img c.1 c.2
  let syy := sum fun c => g.gradY img c.1 c.2 * g.gradY img c.1 c.2
  let sxy := sum fun c => g.gradX img c.1 c.2 * g.gradY img c.1 c.2
  (clampInt 0 65535 ((sxx * syy - sxy * sxy) / (sxx + syy + 1))).toNat

/-- At least 8 pixels from each edge (R29). -/
def eligible (g : Geometry) (t gy : Nat) : Bool :=
  8 ≤ t && t + 9 ≤ g.guideWidth && 8 ≤ gy && gy + 9 ≤ g.guideHeight

/-- A corner (R30): strong enough, at least every neighbour, and above each neighbour earlier in raster order. -/
def isCorner (g : Geometry) (img : List (List Byte)) (cornerMin t gy : Nat) : Bool :=
  let v := g.strength img t gy
  cornerMin ≤ v &&
    ((around t gy).take 4).all (fun c => g.strength img c.1 c.2 < v) &&
    ((around t gy).drop 5).all (fun c => g.strength img c.1 c.2 ≤ v)

def cellRow (g : Geometry) (gy : Nat) : Nat := 6 * gy / g.guideHeight

def cellCol (g : Geometry) (t : Nat) : Nat := t / (g.fw / 32)

/-- The 64-bit descriptor (R31). -/
def descriptor (g : Geometry) (img : List (List Byte)) (t gy : Nat) : BitVec 64 :=
  let mean := (2 * ((around t gy).map fun c => g.guideAt img c.1 c.2).sum + 9) / 18
  BitVec.ofNat 64 (((List.range 64).map fun n =>
    if mean < g.guideAt img (t - 7 + 2 * (n % 8)) (gy - 7 + 2 * (n / 8)) then 2 ^ n else 0).sum)

/-- A corner's place in a list ordered by strength, after those at least as strong. -/
def insertStronger (c : Candidate) : List Candidate → List Candidate
  | [] => [c]
  | k :: rest => if k.strength < c.strength then c :: k :: rest else k :: insertStronger c rest

/-- The candidates of one guide cell: its two strongest corners, earlier in raster order among equals (R30,
R32). -/
def cellCandidates (g : Geometry) (img : List (List Byte)) (cornerMin row col : Nat) : List Candidate :=
  let points := ((List.range g.guideHeight).filter fun gy => g.cellRow gy == row).flatMap fun gy =>
    (List.range (g.fw / 32)).map fun i => (g.fw / 32 * col + i, gy)
  let corners := points.filter fun c => g.eligible c.1 c.2 && g.isCorner img cornerMin c.1 c.2
  let found := corners.map fun c =>
    (⟨8 * row + col, 16 * c.1 + 6, 16 * c.2 + 6, g.strength img c.1 c.2, g.descriptor img c.1 c.2⟩ : Candidate)
  (found.foldl (fun l c => insertStronger c l) []).take 2

/-- The candidates of one row of guide cells, in cell order. -/
def rowCandidates (g : Geometry) (img : List (List Byte)) (cornerMin row : Nat) : List Candidate :=
  (List.range 8).flatMap fun col => g.cellCandidates img cornerMin row col

/-- The last guide row of a row of cells. -/
def lastGuideRow (g : Geometry) (row : Nat) : Nat := ((row + 1) * g.guideHeight - 1) / 6

end Geometry

/-- A guide row is written; a row of cells whose rows and the 8 below it are now written is selected (R32). -/
def Bank.addGuideRow (k : Bank) (g : Geometry) (row : List Byte) : Bank :=
  let img := k.guide ++ [row]
  if k.cellRows < 6 ∧ g.lastGuideRow k.cellRows + 9 ≤ img.length then
    { k with
      guide := img
      cands := k.cands ++ g.rowCandidates img k.cornerMin k.cellRows
      cellRows := k.cellRows + 1 }
  else { k with guide := img }

/-- The line feeds the guide image: its fourth frame line completes a guide row (R28). -/
def Bank.feedGuide (k : Bank) (g : Geometry) (r : Nat) (luma : List Byte) : Bank :=
  let sums := lineSums g.guideWidth luma
  let total := if r % 4 = 0 then sums else List.zipWith (· + ·) k.sums sums
  if r % 4 = 3 then ({ k with sums := [] }).addGuideRow g (guideRow total) else { k with sums := total }

/-- At frame-end every cell not yet done is completed (R32). -/
def Bank.completeCandidates (k : Bank) (g : Geometry) : Bank :=
  { k with
    cands := k.cands ++ (List.range' k.cellRows (6 - k.cellRows)).flatMap fun row =>
      g.rowCandidates k.guide k.cornerMin row
    cellRows := 6 }

end Sys2Proof.Machine
end

