-- ==== Sys2Proof/Machine/Intake.lean ====
section
/-! DEFINITION. Frame intake (Chapter 2): FRAME_START, LINE and FRAME_END. -/

namespace Sys2Proof.Machine

/-! ### The line buffer (R15, R19) -/

/-- Bytes of a full segment: one burst (R10, log 7). -/
def segmentBytes : Nat := 64

/-- The waiting line segment is written into its bank (R15, R19). -/
def State.writeSegment (s : State) : State :=
  { s.writeMem s.pi.waiting with pi := { s.pi with waiting := [] } }

/-- Bytes enter the line buffer (R15): each segment that fills becomes waiting, and the one that waited before it has
had its grant by then. The first component is what those grants have written. -/
def Intake.fill (k : Intake) (cells : List Host.Cell) : List Host.Cell × Intake :=
  let bytes := k.filling ++ cells
  let full := bytes.length / segmentBytes
  if full = 0 then ([], { k with filling := bytes })
  else
    (k.waiting ++ bytes.take (segmentBytes * (full - 1)),
      { k with
        waiting := (bytes.drop (segmentBytes * (full - 1))).take segmentBytes
        filling := bytes.drop (segmentBytes * full) })

/-- PI's grants of this step write the cells; without any no memory is accessed. -/
def State.granted (s : State) (cells : List Host.Cell) (f : State → State) : Host.Outcome State Fault Refusal :=
  if cells.isEmpty then .next (f s) else s.access (f (s.writeMem cells))

/-- The port returns to AWAIT and the line buffer is empty: a segment of a frame no longer FILLING is not written (R16,
R24). -/
def State.leaveStore (s : State) : State := { s with pi := { s.pi with port := none, waiting := [], filling := [] } }

def State.setPort (s : State) (b : Option BankId) : State := { s with pi := { s.pi with port := b } }

/-- A counted frame-start takes the next serial and increments *started* (R18, R25, R26). -/
def State.countFrame (s : State) : State :=
  { s with
    pi := { s.pi with serial := s.pi.serial + 1#16 }
    sc := { s.sc with started := s.sc.started + 1#32 } }

/-- A frame dropped at its start takes its outcome at once (R18). -/
def State.dropAtStart (s : State) (o : FrameOutcome) : State :=
  (s.recordOutcome (LastFrame.ofIntake s.pi.serial o)).clearHint s.pi.serial

/-- The bank taken at a frame start (R18). -/
def Bank.taken (v : Serial) (cornerMin : Nat) : Bank := ⟨.filling, some v, 0, false, .none, cornerMin, [], [], [], 0⟩

/-- The lowest-numbered FREE bank becomes FILLING and the port enters STORE; with none the frame is
DROPPED_BUSY (R18). -/
def State.takeBank (s : State) : State :=
  match bankIds.find? fun b => decide ((s.bank b).state = .free) with
  | some b => (s.setBank b (Bank.taken s.pi.serial s.prm.cornerMin)).setPort (some b)
  | none => s.dropAtStart .droppedBusy

/-- A frame-start taken with the port in AWAIT (R18). -/
def State.frameStart (s : State) : State :=
  match s.sc.sweep with
  | .idle | .finished => s
  | .armed | .sweeping => let s := s.countFrame.takeBank; s.openGap s.pi.serial
  | .held _ => let s := s.countFrame.dropAtStart .droppedHeld; s.openGap s.pi.serial
  | .closing => s.countFrame.dropAtStart .droppedClosing

/-- A frame being stored that lost its frame-end is closed as DAMAGED (R21). -/
def State.closeUnended (s : State) : State :=
  match s.pi.port with
  | some b => (s.settleIntake b .damaged).leaveStore
  | none => s

/-- FRAME_START (R18, R21). -/
def execFrameStart (s : State) : Host.Outcome State Fault Refusal := .next s.closeUnended.frameStart

/-- What a line writes into its bank (R19): luma below FW, chroma pairs below FW/2 on even lines, nothing from
line FH on. -/
def Geometry.lineCells (g : Geometry) (base r : Nat) (luma : List Byte) (chroma : List (Byte × Byte)) :
    List Host.Cell :=
  if r < g.fh then
    cellsAt (g.frameLuma base 0 r) (luma.take g.fw) ++
      if r % 2 = 0 then
        cellsAt (g.frameChroma base 0 r) ((chroma.take (g.fw / 2)).flatMap fun c => [c.1, c.2])
      else []
  else []

/-- The line's damage test (R19). -/
def Geometry.lineDamaged (g : Geometry) (r : Nat) (luma : List Byte) (chroma : List (Byte × Byte)) : Bool :=
  luma.length != g.fw || (if r % 2 = 0 then chroma.length != g.fw / 2 else !chroma.isEmpty)

/-- The bank's record after a line (R19, R28). -/
def Bank.addLine (k : Bank) (g : Geometry) (luma : List Byte) (chroma : List (Byte × Byte)) : Bank :=
  let k' := { k with
    lineCount := min 65535 (k.lineCount + 1)
    damaged := k.damaged || g.lineDamaged k.lineCount luma chroma }
  if k.lineCount < g.fh then k'.feedGuide g k.lineCount luma else k'

/-- The line buffer after a line of the bank in STORE, and what PI's grants wrote meanwhile (R15, R19). -/
def State.lineFill (s : State) (b : BankId) (luma : List Byte) (chroma : List (Byte × Byte)) :
    List Host.Cell × Intake :=
  s.pi.fill (s.geo.lineCells (s.bankBase b) (s.bank b).lineCount luma chroma)

/-- LINE (R19): in AWAIT ignored (R17). -/
def execLine (luma : List Byte) (chroma : List (Byte × Byte)) (s : State) : Host.Outcome State Fault Refusal :=
  match s.pi.port with
  | some b =>
    s.granted (s.lineFill b luma chroma).1 fun t =>
      ({ t with pi := (s.lineFill b luma chroma).2 }).setBank b ((s.bank b).addLine s.geo luma chroma)
  | none => .next s

/-- A good frame's bank becomes QUEUED with its final list and joins the queue's tail (R20, R32). -/
def State.queueBank (s : State) (b : BankId) : State :=
  let s := s.setBank b { (s.bank b).completeCandidates s.geo with state := .queued }
  { s with pi := { s.pi with queue := s.pi.queue ++ [b] } }

/-- The frame's fate at its frame-end (R20). -/
def State.closeFrame (s : State) (b : BankId) : State :=
  if (s.bank b).lineCount ≠ s.geo.fh ∨ (s.bank b).damaged then s.settleIntake b .damaged
  else
    match (s.bank b).drop with
    | .held => s.settleIntake b .droppedHeld
    | .closing => s.settleIntake b .droppedClosing
    | .none => if (s.bank b).state = .filling then s.queueBank b else s

/-- FRAME_END (R20): the last partial segment becomes waiting (R15) and PI's grants write what is buffered while the bank
is still FILLING (R24, log 7). In AWAIT ignored (R17). -/
def execFrameEnd (s : State) : Host.Outcome State Fault Refusal :=
  match s.pi.port with
  | some b => s.granted (s.pi.waiting ++ s.pi.filling) fun s => (s.closeFrame b).leaveStore
  | none => .next s

end Sys2Proof.Machine
end

