-- ==== Sys2Proof/Machine/Arbiter.lean ====
section
/-! DEFINITION. The Memory Arbiter's service slots (R10 to R16): refresh, PI's segments, DR's word reads, and the ring. -/

namespace Sys2Proof.Machine

/-- REFRESH_DUE (R14): the timer runs from the end of die sensing. -/
def execRefreshDue (s : State) : Host.Outcome State Fault Refusal :=
  .next (if s.ma.sensing.isSome then s else { s with ma := { s.ma with refreshDue := true } })

/-- A due refresh is served in one grant (R14). -/
def State.serveRefresh (s : State) : State := { s with ma := { s.ma with refreshDue := false } }

/-- A word read of DR is waiting (R164): a gap is in progress and no read word stands unapplied. -/
def State.readerWaits (s : State) : Bool := s.dr.gap.any fun g => g.word.isNone

/-- DR's word read (R160, R164, R166): the word at the read pointer, whole, with CW/64 as it stands. -/
def State.readWord (s : State) : State :=
  let w := wordOfBytes (s.mem.bytes (s.directiveBase + 4 * s.dr.readPtr) 4)
  { s with dr := { s.dr with gap := s.dr.gap.map fun g => { g with word := some ⟨w, s.geo.nBins⟩ } } }

/-- The join has bytes of its column left to move; a stop between two columns withdraws the burst, while a column begun
goes on (R16, R151). -/
def State.joinWaits (s : State) (j : Join) : Bool :=
  (decide (j.move ≠ .start) || !s.stopping) && !j.move.done (s.joinOutputs j j.next)

/-- The pass has samples left to read or bytes of its block left to move; a stop at a block boundary withdraws the burst,
while a pass that measures and a block begun go on to their boundary (R16, R107, R118). -/
def State.passWaits (s : State) (b : BlendPass) : Bool :=
  match b.stage with
  | .measuring read => (s.record b.serial).any fun r => decide (read.length < (s.sampleAddrs b r).length)
  | .writing (a :: _) => !s.stopping && !s.passesBlock b a && !Transfer.start.done (s.blockOutputs b a)
  | .inBlock a _ t => !t.done (s.blockOutputs b a)
  | .writing [] | .ending _ _ => false

/-- BU has a burst waiting: for the join in progress, or else for the pass (R107, R149, log 8). -/
def State.blendWaits (s : State) : Bool :=
  match s.bu.join with
  | some j => s.joinWaits j
  | none => s.bu.pass.any s.passWaits

/-- EU has a burst waiting while its line has canvas bytes left to read: while the job runs, and in STOPPING for the line
in progress (R16, R156, R158, log 8). -/
def State.exportWaits (s : State) : Bool :=
  match s.eu.state with
  | .idle => false
  | .running => !s.lineRead
  | .stopping => s.eu.lineBegun && !s.lineRead

/-- A ring member has a burst waiting (R12). -/
def State.ringWaits (s : State) : Ring → Bool
  | .bu => s.blendWaits
  | .eu => s.exportWaits
  | .cx => s.contextWaits
  | .link =>
    match s.li.processing with
    | some (.linkWrite _ _) | some (.linkRead _ _) => true
    | some (.taken _ _) | some .aborting | none => false

/-- The ring in order after the requester the rotation pointer names (R12). -/
def Ring.after : Ring → List Ring
  | .bu => [.eu, .cx, .link, .bu]
  | .eu => [.cx, .link, .bu, .eu]
  | .cx => [.link, .bu, .eu, .cx]
  | .link => [.bu, .eu, .cx, .link]

/-- LINK's burst (R13): the words are written, or read into the reply, and the reply is formed. -/
def State.linkBurst (s : State) : State :=
  match s.li.processing with
  | some (.linkWrite offset bytes) => (s.writeMem (cellsAt (s.directiveBase + 4 * offset) bytes)).answer []
  | some (.linkRead offset count) => s.answer (s.mem.bytes (s.directiveBase + 4 * offset) (4 * count))
  | some (.taken _ _) | some .aborting | none => s

/-- BU's burst (R10): of the join column, of the samples, or of the block write, which it begins at a boundary. -/
def State.blendBurst (s : State) : State :=
  match s.bu.join, s.bu.pass with
  | some j, _ => s.burstJoin j
  | none, some b =>
    match b.stage with
    | .measuring read => s.burstMeasure b read
    | .writing (a :: rest) => s.burstBlock b a rest .start
    | .inBlock a rest t => s.burstBlock b a rest t
    | .writing [] | .ending _ _ => s
  | none, none => s

/-- CX's burst (R10): the next bytes of the image. -/
def State.contextBurst (s : State) : State := { s with cx := { s.cx with moved := s.cx.moved + burstBytes } }

/-- A grant to a ring member: the pointer names it (R12), and its burst completes within the slot (R10, R13). -/
def State.grantRing (s : State) (r : Ring) : State :=
  let s := { s with ma := { s.ma with rotation := r } }
  match r with
  | .bu => s.blendBurst
  | .eu => s.fetchBurst
  | .cx => s.contextBurst
  | .link => s.linkBurst

/-- The second-slot order (R12). -/
def State.secondSlot (s : State) : Host.Outcome State Fault Refusal :=
  if s.readerWaits then s.access s.readWord
  else
    match s.ma.rotation.after.find? s.ringWaits with
    | some r => s.access (s.grantRing r)
    | none => .next s

/-- FIRST_SLOT (R11): PI, then a due refresh, then the second-slot order. -/
def execFirstSlot (s : State) : Host.Outcome State Fault Refusal :=
  if !s.pi.waiting.isEmpty then s.access s.writeSegment
  else if s.ma.refreshDue then .next s.serveRefresh
  else s.secondSlot

/-- SECOND_SLOT (R12). -/
def execSecondSlot (s : State) : Host.Outcome State Fault Refusal := s.secondSlot

end Sys2Proof.Machine
end

