-- ==== Sys2Proof/Machine/Reset.lean ====
section
/-! DEFINITION. The three kinds of reset (R190, R191) and die sensing (R7). -/

namespace Sys2Proof.Machine

/-- The whole part resets and sensing begins (R190): every item takes its value, canvas memory is undefined, no die
is recorded, every transaction receives PENDING until sensing completes. What stands outside the part is kept: the
level of RESET_N, and a transaction in progress, which from here on is one that received PENDING (log 22, log 25). A
reset that comes while an earlier one is still sensing replaces its cause: RESET_DONE carries that of the latest, which is
the model's choice (log 37). -/
def State.wholeReset (s : State) (cause : ResetCause) (low : Bool) (txn : Option Reply) : State :=
  { State.reset with
    mem := s.mem.lose
    ma := ⟨0#4, .link, false, some cause, low⟩
    li := ⟨Reply.empty, none, txn, 0#14, 0#14, false⟩
    port := s.port
    free := s.free
    pending := s.pending }

/-- POWER_ON (R190). -/
def execPowerOn (s : State) : Host.Outcome State Fault Refusal := .next (s.wholeReset .powerOn s.ma.resetLow none)

/-- RESET_N_ASSERT (R190). -/
def execResetNAssert (s : State) : Host.Outcome State Fault Refusal :=
  .next (s.wholeReset .pin true (s.li.transaction.map fun _ => ⟨.pending, []⟩))

/-- RESET_N_RISES (R190): the reset hold ends. -/
def execResetNRises (s : State) : Host.Outcome State Fault Refusal :=
  .next { s with ma := { s.ma with resetLow := false } }

/-- DIE_SENSING_COMPLETE (R7, R190): the map is recorded and the reply register takes RESET_DONE with its cause. -/
def execDieSensingComplete (dies : BitVec 4) (s : State) : Host.Outcome State Fault Refusal :=
  .next (match s.ma.sensing with
    | some cause =>
      if s.ma.resetLow then s
      else
        ({ s with ma := { s.ma with dies := dies, sensing := none } }).reply ⟨.resetDone, [byteOf cause.code]⟩
    | none => s)

/-- The slot table after the RESET command (R171, R175, R182, R191): a SAVING slot EMPTY, the operation NONE, both images
kept. -/
def Context.afterReset (c : Context) : Context := { c.endSave with op := .none }

/-- The RESET command's reset (R191): kept are canvas memory, the presence map, a due refresh and the slot table; the
reply is RESET_DONE with cause COMMAND. -/
def State.commandReset (s : State) : State :=
  { State.reset with
    mem := s.mem
    ma := ⟨s.ma.dies, .link, s.ma.refreshDue, s.ma.sensing, s.ma.resetLow⟩
    cx := s.cx.afterReset
    li := ⟨⟨.resetDone, [byteOf ResetCause.command.code]⟩, none, s.li.transaction, 0#14, 0#14, false⟩
    port := s.port
    free := s.free
    pending := s.pending }

/-- RESET (R191). -/
def execReset (p : List Byte) (s : State) : Host.Outcome State Fault Refusal :=
  s.command .reset p (fun n => n == 0) fun s => s.commandReset

end Sys2Proof.Machine
end

