-- ==== Sys2Proof/Machine/Link.lean ====
section
/-! DEFINITION. The host link (Chapter 11): transactions, identity, status, events. -/

namespace Sys2Proof.Machine

/-! ### Transactions (R184, R185) -/

/-- LI answers PENDING: a command is being processed, or a reset has not finished (R184, R190). -/
def State.linkBusy (s : State) : Bool := s.li.processing.isSome || s.ma.sensing.isSome

/-- TRANSACTION_START (R184): the outbound part is fixed; a reply read leaves the empty reply. -/
def execTransactionStart (s : State) : Host.Outcome State Fault Refusal :=
  .next (if s.li.transaction.isSome then s
    else if s.linkBusy then { s with li := { s.li with transaction := some ⟨.pending, []⟩ } }
    else { s with li := { s.li with transaction := some s.li.reply, reply := Reply.empty } })

/-- LI looks at the inbound bytes (R184): a length byte above 80, a short transaction, or a complete one (R185). -/
def State.takeInbound (s : State) : List Byte → State
  | code :: len :: rest =>
    if 80 < len.toNat then s.refuse .badLength
    else if rest.length < len.toNat then s
    else
      match linkTake code.toNat (rest.take len.toNat) with
      | .take c p => { s with li := { s.li with processing := some (.taken c p) } }
      | .refuse r => s.refuse r
  | [_] => s
  | [] => s

/-- TRANSACTION_END (R184): a transaction whose outbound status was PENDING takes nothing. -/
def execTransactionEnd (bytes : List Byte) (s : State) : Host.Outcome State Fault Refusal :=
  .next (match s.li.transaction with
    | some out =>
      let s := { s with li := { s.li with transaction := none } }
      if out.status = .pending ∨ s.linkBusy = true then s else s.takeInbound bytes
    | none => s)

/-! ### Identity, status and events (R187 to R189) -/

/-- NOP (R189). -/
def execNop (p : List Byte) (s : State) : Host.Outcome State Fault Refusal :=
  s.command .nop p (fun n => n == 0) fun s => s.answer []

/-- READ IDENTITY's data (11.5). -/
def State.identityData (s : State) : List Byte :=
  leBytes 2 0x412C ++ [byteOf 1, byteOf (presentUnits s.ma.dies), byteOf s.ma.dies.toNat]

/-- READ_IDENTITY (R189). -/
def execReadIdentity (p : List Byte) (s : State) : Host.Outcome State Fault Refusal :=
  s.command .readIdentity p (fun n => n == 0) fun s => s.answer s.identityData

/-- Newest leading u: the leading u of the blend reference (R189). -/
def State.newestLeading (s : State) : List Byte :=
  match s.bu.reference with
  | some r => leSigned 2 (r.t + s.geo.fw)
  | none => [255#8, 255#8]

/-- The last frame record in the status record (11.5). -/
def LastFrame.data (l : LastFrame) : List Byte :=
  leSerial l.serial ++ [byteOf l.outcome.code] ++ leSigned 4 l.x ++ leSigned 4 l.y ++
    [byteOf l.inliers, byteOf l.admitted] ++ leBytes 2 l.stale ++ leSigned 2 l.step

/-- READ STATUS's data (11.5). -/
def State.statusData (s : State) : List Byte :=
  [byteOf s.sc.sweep.code, byteOf s.sc.sweep.causeCode, byteOf s.me.mode.code, s.sc.flags, s.sc.masks] ++
    leBytes 2 s.sc.progress ++ leSigned 2 s.bu.commitLine ++ s.newestLeading ++ [byteOf s.pw.length] ++
    leBytes 2 s.ltc.live ++ [byteOf s.ltc.pinned, byteOf s.ltc.origin] ++
    bankIds.map (fun b => byteOf (s.bank b).state.code) ++
    leBytes 4 s.sc.started.toNat ++ leBytes 4 s.sc.placed.toNat ++ leBytes 4 s.sc.dropped.toNat ++
    leBytes 4 s.sc.setAside.toNat ++ s.sc.last.data ++ [byteOf s.eu.state.code, byteOf s.eu.result.code] ++
    leOrFFFF s.dr.fault ++ [byteOf s.cx.slot0.state.code, byteOf s.cx.slot1.state.code] ++
    [byteOf (s.sc.pace.toNat + 2 * s.sc.cue.toNat)]

/-- READ_STATUS (R189). -/
def execReadStatus (p : List Byte) (s : State) : Host.Outcome State Fault Refusal :=
  s.command .readStatus p (fun n => n == 0) fun s => s.answer s.statusData

/-- READ_EVENTS (R187): the flags are returned and cleared in one step. -/
def execReadEvents (p : List Byte) (s : State) : Host.Outcome State Fault Refusal :=
  s.command .readEvents p (fun n => n == 0) fun s =>
    (s.driveEvents 0#14 s.li.enables).answer (leBytes 2 s.li.events.toNat)

/-- SET_EVENT_ENABLES (R187). -/
def execSetEventEnables (p : List Byte) (s : State) : Host.Outcome State Fault Refusal :=
  s.command .setEventEnables p (fun n => n == 2) fun s =>
    if 16384 ≤ u16At p 0 then s.refuse .badValue
    else (s.driveEvents s.li.events (BitVec.ofNat 14 (u16At p 0))).answer []

end Sys2Proof.Machine
end

