-- ==== Sys2Proof/Machine/Control.lean ====
section
/-! DEFINITION. Host commands of the Sweep Controller (Chapters 1 and 7): configuration, parameters, masks, ARM, FINISH, ABORT,
RESUME, RELEASE, hints, marks and the shutter capture. -/

namespace Sys2Proof.Machine

def isNoBytes (n : Nat) : Bool := n == 0

/-! ### Configuration and parameters (R5, R6, R186) -/

/-- A multiple of `step` from `lo` to `hi`. -/
def steppedIn (lo hi step n : Nat) : Bool := decide (n % step = 0 ∧ lo ≤ n ∧ n ≤ hi)

/-- An accepted CONFIGURE (R6). -/
def State.configure (s : State) (g : Geometry) : State :=
  { s with
    geo := g
    bu := { s.bu with coverage := List.replicate g.nBlocks .blank }
    ltc := { s.ltc with bins := List.replicate g.nBins [] } }

/-- The configuration CONFIGURE names, the sweep's direction and starts as they are (R5). -/
def State.configured (s : State) (p : List Byte) : Geometry :=
  { s.geo with cw := u16At p 0, ch := u16At p 2, fw := u16At p 4, fh := u16At p 6 }

/-- A checkpoint save, rollback verify or rollback apply is in progress. -/
def State.contextBusy (s : State) : Bool := s.cx.op != .none

/-- CONFIGURE's checks and effect (R5). -/
def State.runConfigure (s : State) (p : List Byte) : State :=
  let g := s.configured p
  if s.sc.sweep ≠ .idle then s.refuse .wrongState
  else if s.eu.state ≠ .idle ∨ s.contextBusy = true then s.refuse .busy
  else if !steppedIn 2048 16384 512 g.cw then s.refuse .badValue
  else if !steppedIn 512 2048 64 g.ch then s.refuse .badValue
  else if !steppedIn 512 1024 32 g.fw then s.refuse .badValue
  else if !steppedIn 384 1536 16 g.fh || decide (g.ch < g.fh) then s.refuse .badValue
  else if !s.hasMemory then s.refuse .noMemory
  else if !g.fitsIn (presentBytes s.ma.dies) then s.refuse .noMemory
  else (s.configure g).answer []

/-- CONFIGURE (R5). -/
def execConfigure (p : List Byte) (s : State) : Host.Outcome State Fault Refusal :=
  s.command .configure p (fun n => n == 8) fun s => s.runConfigure p

/-- The parameters in SET PARAMETERS' order (R186). -/
def paramsOf (p : List Byte) : Params where
  matchDist := u16At p 0
  searchRadius := u16At p 2
  minInliers := u16At p 4
  anchorHits := u16At p 6
  missLimit := u16At p 8
  predictLimit := u16At p 10
  minStep := u16At p 12
  reverseTol := u16At p 14
  minOverlap := u16At p 16
  paceLimit := u16At p 18
  feather := u16At p 20
  cornerMin := u16At p 22
  admitMax := u16At p 24
  closeEnable := u16At p 26 == 1
  closeMin := u16At p 28
  closeVtol := u16At p 30

/-- The ranges of the host parameter table (00 Host parameters). -/
def Params.inRanges (q : Params) : Bool :=
  decide (4 ≤ q.matchDist ∧ q.matchDist ≤ 20) && decide (8 ≤ q.searchRadius ∧ q.searchRadius ≤ 64) &&
    decide (4 ≤ q.minInliers ∧ q.minInliers ≤ 16) && decide (3 ≤ q.anchorHits ∧ q.anchorHits ≤ 8) &&
    decide (2 ≤ q.missLimit ∧ q.missLimit ≤ 7) && decide (1 ≤ q.predictLimit ∧ q.predictLimit ≤ 7) &&
    decide (4 ≤ q.minStep ∧ q.minStep ≤ 32) && decide (q.reverseTol ≤ 64) &&
    decide (64 ≤ q.minOverlap ∧ q.minOverlap ≤ 512) && decide (32 ≤ q.paceLimit ∧ q.paceLimit ≤ 1023) &&
    [0, 8, 16, 32, 64].contains q.feather && decide (q.cornerMin ≤ 65535) && decide (q.admitMax ≤ 48) &&
    decide (6 ≤ q.closeMin ∧ q.closeMin ≤ 24) && decide (q.closeVtol ≤ 64)

def SweepState.isHeld : SweepState → Bool
  | .held _ => true
  | .idle | .armed | .sweeping | .closing | .finished => false

/-- SET PARAMETERS' checks and effect (R186). -/
def State.runSetParameters (s : State) (p : List Byte) : State :=
  if s.sc.sweep ≠ .idle ∧ s.sc.sweep.isHeld = false then s.refuse .wrongState
  else if !(paramsOf p).inRanges || decide (1 < u16At p 26) then s.refuse .badValue
  else ({ s with prm := paramsOf p }).answer []

/-- SET_PARAMETERS (R186). -/
def execSetParameters (p : List Byte) (s : State) : Host.Outcome State Fault Refusal :=
  s.command .setParameters p (fun n => n == 32) fun s => s.runSetParameters p

/-- SET_MASKS (R126). -/
def execSetMasks (p : List Byte) (s : State) : Host.Outcome State Fault Refusal :=
  s.command .setMasks p (fun n => n == 1) fun s => (s.setMasks (p.getD 0 0#8)).answer []

/-- CLEAR_CONDITIONS (R127). -/
def execClearConditions (p : List Byte) (s : State) : Host.Outcome State Fault Refusal :=
  s.command .clearConditions p isNoBytes fun s => s.clearFlags.answer []

/-! ### ARM (R122) -/

/-- SC at ARM: flags clear, progress 0, closure NONE, PACE and CUE deasserted, capture record empty, counters 0 and
the last frame record empty (R122, R25, R26, R189); kept are masks, marks and the capture action. -/
def Control.armed (c : Control) : Control :=
  { Control.empty with
    sweep := .armed
    masks := c.masks
    mark0 := c.mark0
    mark1 := c.mark1
    captureFinish := c.captureFinish }

/-- PI at ARM (2.7): the serial counter 0; in IDLE the port is in AWAIT, every bank FREE and the queue empty. -/
def Intake.armed (k : Intake) : Intake :=
  { k with
    port := none, waiting := [], filling := [], serial := 0#16, queue := []
    banks := ⟨k.banks.b0.freed, k.banks.b1.freed, k.banks.b2.freed⟩ }

/-- An accepted ARM (R122); a gap in progress ends first (R170). -/
def State.arm (s : State) (dir : Direction) (col row : Nat) : State :=
  let s := s.closeGap
  let s := { s with geo := { s.geo with direction := dir, startCol := col, startRow := row } }
  let s := s.clearBlender.clearMatcher
  { s with pi := s.pi.armed, sc := s.sc.armed }

/-- ARM's checks and effect (R122). -/
def State.runArm (s : State) (p : List Byte) : State :=
  if s.sc.sweep ≠ .idle then s.refuse .wrongState
  else if s.contextBusy then s.refuse .busy
  else
    match Direction.ofCode (u8At p 0) with
    | none => s.refuse .badValue
    | some dir =>
      if s.geo.cw ≤ u16At p 1 ∨ Geometry.startOk dir (u16At p 1) = false then s.refuse .badValue
      else if s.geo.ch < u16At p 3 + s.geo.fh then s.refuse .badValue
      else if !s.hasMemory then s.refuse .noMemory
      else (s.arm dir (u16At p 1) (u16At p 3)).answer []

/-- ARM (R122). -/
def execArm (p : List Byte) (s : State) : Host.Outcome State Fault Refusal :=
  s.command .arm p (fun n => n == 5) fun s => s.runArm p

/-! ### FINISH, ABORT, RELEASE (R133, R135, R136) -/

/-- FINISH's checks and effect (R133). -/
def State.runFinish (s : State) : State :=
  if !s.sc.sweep.canFinish then s.refuse .wrongState
  else if s.rollingBack then s.refuse .busy
  else s.finishSweep.answer []

/-- FINISH (R133). -/
def execFinish (p : List Byte) (s : State) : Host.Outcome State Fault Refusal :=
  s.command .finish p isNoBytes fun s => s.runFinish

/-- What ABORT's stop step does to a context operation: a save ends early, a verify or apply is CANCELLED (R175,
R182), and waiting FINISH actions are dropped (R140, R142). -/
def State.stopContext (s : State) : State :=
  match s.cx.op with
  | .none => s
  | .quiet _ | .copy _ _ => { s with cx := s.cx.endSave }
  | .verify k | .apply k => (s.endRollback k .cancelled).dropWaitingFinish

/-- ABORT's stop step (R136): the match pass stops at its boundary, an export job becomes STOPPING, a context
operation ends; LI holds the command until the clear step. -/
def State.abortStop (s : State) : State :=
  let s := { s with li := { s.li with processing := some .aborting } }
  s.stopContext.stopPass.stopJob

/-- ABORT (R136). -/
def execAbort (p : List Byte) (s : State) : Host.Outcome State Fault Refusal :=
  s.command .abort p isNoBytes fun s => if s.sc.sweep = .idle then s.refuse .wrongState else s.abortStop

/-- A frame still storing at the release is closed (R22), its buffered segments with it (R24). -/
def State.closeAtRelease (s : State) : State :=
  match s.pi.port with
  | some b =>
    (s.settleIntake b (if (s.bank b).drop = .held then .droppedHeld else .droppedClosing)).leaveStore
  | none => s

/-- An accepted RELEASE (R135); a gap in progress ends first (R170). -/
def State.release (s : State) : State := s.closeGap.closeAtRelease.toIdle

/-- RELEASE (R135). -/
def execRelease (p : List Byte) (s : State) : Host.Outcome State Fault Refusal :=
  s.command .release p isNoBytes fun s =>
    if s.sc.sweep ≠ .finished then s.refuse .wrongState else s.release.answer []

/-! ### RESUME (R82, R95, R128 to R132) -/

def State.leaveHeld (s : State) : State := { s with sc := { s.sc with sweep := .sweeping } }

/-- RESUME's common checks 1 and 2 (R128), for the modes other than ROLLBACK; `f` takes the held cause. -/
def State.resume (s : State) (f : Condition → State) : State :=
  match s.sc.sweep with
  | .held c => if s.rollingBack then s.refuse .busy else f c
  | .idle | .armed | .sweeping | .closing | .finished => s.refuse .wrongState

/-- The parked claim is taken anew (R49); during a save it and the claims after it are left for after the save (R37,
R173). -/
def State.acceptParked (s : State) (p : Pass) : State :=
  let s := s.leaveHeld
  match p.admissions with
  | a :: _ => if s.saving then s.setPass (some { p with stage := .fenced }) else s.takeAdmission p a true
  | [] => s.setPass (some (p.settleBatch s.prm))

/-- The waiting push is taken anew (R95); during a save it is deferred (R92), and so is one that needs a force-commit
while a block write goes on (R113, log 38). -/
def State.acceptPush (s : State) (p : Pass) : State :=
  let s := s.leaveHeld
  if s.saving || (s.insideBlock && s.overflows p.serial) then s.setPass (some { p with stage := .push true })
  else s.pushMatching p true

/-- RESUME ACCEPT's effect by held cause (R129). For CANVAS_FULL the released queue's outcomes come before the frame's
CANVAS_END, in the one step of the resume: the model's choice (log 19). -/
def State.acceptDefault (s : State) (p : Pass) : Condition → State
  | .lowMatch => s.leaveHeld.lowMatchDefault p
  | .lost => s.leaveHeld.lostDefault p
  | .reversal => s.leaveHeld.endPassWith p .reversed
  | .vertical => s.leaveHeld.verticalDefault p
  | .speed => s.leaveHeld.speedDefault p
  | .windowOverflow => s.acceptPush p
  | .tableFull => s.acceptParked p
  | .canvasFull => s.enterClosing.endPassWith p .canvasEnd

/-- The reply of a resume is formed and the waiting block acts, in one step (R128). -/
def State.resumeHeld (s : State) (f : Pass → State) (empty : State) : State :=
  (match s.me.pass with
    | some p => f p
    | none => empty).answer []

/-- The sweep after an ACCEPT of this cause with no pass to hand it to. -/
def State.acceptNothing (s : State) (c : Condition) : State :=
  if c = .canvasFull then s.enterClosing else s.leaveHeld

/-- RESUME_ACCEPT (R129). -/
def execResumeAccept (p : List Byte) (s : State) : Host.Outcome State Fault Refusal :=
  s.command .resumeAccept p isNoBytes fun s =>
    s.resume fun c => s.resumeHeld (fun q => s.acceptDefault q c) (s.acceptNothing c)

/-- RESUME SKIP's effect (R130): a parked batch ends; any other held frame is DISCARDED. -/
def State.skipHeld (s : State) (p : Pass) (c : Condition) : State :=
  if c = .tableFull then s.leaveHeld.setPass (some { p with admissions := [], stage := .report })
  else s.leaveHeld.endPassWith p .discarded

/-- RESUME_SKIP (R130). -/
def execResumeSkip (p : List Byte) (s : State) : Host.Outcome State Fault Refusal :=
  s.command .resumeSkip p isNoBytes fun s => s.resume fun c => s.resumeHeld (fun q => s.skipHeld q c) s.leaveHeld

/-- RESUME PLACE is allowed for this cause (R128, R131). -/
def Condition.placeable : Condition → Bool
  | .lowMatch | .lost | .vertical | .speed => true
  | .reversal | .windowOverflow | .tableFull | .canvasFull => false

/-- The host's position enters the motion record, in place of the frame's own entry where it has one (R131). -/
def placeMotion (m : List Motion) (e : Motion) : List Motion :=
  match m with
  | k :: rest => if k.serial = e.serial then e :: rest else pushMotion m e
  | [] => pushMotion m e

/-- RESUME PLACE's effect (R82, R131): checks 2 to 5 anew on the host's position. -/
def State.placeHeld (s : State) (p : Pass) (dx dy : Int) : State :=
  let s := s.leaveHeld
  let pos := offsetFrom s.geo s.me.motion dx dy
  let s := { s with me := { s.me with
    motion := placeMotion s.me.motion ⟨p.serial, pos.1, pos.2⟩, mode := .locked, predicted := 0 } }
  s.check2 { p with
    how := .host, x := pos.1, y := pos.2, clipped := false, gap := false, closure := none, wrapMean := none }

/-- RESUME_PLACE (R131). -/
def execResumePlace (p : List Byte) (s : State) : Host.Outcome State Fault Refusal :=
  s.command .resumePlace p (fun n => n == 3) fun s =>
    s.resume fun c =>
      if !c.placeable then s.refuse .wrongState
      else if s16At p 0 < -2048 ∨ 2047 < s16At p 0 then s.refuse .badValue
      else s.resumeHeld (fun q => s.placeHeld q (s16At p 0) (s8At p 2)) s.leaveHeld

/-- RESUME_ROLLBACK (R128, R132): the verify begins and the sweep stays HELD. The verify of a slot that is not VALID ends
by the row VERIFY_END too, which stands for the "at once" of R177 and R178: the model's choice (log 36). -/
def execResumeRollback (p : List Byte) (s : State) : Host.Outcome State Fault Refusal :=
  s.command .resumeRollback p (fun n => n == 1) fun s =>
    if !s.sc.sweep.isHeld then s.refuse .wrongState
    else if s.contextBusy then s.refuse .busy
    else
      match SlotId.ofCode (u8At p 0) with
      | some k => (s.beginVerify k).accept
      | none => s.refuse .badValue

/-! ### Hints, marks and the shutter capture (R66, R139, R142, R143) -/

/-- HINT (R66). -/
def execHint (p : List Byte) (s : State) : Host.Outcome State Fault Refusal :=
  s.command .hint p (fun n => n == 3) fun s =>
    if !s.sc.sweep.canFinish then s.refuse .wrongState
    else if s16At p 0 < -2048 ∨ 2047 < s16At p 0 then s.refuse .badValue
    else ({ s with me := { s.me with hint := some ⟨s16At p 0, s8At p 2, none⟩ } }).answer []

/-- SET_MARK (R139). -/
def execSetMark (p : List Byte) (s : State) : Host.Outcome State Fault Refusal :=
  s.command .setMark p (fun n => n == 4) fun s =>
    match bitOfCode (u8At p 0), MarkAction.ofCode (u8At p 1) with
    | some unit, some a => (s.loadMark unit a (u16At p 2)).answer []
    | _, _ => s.refuse .badValue

/-- READ CAPTURE's data (11.5). -/
def Capture.data (c : Capture) : List Byte :=
  leBytes 2 c.progress ++ leSerial (c.newest.getD 0#16) ++ [byteBool c.newest.isSome] ++ leSerial c.current ++
    [byteOf c.result.code, byteOf (c.unread.toNat + 2 * c.overrun.toNat)]

/-- READ_CAPTURE (R143): the record is returned, UNREAD and OVERRUN cleared in the same step. -/
def execReadCapture (p : List Byte) (s : State) : Host.Outcome State Fault Refusal :=
  s.command .readCapture p isNoBytes fun s =>
    ({ s with sc := { s.sc with capture := { s.sc.capture with unread := false, overrun := false } } }).answer
      s.sc.capture.data

/-- SET_CAPTURE_ACTION (R143). -/
def execSetCaptureAction (p : List Byte) (s : State) : Host.Outcome State Fault Refusal :=
  s.command .setCaptureAction p (fun n => n == 1) fun s =>
    match bitOfCode (u8At p 0) with
    | some b => ({ s with sc := { s.sc with captureFinish := b } }).answer []
    | none => s.refuse .badValue

/-- Steps 1 to 3 of an edge (R142): overrun, fields, CAPTURE. The result stands as NONE until step 4. -/
def State.fillCapture (s : State) : State :=
  ({ s with sc := { s.sc with capture :=
      ⟨s.sc.progress, s.pw.head?.map Placement.serial, s.pi.serial, .none, true, s.sc.capture.overrun || s.sc.capture.unread⟩
    } }).raise .capture

/-- The result of the capture recorded by this edge. -/
def State.captureTook (s : State) (r : CaptureResult) : State :=
  { s with sc := { s.sc with capture := { s.sc.capture with result := r } } }

/-- Step 4 (R142): the capture action as it stands at the edge. Where two rows of the rule's table meet, the phase row
goes before the state row: between ABORT's steps the result is DROPPED and during a verify or apply WAITING, in CLOSING
too: the model's choice (log 14). -/
def State.captureAct (s : State) : State :=
  if !s.sc.captureFinish then s
  else if s.aborting then s.captureTook .dropped
  else if s.rollingBack then ({ s with sc := { s.sc with captureFinishWaits := true } }).captureTook .waiting
  else if s.sc.sweep.canFinish then (s.captureTook .taken).finishSweep
  else s

/-- SHUTTER_EDGE (R142): ignored in IDLE and FINISHED. -/
def execShutterEdge (s : State) : Host.Outcome State Fault Refusal :=
  .next (match s.sc.sweep with
    | .idle | .finished => s
    | .armed | .sweeping | .held _ | .closing => s.fillCapture.captureAct)

end Sys2Proof.Machine
end

