-- ==== Sys2Proof/Machine/Landmarks.lean ====
section
/-! DEFINITION. Host commands of the Landmark Table (R52, R55 to R60). -/

namespace Sys2Proof.Machine

/-! ### Reads (R58 to R60) -/

def flagsByte (pinned origin : Bool) : Byte := byteOf (pinned.toNat + 2 * origin.toNat)

/-- READ LANDMARK's data (11.5). -/
def Landmark.data (r : Landmark) (i : Nat) (gen : BitVec 4) : List Byte :=
  [byteOf i, byteOf gen.toNat, byteOf r.state.code, flagsByte r.pinned r.origin] ++ leSigned 4 r.x ++ leSigned 2 r.y ++
    leBytes 8 r.descriptor.toNat ++ leBytes 2 r.strength ++ [byteOf r.hits, byteOf r.misses] ++
    leSerial r.firstSeen ++ leSerial r.lastSeen ++ [byteOf r.bin]

/-- READ_LANDMARK (R58). -/
def execReadLandmark (p : List Byte) (s : State) : Host.Outcome State Fault Refusal :=
  s.command .readLandmark p (fun n => n == 1) fun s =>
    match s.ltc.lm (u8At p 0) with
    | some r => s.answer (r.data (u8At p 0) (s.ltc.gen (u8At p 0)))
    | none => s.refuse .emptyEntry

/-- One entry of the FIND LANDMARKS reply (11.5). -/
def Table.findData (t : Table) (i : Nat) : List Byte :=
  [byteOf i, byteOf ((t.lm i).elim 0 fun r => r.state.code), byteOf (t.gen i).toNat]

/-- FIND_LANDMARKS (R59). -/
def execFindLandmarks (p : List Byte) (s : State) : Host.Outcome State Fault Refusal :=
  s.command .findLandmarks p (fun n => n == 1) fun s =>
    if s.geo.nBins ≤ u8At p 0 then s.refuse .badValue
    else s.answer (byteOf (s.ltc.bin (u8At p 0)).length :: (s.ltc.bin (u8At p 0)).flatMap s.ltc.findData)

/-- EXAMINE LANDMARK's data (R60): class, flags, side. -/
def State.examineData (s : State) (i : Nat) : List Byte :=
  match s.ltc.lm i with
  | some r =>
    [byteOf r.state.code, flagsByte r.pinned r.origin, if s.geo.binBehind s.bu.commitLine r.bin then 2#8 else 1#8]
  | none => [0#8, 0#8, 0#8]

/-- EXAMINE_LANDMARK (R60). -/
def execExamineLandmark (p : List Byte) (s : State) : Host.Outcome State Fault Refusal :=
  s.command .examineLandmark p (fun n => n == 1) fun s => s.answer (s.examineData (u8At p 0))

/-! ### Changes (R52, R55 to R57) -/

/-- Checks 1 to 3 of PIN, UNPIN and RETIRE LANDMARK; `f` takes the live record named (R55). -/
def State.named (s : State) (p : List Byte) (f : Landmark → State) : State :=
  if 15 < u8At p 1 then s.refuse .badValue
  else if s.tableBusy then s.refuse .busy
  else
    match s.ltc.lm (u8At p 0) with
    | some r => if (s.ltc.gen (u8At p 0)).toNat = u8At p 1 then f r else s.refuse .emptyEntry
    | none => s.refuse .emptyEntry

/-- PINNED is set and the pinned count raised (R55). -/
def Table.pin (t : Table) (i : Nat) (r : Landmark) : Table :=
  { t.put i { r with pinned := true } with pinned := t.pinned + 1 }

/-- PINNED is cleared and the pinned count lowered (R56). -/
def Table.unpin (t : Table) (i : Nat) (r : Landmark) : Table :=
  { t.put i { r with pinned := false } with pinned := t.pinned - 1 }

/-- PIN_LANDMARK (R55). -/
def execPinLandmark (p : List Byte) (s : State) : Host.Outcome State Fault Refusal :=
  s.command .pinLandmark p (fun n => n == 2) fun s =>
    s.named p fun r =>
      if r.pinned then s.answer []
      else if 32 ≤ s.ltc.pinned then s.refuse .limit
      else ({ s with ltc := s.ltc.pin (u8At p 0) r }).answer []

/-- UNPIN_LANDMARK (R56). -/
def execUnpinLandmark (p : List Byte) (s : State) : Host.Outcome State Fault Refusal :=
  s.command .unpinLandmark p (fun n => n == 2) fun s =>
    s.named p fun r => if r.pinned then ({ s with ltc := s.ltc.unpin (u8At p 0) r }).answer [] else s.answer []

/-- RETIRE_LANDMARK (R57). -/
def execRetireLandmark (p : List Byte) (s : State) : Host.Outcome State Fault Refusal :=
  s.command .retireLandmark p (fun n => n == 2) fun s =>
    s.named p fun r =>
      if r.pinned then s.refuse .isProtected else ({ s with ltc := s.ltc.retire (u8At p 0) }).answer []

/-- RETIRE_REGION (R52). -/
def execRetireRegion (p : List Byte) (s : State) : Host.Outcome State Fault Refusal :=
  s.command .retireRegion p (fun n => n == 3) fun s =>
    if s.geo.nBins ≤ u8At p 0 ∨ u16At p 1 = 0 ∨ s.geo.nBins < u16At p 1 then s.refuse .badValue
    else if s.tableBusy then s.refuse .busy
    else
      (s.retireRegion (u8At p 0) (u16At p 1)).answer
        (leBytes 2 (s.ltc.regionVictims (s.geo.binRun (u8At p 0) (u16At p 1))).length)

end Sys2Proof.Machine
end

