-- ==== Sys2Proof/Machine/Reads.lean ====
section
/-! DEFINITION. Host reads of the window, the coverage map and the closure record (R101, R119, R148), and the host commands of
directive lists and checkpoints (R161 to R163, R172, R177, R183). -/

namespace Sys2Proof.Machine

/-! ### Placements, coverage, closure -/

/-- What both views return (11.5): serial, state, view, flags, owned block count. -/
def Placement.commonData (r : Placement) (view : Bool) : List Byte :=
  leSerial r.serial ++ [byteOf r.state.code, byteBool view,
    byteOf (r.clipped.toNat + 2 * r.gap.toNat + 4 * r.featherClamped.toNat)] ++ leBytes 2 r.owned

/-- The SOLVED view (R101). -/
def Placement.solvedData (r : Placement) : List Byte :=
  r.commonData false ++ [byteOf r.how.code] ++ leSigned 4 r.x ++ leSigned 4 r.y ++ [byteOf r.inliers] ++
    leBytes 2 r.stale ++ leSigned 2 r.step ++ leSigned 2 r.overlap

/-- The USED view (R101): seam, feather and gain are 0 until the used part is complete. -/
def Placement.usedData (r : Placement) (u : UsedPart) : List Byte :=
  r.commonData true ++ leSigned 4 u.x ++ leSigned 2 u.y ++
    match u.fixed with
    | some f => [1#8] ++ leSigned 2 f.seam ++ [byteOf f.feather, byteOf f.gain]
    | none => [0#8, 0#8, 0#8, 0#8, 0#8]

/-- READ PLACEMENT's checks and reply (R101). -/
def State.runReadPlacement (s : State) (depth view : Nat) : State :=
  match bitOfCode view with
  | none => s.refuse .badValue
  | some used =>
    match s.pw[depth]? with
    | none => s.refuse .emptyEntry
    | some r =>
      if used then
        match r.state, r.used with
        | .placed, _ => s.refuse .emptyEntry
        | .blending, some u | .blended, some u => s.answer (r.usedData u)
        | .blending, none | .blended, none => s.refuse .emptyEntry
      else s.answer r.solvedData

/-- READ_PLACEMENT (R101). -/
def execReadPlacement (p : List Byte) (s : State) : Host.Outcome State Fault Refusal :=
  s.command .readPlacement p (fun n => n == 2) fun s => s.runReadPlacement (u8At p 0) (u8At p 1)

/-- Depth of a serial in the window (R119). -/
def State.depthOf (s : State) (v : Serial) : Nat := s.pw.findIdx fun r => decide (r.serial = v)

/-- One entry of the READ COVERAGE reply (11.5). -/
def State.coverageByte (s : State) (k : Nat) : Byte :=
  match s.coverageAt k with
  | .blank => 0#8
  | .opened o => byteOf (1 + 4 * s.depthOf o)
  | .committed => 2#8

/-- READ COVERAGE's data (R119). -/
def State.coverageData (s : State) (first count : Nat) : List Byte :=
  leBytes 2 first ++ [byteOf count] ++ leSigned 2 s.bu.commitLine ++
    (List.range count).map fun e => s.coverageByte ((first + e) % s.geo.nBlocks)

/-- READ_COVERAGE (R119). -/
def execReadCoverage (p : List Byte) (s : State) : Host.Outcome State Fault Refusal :=
  s.command .readCoverage p (fun n => n == 3) fun s =>
    if s.geo.nBlocks ≤ u16At p 0 ∨ u8At p 2 = 0 ∨ 64 < u8At p 2 then s.refuse .badValue
    else s.answer (s.coverageData (u16At p 0) (u8At p 2))

/-- READ CLOSURE's data (R148). -/
def Closure.data (c : Closure) : List Byte :=
  [byteOf c.state.code] ++ leSigned 2 c.ce ++ leSigned 2 c.ry ++ [byteOf c.votes] ++ leSerial c.serial ++
    [byteOf c.rejections] ++
    match c.last with
    | some r =>
      [1#8] ++ leSerial r.serial ++ leSigned 2 r.ce ++ leSigned 2 r.ry ++ [byteOf r.votes, byteOf r.reason.code]
    | none => List.replicate 9 0#8

/-- READ_CLOSURE (R148). -/
def execReadClosure (p : List Byte) (s : State) : Host.Outcome State Fault Refusal :=
  s.command .readClosure p isNoBytes fun s => s.answer s.sc.closure.data

/-! ### Directive lists (R161 to R163) -/

def State.setProcessing (s : State) (q : Processing) : State := { s with li := { s.li with processing := some q } }

/-- WRITE DIRECTIVES' parameter length: 2 + 4n for n from 1 to 16 (R161). -/
def writeLength (n : Nat) : Bool := decide (6 ≤ n ∧ n ≤ 66 ∧ n % 4 = 2)

/-- WRITE_DIRECTIVES (R161): LINK's burst is presented; the reply is formed when it completes (R13). -/
def execWriteDirectives (p : List Byte) (s : State) : Host.Outcome State Fault Refusal :=
  s.command .writeDirectives p writeLength fun s =>
    if 1023 < u16At p 0 then s.refuse .badValue
    else if 1024 < u16At p 0 + (p.length - 2) / 4 then s.refuse .badValue
    else if !s.hasMemory then s.refuse .noMemory
    else s.setProcessing (.linkWrite (u16At p 0) (p.drop 2))

/-- READ_DIRECTIVES (R162). -/
def execReadDirectives (p : List Byte) (s : State) : Host.Outcome State Fault Refusal :=
  s.command .readDirectives p (fun n => n == 3) fun s =>
    if 1023 < u16At p 0 then s.refuse .badValue
    else if u8At p 2 = 0 ∨ 16 < u8At p 2 then s.refuse .badValue
    else if 1024 < u16At p 0 + u8At p 2 then s.refuse .badValue
    else if !s.hasMemory then s.refuse .noMemory
    else s.setProcessing (.linkRead (u16At p 0) (u8At p 2))

/-- An accepted SET LIST (R163): with DISABLED a gap in progress ends first, a word already read being applied. -/
def State.setList (s : State) (start : Nat) (enable : Bool) : State :=
  let s := if enable then s else s.closeGap
  { s with dr := { s.dr with startPtr := start, enabled := enable } }

/-- SET_LIST (R163). -/
def execSetList (p : List Byte) (s : State) : Host.Outcome State Fault Refusal :=
  s.command .setList p (fun n => n == 3) fun s =>
    match bitOfCode (u8At p 2) with
    | some enable => if 1023 < u16At p 0 then s.refuse .badValue else (s.setList (u16At p 0) enable).answer []
    | none => s.refuse .badValue

/-! ### Checkpoints (R172, R177, R183) -/

/-- CHECKPOINT (R172): the slot is SAVING and the quiet wait begins, or the copy phase at once (R173). -/
def execCheckpoint (p : List Byte) (s : State) : Host.Outcome State Fault Refusal :=
  s.command .checkpoint p (fun n => n == 1) fun s =>
    if !s.sc.sweep.canRollBack then s.refuse .wrongState
    else if s.contextBusy then s.refuse .busy
    else
      match SlotId.ofCode (u8At p 0) with
      | none => s.refuse .badValue
      | some k =>
        if !s.hasMemory then s.refuse .noMemory
        else (s.beginSave k).accept

/-- ROLLBACK (R177): the verify begins. -/
def execRollback (p : List Byte) (s : State) : Host.Outcome State Fault Refusal :=
  s.command .rollback p (fun n => n == 1) fun s =>
    if !s.sc.sweep.canRollBack then s.refuse .wrongState
    else if s.contextBusy then s.refuse .busy
    else
      match SlotId.ofCode (u8At p 0) with
      | none => s.refuse .badValue
      | some k =>
        if !s.hasMemory then s.refuse .noMemory
        else if (s.cx.slot k).state = .empty then s.refuse .slotEmpty
        else (s.beginVerify k).accept

def slotByte (k : Option SlotId) : Byte := k.elim 255#8 fun k => byteOf k.code

/-- A slot in the READ SLOTS reply (11.5). -/
def Slot.data (k : Slot) : List Byte :=
  [byteOf k.state.code, byteBool k.saveSerial.isSome] ++ leSerial (k.saveSerial.getD 0#16)

/-- READ SLOTS' data (R183). -/
def Context.data (c : Context) : List Byte :=
  c.slot0.data ++ c.slot1.data ++
    [byteOf c.lastResult.code, slotByte c.lastSlot, byteOf c.op.code, slotByte c.op.slot?]

/-- READ_SLOTS (R183). -/
def execReadSlots (p : List Byte) (s : State) : Host.Outcome State Fault Refusal :=
  s.command .readSlots p isNoBytes fun s => s.answer s.cx.data

end Sys2Proof.Machine
end

