-- ==== Sys2Proof/Machine/ExportJobs.lean ====
section
/-! DEFINITION. The Export Unit (R152 to R159): the panorama span, starting a job, output lines, and stopping. -/

namespace Sys2Proof.Machine

/-! ### The job (R152, R154, R155) -/

/-- Length of the panorama span in columns, from u 0 (R152). -/
def State.spanLength (s : State) : Nat :=
  match s.sc.closure.state with
  | .joined => s.sc.closure.ce.toNat
  | .none | .detected => min s.sc.progress s.geo.cw

/-- REGION's column list (R155). -/
def regionColumns (g : Geometry) (first count : Nat) : List (Nat × Int) :=
  (List.range count).map fun i => ((first + i) % g.cw, 0)

/-- The shift of the column at u (R155). -/
def State.shiftAt (s : State) (u : Nat) : Int :=
  match s.sc.closure.state with
  | .joined => roundDiv (s.sc.closure.ry * u) s.sc.closure.ce.toNat
  | .none | .detected => 0

/-- PANORAMA's column list, in increasing memory column order around the start column (R155). -/
def State.panoramaColumns (s : State) : List (Nat × Int) :=
  let us : List Nat := match s.geo.direction with
    | .east => List.range s.spanLength
    | .west => (List.range s.spanLength).reverse
  us.map fun (u : Nat) => (s.geo.memColU u, s.shiftAt u)

/-- An accepted EXPORT starts the job (R155): frame-start is sent and the first line begins. -/
def State.startJob (s : State) (quarter panorama : Bool) (columns : List (Nat × Int)) (firstRow rowCount : Nat) :
    State :=
  ({ s with eu := { s.eu with
      state := .running
      panorama := panorama
      quarter := quarter
      columns := columns
      firstRow := firstRow
      rowCount := rowCount
      linesSent := 0
      lineBegun := true
      fetched := []
      reached := none } }).sendPort .frameStart

/-- EXPORT's checks and effect (R154). -/
def State.runExport (s : State) (p : List Byte) : State :=
  let count := u16At p 2
  let rows := u16At p 6
  if s.eu.state ≠ .idle then s.refuse .busy
  else
    match bitOfCode (u8At p 8), bitOfCode (u8At p 9) with
    | some quarter, some panorama =>
      if panorama = false ∧ (s.geo.cw ≤ u16At p 0 ∨ count = 0 ∨ s.geo.cw < count) then s.refuse .badValue
      else if s.geo.ch ≤ u16At p 4 ∨ rows = 0 ∨ s.geo.ch < rows ∨ s.geo.ch < u16At p 4 + rows then s.refuse .badValue
      else if quarter = true ∧ (rows < 8 ∨ (panorama = false ∧ count < 8)) then s.refuse .badValue
      else if !s.hasMemory then s.refuse .noMemory
      else if panorama = true ∧ (s.spanLength < 1 ∨ (quarter = true ∧ s.spanLength < 8)) then s.refuse .emptyEntry
      else
        (s.startJob quarter panorama (if panorama then s.panoramaColumns else regionColumns s.geo (u16At p 0) count)
          (u16At p 4) rows).answer []
    | _, _ => s.refuse .badValue

/-- EXPORT (R154). -/
def execExportStart (p : List Byte) (s : State) : Host.Outcome State Fault Refusal :=
  s.command .exportStart p (fun n => n == 10) fun s => s.runExport p

/-- EXPORT_STOP (R158). -/
def execExportStop (p : List Byte) (s : State) : Host.Outcome State Fault Refusal :=
  s.command .exportStop p isNoBytes fun s => if s.eu.state = .idle then s.refuse .wrongState else s.stopJob.answer []

/-! ### Output lines (R156 to R158) -/

/-- EXPORT_LINE (R156): the line is sent once granted bursts have read it; a STOPPING job ends after its line in progress
(R158). -/
def execExportLine (s : State) : Host.Outcome State Fault Refusal :=
  .next (match s.eu.state with
    | .idle => s
    | .running => if s.lineRead then s.sendLine.afterLine else s
    | .stopping =>
      if !s.eu.lineBegun then s.endJob .stopped
      else if s.lineRead then s.sendLine.endJob .stopped
      else s)

end Sys2Proof.Machine
end

