-- ==== Sys2Proof/Machine/Dispatch.lean ====
section
/-! DEFINITION. Every command's meaning: one arm per row of spec/opcode_table.json. -/

namespace Sys2Proof.Machine

def exec (i : Instr) (s : State) : Host.Outcome State Fault Refusal :=
  match i with
  | .powerOn => Sys2Proof.Machine.execPowerOn s
  | .resetNAssert => Sys2Proof.Machine.execResetNAssert s
  | .dieSensingComplete dies => Sys2Proof.Machine.execDieSensingComplete dies s
  | .refreshDue => Sys2Proof.Machine.execRefreshDue s
  | .firstSlot => Sys2Proof.Machine.execFirstSlot s
  | .secondSlot => Sys2Proof.Machine.execSecondSlot s
  | .shutterEdge => Sys2Proof.Machine.execShutterEdge s
  | .frameStart => Sys2Proof.Machine.execFrameStart s
  | .line luma chroma => Sys2Proof.Machine.execLine luma chroma s
  | .frameEnd => Sys2Proof.Machine.execFrameEnd s
  | .transactionStart => Sys2Proof.Machine.execTransactionStart s
  | .transactionEnd bytes => Sys2Proof.Machine.execTransactionEnd bytes s
  | .nop p => Sys2Proof.Machine.execNop p s
  | .readIdentity p => Sys2Proof.Machine.execReadIdentity p s
  | .readStatus p => Sys2Proof.Machine.execReadStatus p s
  | .readEvents p => Sys2Proof.Machine.execReadEvents p s
  | .setEventEnables p => Sys2Proof.Machine.execSetEventEnables p s
  | .reset p => Sys2Proof.Machine.execReset p s
  | .configure p => Sys2Proof.Machine.execConfigure p s
  | .setParameters p => Sys2Proof.Machine.execSetParameters p s
  | .setMasks p => Sys2Proof.Machine.execSetMasks p s
  | .clearConditions p => Sys2Proof.Machine.execClearConditions p s
  | .arm p => Sys2Proof.Machine.execArm p s
  | .finish p => Sys2Proof.Machine.execFinish p s
  | .abort p => Sys2Proof.Machine.execAbort p s
  | .abortClearStep => Sys2Proof.Machine.execAbortClearStep s
  | .resumeAccept p => Sys2Proof.Machine.execResumeAccept p s
  | .resumeSkip p => Sys2Proof.Machine.execResumeSkip p s
  | .resumePlace p => Sys2Proof.Machine.execResumePlace p s
  | .resumeRollback p => Sys2Proof.Machine.execResumeRollback p s
  | .release p => Sys2Proof.Machine.execRelease p s
  | .hint p => Sys2Proof.Machine.execHint p s
  | .setMark p => Sys2Proof.Machine.execSetMark p s
  | .readCapture p => Sys2Proof.Machine.execReadCapture p s
  | .setCaptureAction p => Sys2Proof.Machine.execSetCaptureAction p s
  | .readLandmark p => Sys2Proof.Machine.execReadLandmark p s
  | .findLandmarks p => Sys2Proof.Machine.execFindLandmarks p s
  | .examineLandmark p => Sys2Proof.Machine.execExamineLandmark p s
  | .pinLandmark p => Sys2Proof.Machine.execPinLandmark p s
  | .unpinLandmark p => Sys2Proof.Machine.execUnpinLandmark p s
  | .retireLandmark p => Sys2Proof.Machine.execRetireLandmark p s
  | .retireRegion p => Sys2Proof.Machine.execRetireRegion p s
  | .readPlacement p => Sys2Proof.Machine.execReadPlacement p s
  | .readCoverage p => Sys2Proof.Machine.execReadCoverage p s
  | .readClosure p => Sys2Proof.Machine.execReadClosure p s
  | .writeDirectives p => Sys2Proof.Machine.execWriteDirectives p s
  | .readDirectives p => Sys2Proof.Machine.execReadDirectives p s
  | .setList p => Sys2Proof.Machine.execSetList p s
  | .checkpoint p => Sys2Proof.Machine.execCheckpoint p s
  | .rollback p => Sys2Proof.Machine.execRollback p s
  | .readSlots p => Sys2Proof.Machine.execReadSlots p s
  | .exportStart p => Sys2Proof.Machine.execExportStart p s
  | .exportStop p => Sys2Proof.Machine.execExportStop p s
  | .exportLine => Sys2Proof.Machine.execExportLine s
  | .matchBankTake => Sys2Proof.Machine.execMatchBankTake s
  | .lookup => Sys2Proof.Machine.execLookup s
  | .solve => Sys2Proof.Machine.execSolve s
  | .judge => Sys2Proof.Machine.execJudge s
  | .push => Sys2Proof.Machine.execPush s
  | .batchOpening => Sys2Proof.Machine.execBatchOpening s
  | .footprintRead => Sys2Proof.Machine.execFootprintRead s
  | .hitClaim => Sys2Proof.Machine.execHitClaim s
  | .reviveClaim => Sys2Proof.Machine.execReviveClaim s
  | .missClaim => Sys2Proof.Machine.execMissClaim s
  | .admissionClaim => Sys2Proof.Machine.execAdmissionClaim s
  | .staleCountClaim => Sys2Proof.Machine.execStaleCountClaim s
  | .blendTake => Sys2Proof.Machine.execBlendTake s
  | .seamFix => Sys2Proof.Machine.execSeamFix s
  | .blockWrite => Sys2Proof.Machine.execBlockWrite s
  | .blendEnd => Sys2Proof.Machine.execBlendEnd s
  | .retireBehind => Sys2Proof.Machine.execRetireBehind s
  | .retirementClaim => Sys2Proof.Machine.execRetirementClaim s
  | .blendEndClaim => Sys2Proof.Machine.execBlendEndClaim s
  | .closureJoin => Sys2Proof.Machine.execClosureJoin s
  | .joinColumn => Sys2Proof.Machine.execJoinColumn s
  | .commitAllOpenBlocks => Sys2Proof.Machine.execCommitAllOpenBlocks s
  | .copyPhase => Sys2Proof.Machine.execCopyPhase s
  | .saveComplete => Sys2Proof.Machine.execSaveComplete s
  | .verifyEnd => Sys2Proof.Machine.execVerifyEnd s
  | .rollbackReplace => Sys2Proof.Machine.execRollbackReplace s
  | .dirStop => Sys2Proof.Machine.execDirStop s
  | .dirSkip => Sys2Proof.Machine.execDirSkip s
  | .dirNext => Sys2Proof.Machine.execDirNext s
  | .dirNextAndStop => Sys2Proof.Machine.execDirNextAndStop s
  | .dirSignal => Sys2Proof.Machine.execDirSignal s
  | .dirHint => Sys2Proof.Machine.execDirHint s
  | .dirMasks => Sys2Proof.Machine.execDirMasks s
  | .dirMark => Sys2Proof.Machine.execDirMark s
  | .dirRetireRegion => Sys2Proof.Machine.execDirRetireRegion s
  | .retireRegionClaim => Sys2Proof.Machine.execRetireRegionClaim s
  | .dirBlend => Sys2Proof.Machine.execDirBlend s
  | .directiveFault => Sys2Proof.Machine.execDirectiveFault s
  | .resetNRises => Sys2Proof.Machine.execResetNRises s

end Sys2Proof.Machine
end

