-- ==== Sys2Proof/Safety.lean ====
section
/-! DEFINITION. What a run keeps: the laws the manual states over every state, and the condition under which no step
faults. -/

namespace Sys2Proof

/-- The parameter lengths of the command table (11.5); the RESUME rows without their mode byte (log 4). -/
def HostCommand.lengthAllowed (c : HostCommand) (n : Nat) : Bool :=
  match c with
  | .nop | .readIdentity | .readStatus | .readEvents | .reset | .clearConditions | .finish | .abort | .resumeAccept
  | .resumeSkip | .release | .readCapture | .readClosure | .readSlots | .exportStop => n == 0
  | .setMasks | .setCaptureAction | .readLandmark | .findLandmarks | .examineLandmark | .checkpoint | .rollback
  | .resumeRollback => n == 1
  | .setEventEnables | .pinLandmark | .unpinLandmark | .retireLandmark | .readPlacement => n == 2
  | .resumePlace | .hint | .retireRegion | .readCoverage | .readDirectives | .setList => n == 3
  | .setMark => n == 4
  | .arm => n == 5
  | .configure => n == 8
  | .exportStart => n == 10
  | .setParameters => n == 32
  | .writeDirectives => decide (6 ≤ n ∧ n ≤ 66 ∧ n % 4 = 2)

namespace Machine

/-- The number of banks FILLING, QUEUED or MATCHING (R27). -/
def State.openBanks (s : State) : Nat := bankIds.countP fun b => (s.bank b).state.isOpen

/-- R27: *started* = *placed* + *dropped* + *set aside* + the frames without an outcome. -/
def CountLaw (s : State) : Prop :=
  s.sc.started = s.sc.placed + s.sc.dropped + s.sc.setAside + BitVec.ofNat 32 s.openBanks

/-- R188: ATTN is asserted exactly when some event flag is both set and enabled. -/
def AttnLaw (s : State) : Prop :=
  s.li.attn = true ↔ ∃ e : Event, s.li.events.getLsbD e.bit = true ∧ s.li.enables.getLsbD e.bit = true

/-- R121: while HELD the held cause's flag is set. -/
def HeldLaw (s : State) : Prop := ∀ c, s.sc.sweep = .held c → s.sc.flags.getLsbD c.bit = true

/-- R34: no bin list holds more than 8 indices. -/
def BinLaw (s : State) : Prop := ∀ l ∈ s.ltc.bins, l.length ≤ 8

/-- R33: 256 entries, and the three counts are the numbers of live, pinned and origin records. -/
def TableLaw (s : State) : Prop :=
  s.ltc.entries.length = 256 ∧
  s.ltc.live = s.ltc.entries.countP (fun e => e.lm.isSome) ∧
  s.ltc.pinned = s.ltc.entries.countP (fun e => e.lm.any (·.pinned)) ∧
  s.ltc.origin = s.ltc.entries.countP (fun e => e.lm.any (·.origin))

/-- The image an apply works on has passed the verify (R178). -/
def ApplyLaw (s : State) : Prop :=
  ∀ k m, s.cx.op = .apply k → (s.cx.slot k).image = some m →
    m.windowOk = true ∧ m.coverage.length = s.geo.nBlocks

/-- R87: 0 to 8 records, no two of the same serial. -/
def WindowLaw (s : State) : Prop := s.pw.length ≤ 8 ∧ (s.pw.map (·.serial)).Nodup ∧ ApplyLaw s

/-- R34, R104: CW/64 bin lists and CW/32 coverage entries. -/
def SizeLaw (s : State) : Prop :=
  s.ltc.bins.length = s.geo.nBins ∧ s.bu.coverage.length = s.geo.nBlocks ∧ ApplyLaw s

/-- Chapter 9, R165: the pointers lie in 0 to 1023, the budget in 0 to 16, below 16 while a gap is in progress. -/
def ReaderLaw (s : State) : Prop :=
  s.dr.startPtr ≤ 1023 ∧ s.dr.readPtr ≤ 1023 ∧ s.dr.budget ≤ 16 ∧ (∀ n, s.dr.fault = some n → n ≤ 1023) ∧
    (s.dr.gap.isSome = true → s.dr.budget < 16)

/-- R10, R15: at most one full segment waits and less than one fills; R24: in AWAIT the line buffer is empty. -/
def BufferLaw (s : State) : Prop :=
  s.pi.waiting.length ≤ segmentBytes ∧ s.pi.filling.length < segmentBytes ∧
    (s.pi.port = none → s.pi.waiting = [] ∧ s.pi.filling = [])

/-- Nothing is under way that uses canvas memory: with memory present 0 MiB the sweep stays IDLE (R8). -/
def Quiet (s : State) : Prop :=
  s.sc.sweep = .idle ∧ s.pi.port = none ∧ s.pi.waiting = [] ∧ s.dr.gap = none ∧ s.me.pass = none ∧ s.pw = [] ∧
    s.bu.pass = none ∧ s.bu.join = none ∧ s.cx.op = .none ∧ s.eu.state = .idle ∧
    (∀ o b, s.li.processing ≠ some (.linkWrite o b)) ∧ (∀ o n, s.li.processing ≠ some (.linkRead o n))

/-- R7 to R9: while sensing there is no memory and the configuration is the default; with memory present, canvas
and fixed regions do not overlap; without it, nothing is under way that would use it. -/
def MemoryReady (s : State) : Prop :=
  (s.ma.sensing.isSome = true → s.hasMemory = false ∧ s.geo = Geometry.default) ∧
  (s.hasMemory = true → s.geo.fitsIn (presentBytes s.ma.dies) = true) ∧
  (s.hasMemory = false → Quiet s)

end Machine

/-- The rows whose step writes canvas memory, or loses its contents. -/
def Instr.writesMemory : Instr → Bool
  | .powerOn | .resetNAssert | .line _ _ | .frameEnd | .firstSlot | .secondSlot => true
  | _ => false

/-- The rows after which the commit line may lie behind its old value (R105). -/
def Instr.restartsLine : Instr → Bool
  | .powerOn | .resetNAssert | .reset _ | .arm _ | .release _ | .abortClearStep | .rollbackReplace => true
  | _ => false

/-- The rows that clear event flags or change enables (R187). -/
def Instr.clearsEvents : Instr → Bool
  | .powerOn | .resetNAssert | .reset _ | .readEvents _ => true
  | _ => false

/-- The rows that change the configuration or the sweep's geometry (R1, R6, R122). -/
def Instr.setsGeometry : Instr → Bool
  | .powerOn | .resetNAssert | .reset _ | .configure _ | .arm _ => true
  | _ => false

end Sys2Proof
end

