-- ==== Sys2Proof/Certificates/Slice0/Obligations.lean ====
section
/-! DEFINITION. The statements for the provers, from the manual's numbered rules. -/

open Sys2Proof Sys2Proof.Machine

/-! ### The step, the queue and what every run keeps -/

/-- A step takes the command at the front of the queue and is exec of it on the state with the queue's rest. On an
empty queue the block idles. The model's choice (log 1). -/
def Obligations.StepRunsTheFrontCommand : Prop :=
  (∀ (c : Instr) (rest : List Instr) (s : State),
     step { s with pending := c :: rest } = exec c { s with pending := rest }) ∧
  (∀ s : State, s.pending = [] → step s = .next s)

/-- From a state in which memory present, configuration and work in progress agree as R7 to R9 have it, a step always
answers a next state, and that state agrees again: no step faults and none is refused (log 31). -/
def Obligations.EveryStepAnswersANextState : Prop :=
  ∀ s : State, MemoryReady s → ∃ t, step s = .next t ∧ MemoryReady t

/-- *started* = *placed* + *dropped* + *set aside* + the number of banks FILLING, QUEUED or MATCHING, at reset and
kept by every step (R27). While HELD the held cause's flag is set, kept by every step (R121). -/
def Obligations.CountsBalanceAndHeldCauseKeepsItsFlag : Prop :=
  (∀ s t : State, CountLaw s → step s = .next t → CountLaw t) ∧ CountLaw State.reset ∧
  (∀ s t : State, HeldLaw s → step s = .next t → HeldLaw t)

/-- ATTN is asserted exactly when some flag is set and enabled, kept by every step; at reset it is
deasserted (R188). -/
def Obligations.AttnFollowsFlagsAndEnables : Prop :=
  (∀ s t : State, AttnLaw s → step s = .next t → AttnLaw t) ∧ State.reset.li.attn = false

/-- No bin list comes to hold more than 8 indices (R34). 256 entries, and the live, pinned and origin counts stay the
numbers of such records (R33). The window keeps at most 8 records with no serial twice (R87). CW/64 bin lists and
CW/32 coverage entries, whatever is configured, armed or rolled back (R6, R34, R104). -/
def Obligations.TablesKeepTheirCountsAndSizes : Prop :=
  (∀ s t : State, BinLaw s → step s = .next t → BinLaw t) ∧
  (∀ s t : State, TableLaw s → step s = .next t → TableLaw t) ∧
  (∀ s t : State, WindowLaw s → step s = .next t → WindowLaw t) ∧
  (∀ s t : State, SizeLaw s → step s = .next t → SizeLaw t)

/-- The Directive Reader's pointers, budget and fault offset stay in their ranges (chapter 9, R165). The line buffer
holds at most one waiting and one filling segment, and is empty in AWAIT, so that nothing is written into a bank that
is no longer FILLING (R15, R24); that a full segment is 64 bytes is the model's choice (log 7). -/
def Obligations.ReaderAndLineBufferStayInRange : Prop :=
  (∀ s t : State, ReaderLaw s → step s = .next t → ReaderLaw t) ∧
  (∀ s t : State, BufferLaw s → step s = .next t → BufferLaw t)

/-- The commit line never moves behind, but at a reset, ARM, RELEASE, ABORT's clear step and a rollback's replace step
(R105). -/
def Obligations.CommitLineOnlyMovesAhead : Prop :=
  ∀ (c : Instr) (s t : State), c.restartsLine = false → exec c s = .next t → s.bu.commitLine ≤ t.bu.commitLine

/-- Canvas memory keeps its canonical form (log 6). Frame of canvas memory: every byte reads as before after every row
but the six that store to memory or lose its contents (R4, R10, R24). That CHECKPOINT and COPY_PHASE store no byte
rests on the image being held as a record (log 11). -/
def Obligations.MemoryStaysAsItWas : Prop :=
  (∀ s t : State, s.mem.wf → step s = .next t → t.mem.wf) ∧
  (∀ (c : Instr) (s t : State), c.writesMemory = false → exec c s = .next t →
     ∀ a, t.mem.read a = s.mem.read a)

/-- Frame of the event flags: a flag set stays set after every row but READ EVENTS and the resets, and only those and
SET EVENT ENABLES change an enable (R187). -/
def Obligations.EventFlagsStaySet : Prop :=
  ∀ (c : Instr) (s t : State), c.clearsEvents = false → exec c s = .next t →
    (∀ e : Event, s.li.events.getLsbD e.bit = true → t.li.events.getLsbD e.bit = true) ∧
    ((∀ p, c ≠ .setEventEnables p) → t.li.enables = s.li.enables)

/-- Frame of the queue and of the geometry: no command touches the queue (log 32); only CONFIGURE, ARM and
the resets change configuration, direction and starts, and only the resets and die sensing the presence map
(R1, R6, R7, R122). -/
def Obligations.QueueAndGeometryAreKept : Prop :=
  ∀ (c : Instr) (s t : State), exec c s = .next t →
    t.pending = s.pending ∧
    (c.setsGeometry = false → t.geo = s.geo) ∧
    (c ≠ .powerOn → c ≠ .resetNAssert → (∀ d, c ≠ .dieSensingComplete d) → t.ma.dies = s.ma.dies)

/-! ### Resets (R7, R190, R191) -/

/-- The values the manual gives for the end of the power-on reset (R190 and the reset tables of the chapters). Values
the manual does not give (log 5, log 23) are left out, but that the two slots hold no image, where their contents are
undefined, is the model's choice (log 11). The laws that every step keeps hold in that state. -/
def Obligations.ResetValuesAndLawsAtReset : Prop :=
  State.reset.geo.cw = 8192 ∧ State.reset.geo.ch = 1280 ∧ State.reset.geo.fw = 768 ∧ State.reset.geo.fh = 1024 ∧
  State.reset.geo.startCol = 0 ∧ State.reset.geo.direction = .east ∧
  State.reset.prm = ⟨10, 24, 6, 4, 3, 3, 8, 16, 128, 256, 32, 400, 24, true, 8, 32⟩ ∧
  State.reset.mem.cells = [] ∧ State.reset.ma.rotation = .link ∧ State.reset.ma.refreshDue = false ∧
  State.reset.pi.port = none ∧ State.reset.pi.waiting = [] ∧ State.reset.pi.filling = [] ∧
  State.reset.pi.serial = 0#16 ∧ State.reset.pi.queue = [] ∧
  (∀ b, (State.reset.bank b).state = .free ∧ (State.reset.bank b).serial = none ∧ (State.reset.bank b).guide = [] ∧
    (State.reset.bank b).cands = []) ∧
  State.reset.ltc.entries = List.replicate 256 ⟨0#4, none⟩ ∧ State.reset.ltc.bins = List.replicate 128 [] ∧
  State.reset.ltc.live = 0 ∧ State.reset.ltc.pinned = 0 ∧ State.reset.ltc.origin = 0 ∧
  State.reset.me = ⟨[], none, .locked, 0, none⟩ ∧ State.reset.pw = [] ∧
  State.reset.bu = ⟨List.replicate 256 .blank, -32, none, none, none⟩ ∧
  State.reset.sc.sweep = .idle ∧ State.reset.sc.flags = 0#8 ∧ State.reset.sc.masks = 255#8 ∧
  State.reset.sc.progress = 0 ∧ State.reset.sc.mark0 = ⟨0, .signal, false⟩ ∧ State.reset.sc.mark1 = ⟨0, .signal, false⟩ ∧
  State.reset.sc.capture = ⟨0, none, 0#16, .none, false, false⟩ ∧ State.reset.sc.captureFinish = false ∧
  State.reset.sc.pace = false ∧ State.reset.sc.cue = false ∧ State.reset.sc.closure = ⟨.none, 0, 0, 0, 0#16, 0, none⟩ ∧
  State.reset.sc.started = 0#32 ∧ State.reset.sc.placed = 0#32 ∧ State.reset.sc.dropped = 0#32 ∧
  State.reset.sc.setAside = 0#32 ∧ State.reset.sc.last = ⟨0#16, .none, 0, 0, 0, 0, 0, 0⟩ ∧
  State.reset.dr.startPtr = 0 ∧ State.reset.dr.enabled = false ∧ State.reset.dr.budget = 0 ∧
  State.reset.dr.fault = none ∧ State.reset.dr.gap = none ∧
  State.reset.cx.slot0 = ⟨.empty, none, none⟩ ∧ State.reset.cx.slot1 = ⟨.empty, none, none⟩ ∧
  State.reset.cx.lastResult = .none ∧ State.reset.cx.lastSlot = none ∧ State.reset.cx.op = .none ∧
  State.reset.eu.state = .idle ∧ State.reset.eu.linesSent = 0 ∧ State.reset.eu.result = .none ∧
  State.reset.li.reply = ⟨.resetDone, [1#8]⟩ ∧ State.reset.li.processing = none ∧ State.reset.li.events = 0#14 ∧
  State.reset.li.enables = 0#14 ∧ State.reset.li.attn = false ∧
  (MemoryReady State.reset ∧ CountLaw State.reset ∧ AttnLaw State.reset ∧ HeldLaw State.reset ∧
    State.reset.mem.wf ∧ BinLaw State.reset ∧ TableLaw State.reset ∧ WindowLaw State.reset ∧ SizeLaw State.reset ∧
    ReaderLaw State.reset ∧ BufferLaw State.reset)

/-- POWER_ON, RESET_N_ASSERT and RESET_N_RISES: the whole part takes its reset values, canvas memory loses its
contents, no die is recorded and sensing is under way; RESET_N's level is kept by a power-on (log 25) and a
transaction in progress at RESET_N becomes one that received PENDING (log 22); a rise only ends the low level.
DIE_SENSING_COMPLETE: with RESET_N high the map is recorded, the reset is over and the reply register holds RESET_DONE
with the cause; with RESET_N low, or with no sensing under way, nothing changes (R7, R190, log 2). A reset that comes
during another's sensing replaces its cause (log 37). Among the reset values, those of log 23 and that a slot holds no
image (log 11) are the model's choice. -/
def Obligations.PowerPinAndSensing : Prop :=
  (∀ s : State,
     exec .powerOn s = .next { State.reset with
       mem := ⟨[], s.mem.epoch + 1⟩
       ma := ⟨0#4, .link, false, some .powerOn, s.ma.resetLow⟩
       li := ⟨⟨.done, []⟩, none, none, 0#14, 0#14, false⟩
       port := s.port, free := s.free, pending := s.pending } ∧
     exec .resetNAssert s = .next { State.reset with
       mem := ⟨[], s.mem.epoch + 1⟩
       ma := ⟨0#4, .link, false, some .pin, true⟩
       li := ⟨⟨.done, []⟩, none, s.li.transaction.map (fun _ => ⟨.pending, []⟩), 0#14, 0#14, false⟩
       port := s.port, free := s.free, pending := s.pending } ∧
     exec .resetNRises s = .next { s with ma := { s.ma with resetLow := false } }) ∧
  (∀ (dies : BitVec 4) (s : State),
     (∀ cause, s.ma.sensing = some cause → s.ma.resetLow = false →
       exec (.dieSensingComplete dies) s = .next { s with
         ma := { s.ma with dies := dies, sensing := none }
         li := { s.li with reply := ⟨.resetDone, [byteOf cause.code]⟩, processing := none } }) ∧
     (s.ma.resetLow = true → exec (.dieSensingComplete dies) s = .next s) ∧
     (s.ma.sensing = none → exec (.dieSensingComplete dies) s = .next s))

/-- The RESET command: everything takes its reset value but canvas memory, the presence map, a due refresh and the
slot table, in which a SAVING slot of the save under way becomes EMPTY and the operation NONE, both slot images kept
(R191, R175). The reset values of log 23 are the model's choice. -/
def Obligations.ResetCommandKeepsMemoryAndSlots : Prop :=
  ∀ s : State, s.delivers .reset [] = true →
    ∃ t, exec (.reset []) s = .next t ∧
      t = { State.reset with
        mem := s.mem
        ma := ⟨s.ma.dies, .link, s.ma.refreshDue, s.ma.sensing, s.ma.resetLow⟩
        cx := t.cx
        li := ⟨⟨.resetDone, [3#8]⟩, none, s.li.transaction, 0#14, 0#14, false⟩
        port := s.port, free := s.free, pending := s.pending } ∧
      t.cx.op = .none ∧ t.cx.lastResult = s.cx.lastResult ∧ t.cx.lastSlot = s.cx.lastSlot ∧
      ∀ k, t.cx.slot k =
        if s.cx.op = .quiet k ∨ (∃ v, s.cx.op = .copy k v) then ⟨.empty, none, (s.cx.slot k).image⟩ else s.cx.slot k

/-! ### The arbiter (R11 to R14) -/

/-- FIRST_SLOT: PI first, then a due refresh, otherwise the slot is granted exactly as a second slot; a slot granted
to PI or to refresh leaves the rotation pointer (R11). -/
def Obligations.FirstSlotOrder : Prop :=
  ∀ s : State,
    (s.pi.waiting ≠ [] → s.memoryFits = true → exec .firstSlot s = .next { s with
      mem := s.mem.writeAll s.pi.waiting, pi := { s.pi with waiting := [] } }) ∧
    (s.pi.waiting = [] → s.ma.refreshDue = true →
      exec .firstSlot s = .next { s with ma := { s.ma with refreshDue := false } }) ∧
    (s.pi.waiting = [] → s.ma.refreshDue = false → exec .firstSlot s = exec .secondSlot s)

/-- SECOND_SLOT: DR first; otherwise the first ring member with a burst waiting, after the one the pointer names, is
granted and named; with nobody waiting nothing changes (R12). The burst completes in its slot and is one read or one
write of up to 64 bytes (R10): BU's reads samples of the pass that measures, or reads the bytes from which the next 64
of the block or join column are formed, or writes those 64, beginning a block or column that has not begun (R107); EU
goes along its line (State.fetchBurst, which ExportJobSendsItsLines describes); LINK's completes its command (R13). A
stop withdraws BU's burst at a block or join boundary, while a pass that measures and a block or column begun go on; a
job that stops keeps the bursts of its line in progress (R16, R107, R118, R151, R158). Which bytes a burst takes, and
that a unit waits while it has bytes left, is the model's choice (log 8). So it is that CX's burst, in a copy too, only
counts 64 bytes of an image of 1 byte to 8 KiB and leaves every byte of memory as it was (log 11). REFRESH_DUE: an
expiry makes a refresh due; while dies are sensed the timer does not run (R14). -/
def Obligations.SecondSlotAndRefresh : Prop :=
  (∀ s : State,
     (s.readerWaits = true → s.memoryFits = true → exec .secondSlot s = .next { s with dr := { s.dr with
       gap := s.dr.gap.map fun g => { g with
         word := some ⟨wordOfBytes (s.mem.bytes (s.directiveBase + 4 * s.dr.readPtr) 4), s.geo.nBins⟩ } } }) ∧
     (s.stopping = true → (∀ j, s.bu.join = some j → j.move = ⟨0, []⟩) →
       (∀ b, s.bu.pass = some b → (∀ read, b.stage ≠ .measuring read) ∧ ∀ a rest t, b.stage ≠ .inBlock a rest t) →
       s.ringWaits .bu = false) ∧
     (∀ b, s.bu.join = none → s.bu.pass = some b →
       (∀ read r, b.stage = .measuring read → s.record b.serial = some r →
         (s.ringWaits .bu = true ↔ read.length < (s.sampleAddrs b r).length)) ∧
       (∀ a rest t, b.stage = .inBlock a rest t →
         (s.ringWaits .bu = true ↔ t.written < (s.blockOutputs b a).length)) ∧
       (∀ a rest, b.stage = .writing (a :: rest) → s.stopping = false → (s.ringWaits .bu = true ↔
         s.coverageAt (s.geo.blockAt a) ≠ .committed ∧
         max 0 b.y0 ≤ min ((s.geo.ch : Int) - 1) (b.y0 + s.geo.fh - 1) ∧ s.blockOutputs b a ≠ []))) ∧
     (∀ j, s.bu.join = some j → s.stopping = false ∨ j.move ≠ ⟨0, []⟩ →
       (s.ringWaits .bu = true ↔ j.move.written < (s.joinOutputs j j.next).length)) ∧
     (∀ k, (∃ v, s.cx.op = .copy k v) ∨ (s.cx.op = .verify k ∧ (s.cx.slot k).state = .valid) → s.cx.moved = 0 →
       s.ringWaits .cx = true) ∧
     (((∀ k v, s.cx.op ≠ .copy k v) ∧ ∀ k, s.cx.op ≠ .verify k) ∨ 8192 ≤ s.cx.moved → s.ringWaits .cx = false) ∧
     (s.readerWaits = false → (∀ r, s.ringWaits r = false) → exec .secondSlot s = .next s) ∧
     (∀ before r after named, s.readerWaits = false → s.ma.rotation.after = before ++ r :: after →
       (∀ q ∈ before, s.ringWaits q = false) → s.ringWaits r = true → s.memoryFits = true →
       named = { s with ma := { s.ma with rotation := r } } →
       (r = .cx → exec .secondSlot s = .next { named with cx := { s.cx with moved := s.cx.moved + 64 } }) ∧
       (∀ (j : Join) (os : List Output), r = .bu → s.bu.join = some j → os = s.joinOutputs j j.next →
         exec .secondSlot s = .next { named with
           mem := s.mem.writeAll (j.move.cells os)
           bu := { s.bu with join := some { j with move := s.advance j.move os } } }) ∧
       (∀ b, r = .bu → s.bu.join = none → s.bu.pass = some b →
         (∀ read rec, b.stage = .measuring read → s.record b.serial = some rec →
           exec .secondSlot s = .next { named with bu := { s.bu with pass := some { b with
             stage := .measuring (read ++ (((s.sampleAddrs b rec).drop read.length).take 64).map s.mem.read) } } }) ∧
         (∀ (a : Nat) (rest : List Nat) (t : Transfer) (os : List Output),
           (b.stage = .writing (a :: rest) ∧ t = ⟨0, []⟩) ∨ b.stage = .inBlock a rest t → os = s.blockOutputs b a →
           exec .secondSlot s = .next { named with
             mem := s.mem.writeAll (t.cells os)
             bu := { s.bu with pass := some { b with stage := .inBlock a rest (s.advance t os) } } })) ∧
       (r = .eu → exec .secondSlot s = .next named.fetchBurst) ∧
       (∀ offset bytes, r = .link → s.li.processing = some (.linkWrite offset bytes) →
         exec .secondSlot s = .next { named with
           mem := s.mem.writeAll (cellsAt (s.directiveBase + 4 * offset) bytes)
           li := { s.li with reply := ⟨.done, []⟩, processing := none } }) ∧
       (∀ offset count, r = .link → s.li.processing = some (.linkRead offset count) →
         exec .secondSlot s = .next { named with
           li := { s.li with
             reply := ⟨.done, s.mem.bytes (s.directiveBase + 4 * offset) (4 * count)⟩, processing := none } }))) ∧
  (∀ (s : State) (t : Transfer) (os chunk : List Output) (addrs : List Nat),
     (∃ j i, os = s.joinOutputs j i) ∨ (∃ b a, os = s.blockOutputs b a) → chunk = (os.drop t.written).take 64 →
     addrs = chunk.flatMap Output.sources →
     (t.held.length < addrs.length → t.cells os = [] ∧
       s.advance t os = ⟨t.written, t.held ++ ((addrs.drop t.held.length).take 64).map s.mem.read⟩) ∧
     (∀ read : Nat → Byte, t.held = addrs.map read →
       t.cells os = chunk.map (fun o => (o.target, o.form read)) ∧
       s.advance t os = ⟨t.written + chunk.length, []⟩)) ∧
  (∀ s : State,
     (s.ma.sensing = none → exec .refreshDue s = .next { s with ma := { s.ma with refreshDue := true } }) ∧
     (s.ma.sensing.isSome = true → exec .refreshDue s = .next s))

/-! ### The link (R184, R185) -/

/-- TRANSACTION_START: with no command being processed and no reset under way the outbound part is the reply register,
which becomes the empty reply; otherwise it is PENDING and the register stays. CS_N low already: nothing falls.
TRANSACTION_END: after PENDING nothing is taken; otherwise a length byte above 80 is refused with BAD_LENGTH, a short
transaction is discarded, and a complete one is taken: its command becomes the one being processed, with the bytes
after the declared ones ignored (R184, R185). RESUME's mode byte names its row (log 4). -/
def Obligations.TransactionsTakeCommands : Prop :=
  (∀ s : State,
     (s.li.transaction = none → s.li.processing = none → s.ma.sensing = none →
       exec .transactionStart s = .next { s with li := { s.li with
         transaction := some s.li.reply, reply := ⟨.done, []⟩ } }) ∧
     (s.li.transaction = none → (s.li.processing.isSome = true ∨ s.ma.sensing.isSome = true) →
       exec .transactionStart s = .next { s with li := { s.li with transaction := some ⟨.pending, []⟩ } }) ∧
     (s.li.transaction.isSome = true → exec .transactionStart s = .next s)) ∧
  (∀ (s : State) (out : Reply), s.li.transaction = some out →
     (∀ bytes, out.status = .pending → exec (.transactionEnd bytes) s = .next { s with li := { s.li with
       transaction := none } }) ∧
     (out.status ≠ .pending → s.li.processing = none → s.ma.sensing = none →
       (∀ code n rest, 80 < n.toNat → exec (.transactionEnd (code :: n :: rest)) s = .next { s with li := { s.li with
         transaction := none, reply := ⟨.refused, [2#8]⟩ } }) ∧
       (∀ bytes, bytes.length < 2 → exec (.transactionEnd bytes) s = .next { s with li := { s.li with
         transaction := none } }) ∧
       (∀ (code n : Byte) rest, n.toNat ≤ 80 → rest.length < n.toNat →
         exec (.transactionEnd (code :: n :: rest)) s = .next { s with li := { s.li with transaction := none } }) ∧
       (∀ (code n : Byte) rest, n.toNat ≤ 80 → n.toNat ≤ rest.length →
         (∀ c p, linkTake code.toNat (rest.take n.toNat) = .take c p →
           exec (.transactionEnd (code :: n :: rest)) s = .next { s with li := { s.li with
             transaction := none, processing := some (.taken c p) } }) ∧
         (∀ r, linkTake code.toNat (rest.take n.toNat) = .refuse r →
           exec (.transactionEnd (code :: n :: rest)) s = .next { s with li := { s.li with
             transaction := none, reply := ⟨.refused, [byteOf r.code]⟩ } }))))

/-- The command codes of the command table (11.5), each with its row; any other code but RESUME's is refused with
UNKNOWN_COMMAND; RESUME's first byte names the mode, its row by log 4 (R128). That a byte that names no mode is
BAD_VALUE whatever length follows it is the model's choice (log 41). -/
def Obligations.CommandCodesNameTheirCommands : Prop :=
  (∀ p, [(0x00, HostCommand.nop), (0x01, .readIdentity), (0x02, .readStatus), (0x03, .readEvents),
    (0x04, .setEventEnables), (0x05, .reset), (0x10, .configure), (0x11, .setParameters), (0x12, .setMasks),
    (0x13, .clearConditions), (0x20, .arm), (0x21, .finish), (0x22, .abort), (0x24, .release), (0x25, .hint),
    (0x26, .setMark), (0x27, .readCapture), (0x28, .setCaptureAction), (0x30, .readLandmark), (0x31, .findLandmarks),
    (0x32, .examineLandmark), (0x33, .pinLandmark), (0x34, .unpinLandmark), (0x35, .retireLandmark),
    (0x36, .retireRegion), (0x38, .readPlacement), (0x39, .readCoverage), (0x3A, .readClosure),
    (0x40, .writeDirectives), (0x41, .readDirectives), (0x42, .setList), (0x48, .checkpoint), (0x49, .rollback),
    (0x4A, .readSlots), (0x50, .exportStart), (0x51, .exportStop)].all
      (fun e => decide (linkTake e.1 p = .take e.2 p)) = true) ∧
  (∀ code p, code < 256 → code ∉ [0x00, 0x01, 0x02, 0x03, 0x04, 0x05, 0x10, 0x11, 0x12, 0x13, 0x20, 0x21, 0x22, 0x23,
    0x24, 0x25, 0x26, 0x27, 0x28, 0x30, 0x31, 0x32, 0x33, 0x34, 0x35, 0x36, 0x38, 0x39, 0x3A, 0x40, 0x41, 0x42, 0x48,
    0x49, 0x4A, 0x50, 0x51] → linkTake code p = .refuse .unknownCommand) ∧
  linkTake 0x23 [] = .refuse .badLength ∧
  ∀ rest, linkTake 0x23 (0#8 :: rest) = .take .resumeAccept rest ∧ linkTake 0x23 (1#8 :: rest) = .take .resumeSkip rest ∧
    linkTake 0x23 (2#8 :: rest) = .take .resumePlace rest ∧ linkTake 0x23 (3#8 :: rest) = .take .resumeRollback rest ∧
    ∀ m : Byte, 3 < m.toNat → linkTake 0x23 (m :: rest) = .refuse .badValue

/-! ### Commands without checks of their own -/

/-- NOP, READ IDENTITY, READ STATUS, READ CLOSURE and READ SLOTS answer DONE and change nothing else: no byte; part
code, revision, memory present and map; the 59 bytes of the status record; the 18 of the closure record; the 12 of the
slot table, each field in its place and with its code (R148, R183, R189, 11.5). -/
def Obligations.ReadsAnswerAndChangeNothing : Prop :=
  ∀ (s : State) (answers : List Byte → State),
    answers = (fun data => { s with li := { s.li with reply := ⟨.done, data⟩, processing := none } }) →
    (s.delivers .nop [] = true → exec (.nop []) s = .next (answers [])) ∧
    (s.delivers .readIdentity [] = true → exec (.readIdentity []) s = .next (answers
      [0x2C#8, 0x41#8, 1#8, byteOf (presentUnits s.ma.dies), byteOf s.ma.dies.toNat])) ∧
    (s.delivers .readStatus [] = true → ∀ data,
      data = [byteOf (match s.sc.sweep with
          | .idle => 0 | .armed => 1 | .sweeping => 2 | .held _ => 3 | .closing => 4 | .finished => 5),
        byteOf (match s.sc.sweep with | .held c => c.bit | _ => 8),
        byteOf (match s.me.mode with | .locked => 0 | .coasting => 1 | .searching => 2),
        s.sc.flags, s.sc.masks] ++
        leBytes 2 s.sc.progress ++ leSigned 2 s.bu.commitLine ++
        (match s.bu.reference with | some r => leSigned 2 (r.t + s.geo.fw) | none => [0xFF#8, 0xFF#8]) ++
        [byteOf s.pw.length] ++ leBytes 2 s.ltc.live ++ [byteOf s.ltc.pinned, byteOf s.ltc.origin] ++
        ([s.bank .b0, s.bank .b1, s.bank .b2].map fun k => byteOf (match k.state with
          | .free => 0 | .filling => 1 | .queued => 2 | .matching => 3 | .placed => 4 | .blending => 5)) ++
        leBytes 4 s.sc.started.toNat ++ leBytes 4 s.sc.placed.toNat ++ leBytes 4 s.sc.dropped.toNat ++
        leBytes 4 s.sc.setAside.toNat ++ leBytes 2 s.sc.last.serial.toNat ++
        [byteOf (match s.sc.last.outcome with
          | .none => 0 | .origin => 1 | .placed => 2 | .predicted => 3 | .hostPlaced => 4 | .dwell => 5 | .reversed => 6
          | .unplaced => 7 | .discarded => 8 | .canvasEnd => 9 | .droppedBusy => 10 | .droppedHeld => 11
          | .droppedClosing => 12 | .damaged => 13 | .abandoned => 14)] ++
        leSigned 4 s.sc.last.x ++ leSigned 4 s.sc.last.y ++ [byteOf s.sc.last.inliers, byteOf s.sc.last.admitted] ++
        leBytes 2 s.sc.last.stale ++ leSigned 2 s.sc.last.step ++
        [byteOf (match s.eu.state with | .idle => 0 | .running => 1 | .stopping => 2),
        byteOf (match s.eu.result with | .none => 0 | .complete => 1 | .stopped => 2)] ++
        (match s.dr.fault with | some n => leBytes 2 n | none => [0xFF#8, 0xFF#8]) ++
        ([s.cx.slot0, s.cx.slot1].map fun k => byteOf (match k.state with | .empty => 0 | .saving => 1 | .valid => 2)) ++
        [byteOf ((if s.sc.pace then 1 else 0) + if s.sc.cue then 2 else 0)] →
      data.length = 59 ∧ exec (.readStatus []) s = .next (answers data)) ∧
    (s.delivers .readClosure [] = true → ∀ data,
      data = [byteOf (match s.sc.closure.state with | .none => 0 | .detected => 1 | .joined => 2)] ++
        leSigned 2 s.sc.closure.ce ++ leSigned 2 s.sc.closure.ry ++ [byteOf s.sc.closure.votes] ++
        leBytes 2 s.sc.closure.serial.toNat ++ [byteOf s.sc.closure.rejections] ++
        (match s.sc.closure.last with
          | some r => 1#8 :: leBytes 2 r.serial.toNat ++ leSigned 2 r.ce ++ leSigned 2 r.ry ++ [byteOf r.votes,
            byteOf (match r.reason with | .residual => 1 | .circumference => 2)]
          | none => List.replicate 9 0#8) →
      data.length = 18 ∧ exec (.readClosure []) s = .next (answers data)) ∧
    (s.delivers .readSlots [] = true → ∀ data,
      data = ([s.cx.slot0, s.cx.slot1].flatMap fun k =>
          byteOf (match k.state with | .empty => 0 | .saving => 1 | .valid => 2) :: (match k.saveSerial with
            | some v => 1#8 :: leBytes 2 v.toNat
            | none => [0#8, 0#8, 0#8])) ++
        [byteOf (match s.cx.lastResult with
          | .none => 0 | .ok => 1 | .badImage => 2 | .slotEmpty => 3 | .cancelled => 4),
        (match s.cx.lastSlot with | some .s0 => 0#8 | some .s1 => 1#8 | none => 0xFF#8)] ++
        (match s.cx.op with
          | .none => [0#8, 0xFF#8]
          | .quiet k | .copy k _ => [1#8, byteOf k.code]
          | .verify k => [2#8, byteOf k.code]
          | .apply k => [3#8, byteOf k.code]) →
      data.length = 12 ∧ exec (.readSlots []) s = .next (answers data))

/-- READ EVENTS returns the flags and clears them; SET EVENT ENABLES replaces the enables, and refuses a set bit at
position 14 or 15; ATTN is driven in the same step (R187, R188). SET MASKS replaces all eight masks, CLEAR CONDITIONS
clears every flag but, while HELD, the held cause's; both answer DONE in any sweep state and change nothing else
(R126, R127). -/
def Obligations.EventAndConditionFlags : Prop :=
  (∀ s : State,
     (s.delivers .readEvents [] = true → exec (.readEvents []) s = .next { s with li := { s.li with
       events := 0#14, attn := false, reply := ⟨.done, leBytes 2 s.li.events.toNat⟩, processing := none } }) ∧
     (∀ a b : Byte, s.delivers .setEventEnables [a, b] = true → b.toNat < 64 → exec (.setEventEnables [a, b]) s =
       .next { s with li := { s.li with
         enables := BitVec.ofNat 14 (a.toNat + 256 * b.toNat)
         attn := s.li.events &&& BitVec.ofNat 14 (a.toNat + 256 * b.toNat) != 0#14
         reply := ⟨.done, []⟩, processing := none } }) ∧
     (∀ a b : Byte, s.delivers .setEventEnables [a, b] = true → 64 ≤ b.toNat → exec (.setEventEnables [a, b]) s =
       .next { s with li := { s.li with reply := ⟨.refused, [3#8]⟩, processing := none } })) ∧
  (∀ s : State,
     (∀ m : Byte, s.delivers .setMasks [m] = true → exec (.setMasks [m]) s = .next { s with
       sc := { s.sc with masks := m }, li := { s.li with reply := ⟨.done, []⟩, processing := none } }) ∧
     (s.delivers .clearConditions [] = true → s.sc.sweep.isHeld = false → exec (.clearConditions []) s = .next { s with
       sc := { s.sc with flags := 0#8 }, li := { s.li with reply := ⟨.done, []⟩, processing := none } }) ∧
     (∀ c, s.delivers .clearConditions [] = true → s.sc.sweep = .held c → exec (.clearConditions []) s = .next { s with
       sc := { s.sc with flags := s.sc.flags &&& c.mask }, li := { s.li with reply := ⟨.done, []⟩, processing := none } }))

/-! ### Configuration, parameters, ARM (R5, R6, R122, R186) -/

/-- CONFIGURE: the eight checks in their order, and what an accepted one changes: the four values, a BLANK coverage
map of CW/32 entries and CW/64 empty bin lists (R5, R6, R9). That a STOPPING export job counts as running is the
model's reading (log 28). The fixed regions lie from the top of memory present downward, and in a configuration that
was accepted the canvas ends at or below the lowest of them (R9); what lies in a slot is held as a record (log 11). -/
def Obligations.ConfigureChecksAndLaysOut : Prop :=
  (∀ (s : State) (p : List Byte) (cw ch fw fh : Nat), s.delivers .configure p = true → p.length = 8 →
    u16At p 0 = cw → u16At p 2 = ch → u16At p 4 = fw → u16At p 6 = fh →
    exec (.configure p) s = .next
      (if s.sc.sweep ≠ .idle then s.refuse .wrongState
      else if s.eu.state ≠ .idle ∨ s.cx.op ≠ .none then s.refuse .busy
      else if ¬(cw % 512 = 0 ∧ 2048 ≤ cw ∧ cw ≤ 16384) then s.refuse .badValue
      else if ¬(ch % 64 = 0 ∧ 512 ≤ ch ∧ ch ≤ 2048) then s.refuse .badValue
      else if ¬(fw % 32 = 0 ∧ 512 ≤ fw ∧ fw ≤ 1024) then s.refuse .badValue
      else if ¬(fh % 16 = 0 ∧ 384 ≤ fh ∧ fh ≤ 1536 ∧ fh ≤ ch) then s.refuse .badValue
      else if presentUnits s.ma.dies = 0 then s.refuse .noMemory
      else if presentUnits s.ma.dies * 33554432 < cw * ch * 3 / 2 + 20480 + 3 * (fw * fh * 3 / 2) then
        s.refuse .noMemory
      else { s with
        geo := { s.geo with cw := cw, ch := ch, fw := fw, fh := fh }
        bu := { s.bu with coverage := List.replicate (cw / 32) .blank }
        ltc := { s.ltc with bins := List.replicate (cw / 64) [] }
        li := { s.li with reply := ⟨.done, []⟩, processing := none } })) ∧
  (∀ (s : State) (m b : Nat), s.hasMemory = true → m = 33554432 * presentUnits s.ma.dies →
    b = s.geo.fw * s.geo.fh * 3 / 2 →
    s.slotBase .s1 = m - 8192 ∧ s.slotBase .s0 = m - 16384 ∧ s.directiveBase = m - 20480 ∧
    s.bankBase .b0 = m - 20480 - b ∧ s.bankBase .b1 = m - 20480 - 2 * b ∧ s.bankBase .b2 = m - 20480 - 3 * b ∧
    (s.geo.fitsIn m = true → s.geo.cw * s.geo.ch * 3 / 2 ≤ s.bankBase .b2 ∧ s.bankBase .b2 + 3 * b + 20480 = m))

/-- SET PARAMETERS: WRONG_STATE outside IDLE and HELD, BAD_VALUE for a value outside its range, a CLOSE_ENABLE word
other than 0 and 1 among them, otherwise all sixteen parameters take the values given and nothing else changes (R186,
00 Host parameters). -/
def Obligations.ParametersAreReplacedTogether : Prop :=
  (∀ (s : State) (q : Params), s.delivers .setParameters
      ([q.matchDist, q.searchRadius, q.minInliers, q.anchorHits, q.missLimit, q.predictLimit, q.minStep, q.reverseTol,
        q.minOverlap, q.paceLimit, q.feather, q.cornerMin, q.admitMax, q.closeEnable.toNat, q.closeMin,
        q.closeVtol].flatMap (leBytes 2)) = true →
    (∀ n ∈ [q.matchDist, q.searchRadius, q.minInliers, q.anchorHits, q.missLimit, q.predictLimit, q.minStep,
      q.reverseTol, q.minOverlap, q.paceLimit, q.feather, q.cornerMin, q.admitMax, q.closeMin, q.closeVtol],
      n < 65536) →
    exec (.setParameters
      ([q.matchDist, q.searchRadius, q.minInliers, q.anchorHits, q.missLimit, q.predictLimit, q.minStep, q.reverseTol,
        q.minOverlap, q.paceLimit, q.feather, q.cornerMin, q.admitMax, q.closeEnable.toNat, q.closeMin,
        q.closeVtol].flatMap (leBytes 2))) s = .next
      (if s.sc.sweep ≠ .idle ∧ s.sc.sweep.isHeld = false then s.refuse .wrongState
      else if ¬(4 ≤ q.matchDist ∧ q.matchDist ≤ 20 ∧ 8 ≤ q.searchRadius ∧ q.searchRadius ≤ 64 ∧ 4 ≤ q.minInliers ∧
        q.minInliers ≤ 16 ∧ 3 ≤ q.anchorHits ∧ q.anchorHits ≤ 8 ∧ 2 ≤ q.missLimit ∧ q.missLimit ≤ 7 ∧
        1 ≤ q.predictLimit ∧ q.predictLimit ≤ 7 ∧ 4 ≤ q.minStep ∧ q.minStep ≤ 32 ∧ q.reverseTol ≤ 64 ∧
        64 ≤ q.minOverlap ∧ q.minOverlap ≤ 512 ∧ 32 ≤ q.paceLimit ∧ q.paceLimit ≤ 1023 ∧
        q.feather ∈ [0, 8, 16, 32, 64] ∧ q.admitMax ≤ 48 ∧ 6 ≤ q.closeMin ∧ q.closeMin ≤ 24 ∧ q.closeVtol ≤ 64) then
        s.refuse .badValue
      else { s with prm := q, li := { s.li with reply := ⟨.done, []⟩, processing := none } })) ∧
  (∀ (s : State) (p : List Byte), s.delivers .setParameters p = true → p.length = 32 → 1 < u16At p 26 →
    exec (.setParameters p) s = .next
      (if s.sc.sweep ≠ .idle ∧ s.sc.sweep.isHeld = false then s.refuse .wrongState else s.refuse .badValue))

/-- ARM: the six checks in their order, and what an accepted one sets in one step, after a gap in progress has ended:
geometry of the sweep, counters and serial 0, Match Engine, Blend Unit and SC as R122 states; masks, marks and capture
action are kept (R122, R170). Port, queue and banks stand empty in IDLE; ARM leaves them so. -/
def Obligations.ArmBeginsASweep : Prop :=
  ∀ (s : State) (d a b c e : Byte) (col row : Nat), s.delivers .arm [d, a, b, c, e] = true →
    col = a.toNat + 256 * b.toNat → row = c.toNat + 256 * e.toNat →
    (s.sc.sweep ≠ .idle → exec (.arm [d, a, b, c, e]) s = .next (s.refuse .wrongState)) ∧
    (s.sc.sweep = .idle → s.cx.op ≠ .none → exec (.arm [d, a, b, c, e]) s = .next (s.refuse .busy)) ∧
    (s.sc.sweep = .idle → s.cx.op = .none →
      (1 < d.toNat ∨ s.geo.cw ≤ col ∨ (d = 0#8 ∧ col % 64 ≠ 0) ∨ (d = 1#8 ∧ col % 64 ≠ 63) ∨
        s.geo.ch < row + s.geo.fh → exec (.arm [d, a, b, c, e]) s = .next (s.refuse .badValue)) ∧
      (∀ dir, (d = 0#8 ∧ dir = .east ∧ col % 64 = 0) ∨ (d = 1#8 ∧ dir = .west ∧ col % 64 = 63) → col < s.geo.cw →
        row + s.geo.fh ≤ s.geo.ch →
        (s.hasMemory = false → exec (.arm [d, a, b, c, e]) s = .next (s.refuse .noMemory)) ∧
        (s.hasMemory = true → exec (.arm [d, a, b, c, e]) s = .next { s.closeGap with
          geo := { s.closeGap.geo with direction := dir, startCol := col, startRow := row }
          bu := ⟨List.replicate (s.closeGap.geo.cw / 32) .blank, -32, none, none, none⟩
          me := ⟨[], none, .locked, 0, none⟩
          pi := { s.closeGap.pi with
            port := none, waiting := [], filling := [], serial := 0#16, queue := []
            banks := ⟨s.closeGap.pi.banks.b0.freed, s.closeGap.pi.banks.b1.freed, s.closeGap.pi.banks.b2.freed⟩ }
          sc := { Control.empty with
            sweep := .armed, masks := s.closeGap.sc.masks, mark0 := s.closeGap.sc.mark0
            mark1 := s.closeGap.sc.mark1, captureFinish := s.closeGap.sc.captureFinish }
          li := { s.closeGap.li with reply := ⟨.done, []⟩, processing := none } })))

/-! ### FINISH, ABORT, RELEASE (R22, R133, R135, R136) -/

/-- FINISH in SWEEPING: the sweep becomes CLOSING, a storing bank is marked CLOSING where it had no mark, and every
QUEUED frame is released as DROPPED_CLOSING with its bank FREE; the pass, the window, coverage, table and memory stand
(R22, R26, R133). FINISH elsewhere: WRONG_STATE outside ARMED, SWEEPING and HELD; BUSY during a verify or apply; in
ARMED the sweep goes to FINISHED with the event; in HELD it goes to CLOSING and a frame held at the judge or the push
is DISCARDED, its bank FREE, while a parked batch ends with its frame's outcome kept (R133). -/
def Obligations.FinishBySweepState : Prop :=
  (∀ s : State, s.delivers .finish [] = true → s.sc.sweep = .sweeping → s.rollingBack = false →
     s.pi.queue.Nodup → (∀ b ∈ s.pi.queue, (s.bank b).state = .queued) →
     (∀ b, s.pi.port = some b → (s.bank b).state = .filling) →
     ∃ t, exec (.finish []) s = .next t ∧ t.sc.sweep = .closing ∧ t.pi.queue = [] ∧
       (∀ b ∈ s.pi.queue, (t.bank b).state = .free ∧ (t.bank b).serial = none) ∧
       (∀ b, s.pi.port = some b → t.pi.port = some b ∧ (t.bank b).state = .filling ∧
         (t.bank b).drop = if (s.bank b).drop = .none then .closing else (s.bank b).drop) ∧
       t.sc.dropped = s.sc.dropped + BitVec.ofNat 32 s.pi.queue.length ∧
       (s.pi.queue ≠ [] → t.li.events.getLsbD 12 = true) ∧
       t.li.reply = ⟨.done, []⟩ ∧ t.li.processing = none ∧
       t.me.pass = s.me.pass ∧ t.pw = s.pw ∧ t.bu = s.bu ∧ t.ltc = s.ltc ∧ t.mem = s.mem ∧ t.geo = s.geo ∧
       t.prm = s.prm ∧ t.cx = s.cx ∧ t.eu = s.eu ∧ t.dr = s.dr ∧ t.sc.flags = s.sc.flags ∧ t.sc.masks = s.sc.masks) ∧
  (∀ s : State, s.delivers .finish [] = true →
     (s.sc.sweep = .idle ∨ s.sc.sweep = .closing ∨ s.sc.sweep = .finished →
       exec (.finish []) s = .next (s.refuse .wrongState)) ∧
     (s.sc.sweep.canFinish = true → s.rollingBack = true → exec (.finish []) s = .next (s.refuse .busy)) ∧
     (s.sc.sweep = .armed → s.rollingBack = false → ∃ t, exec (.finish []) s = .next t ∧ t.sc.sweep = .finished ∧
       t.li.events.getLsbD 2 = true ∧ t.me.pass = none ∧ t.li.reply = ⟨.done, []⟩ ∧ t.pw = s.pw ∧ t.bu = s.bu) ∧
     (∀ c p b, s.sc.sweep = .held c → s.rollingBack = false → s.me.pass = some p →
       p.stage = .judgeHeld ∨ p.stage = .pushHeld → p.bank = some b → (s.bank b).state = .matching →
       s.pi.queue = [] → s.pi.port = none →
       ∃ t, exec (.finish []) s = .next t ∧ t.sc.sweep = .closing ∧ t.me.pass = none ∧ (t.bank b).state = .free ∧
         t.sc.setAside = s.sc.setAside + 1#32 ∧ t.sc.last.outcome = .discarded ∧ t.sc.last.serial = p.serial ∧
         t.li.reply = ⟨.done, []⟩) ∧
     (∀ c p, s.sc.sweep = .held c → s.rollingBack = false → s.me.pass = some p → p.stage = .parked →
       ∃ t, exec (.finish []) s = .next t ∧ t.sc.sweep = .closing ∧
         t.me.pass = some { p with admissions := [], stage := .report } ∧ t.sc.setAside = s.sc.setAside ∧
         t.li.reply = ⟨.done, []⟩))

/-- ABORT's stop step: WRONG_STATE in IDLE; otherwise the command stays in processing; the match pass, standing at a
boundary, ends (its frame ABANDONED where it still stands in its MATCHING bank), and between the two lookups of one
candidate it goes on to the boundary behind them; a RUNNING export job becomes STOPPING or, with no line in progress,
ends; a context operation ends; the sweep state, the window, coverage, table and memory stand (R63, R136, R158, R175,
R182). ABORT's clear step: once the match pass has stopped and the blend stands at a block boundary, banks, table,
coverage, window, engines and SC are cleared in one step, each frame without an outcome is set aside as ABANDONED,
ABORTED is raised and the reply is DONE; flags, masks, marks, capture, CUE, serial, started, placed and dropped
counters, parameters, lists, slots and memory are kept; before that, and without an ABORT, nothing is due (R22, R136).
Which states between two steps are boundaries is the model's reading (log 9), and that a step taken while nothing is
due changes nothing is log 2. -/
def Obligations.AbortStopsThenClears : Prop :=
  (∀ s : State, s.delivers .abort [] = true →
     (s.sc.sweep = .idle → exec (.abort []) s = .next (s.refuse .wrongState)) ∧
     (s.sc.sweep ≠ .idle → ∃ t, exec (.abort []) s = .next t ∧ t.li.processing = some .aborting ∧
       t.cx.op = .none ∧ t.sc.sweep = s.sc.sweep ∧ t.pw = s.pw ∧ t.bu = s.bu ∧ t.ltc = s.ltc ∧ t.mem = s.mem ∧
       t.geo = s.geo ∧ t.prm = s.prm ∧ t.dr = s.dr ∧ t.me.motion = s.me.motion ∧ t.sc.flags = s.sc.flags ∧
       ((∀ p i, s.me.pass = some p → p.stage ≠ .lookup i true) → t.me.pass = none ∧
         ∀ p b, s.me.pass = some p → p.bank = some b → (s.bank b).state = .matching → (t.bank b).state = .free ∧
           t.sc.setAside = s.sc.setAside + 1#32 ∧ t.sc.last.outcome = .abandoned ∧ t.sc.last.serial = p.serial) ∧
       (∀ p i, s.me.pass = some p → p.stage = .lookup i true → t.me = s.me ∧ t.pi = s.pi ∧
         t.sc.setAside = s.sc.setAside) ∧
       (s.eu.state = .running → s.eu.lineBegun = true → t.eu = { s.eu with state := .stopping } ∧ t.port = s.port) ∧
       (s.eu.state = .running → s.eu.lineBegun = false → t.eu.state = .idle ∧ t.eu.result = .stopped ∧
         t.port = s.port ++ [.frameEnd] ∧ t.li.events.getLsbD 4 = true) ∧
       (∀ k, s.cx.op = .verify k ∨ s.cx.op = .apply k → t.cx.lastResult = .cancelled ∧ t.cx.lastSlot = some k ∧
         t.li.events.getLsbD 6 = true) ∧
       (∀ k v, s.cx.op = .quiet k ∨ s.cx.op = .copy k v → t.cx.slot k = ⟨.empty, none, (s.cx.slot k).image⟩))) ∧
  (∀ s : State,
     (s.blendAtBoundary = true ↔ (∀ j, s.bu.join = some j → j.move = ⟨0, []⟩) ∧
       ∀ b, s.bu.pass = some b → ∃ todo, b.stage = .writing todo) ∧
     (s.li.processing = some .aborting → s.me.pass = none → s.blendAtBoundary = true →
       ∃ t, exec .abortClearStep s = .next t ∧ t.sc.sweep = .idle ∧ (∀ b, (t.bank b).state = .free) ∧
         t.pi.port = none ∧ t.pi.waiting = [] ∧ t.pi.filling = [] ∧ t.pi.queue = [] ∧ (∀ i, t.ltc.lm i = none) ∧
         (∀ i, t.ltc.gen i = if (s.ltc.lm i).isSome then s.ltc.gen i + 1#4 else s.ltc.gen i) ∧
         (∀ l ∈ t.ltc.bins, l = []) ∧ t.ltc.live = 0 ∧ t.ltc.pinned = 0 ∧ t.ltc.origin = 0 ∧ t.pw = [] ∧
         t.bu = ⟨List.replicate s.geo.nBlocks .blank, -32, none, none, none⟩ ∧
         t.me = ⟨[], none, .locked, 0, none⟩ ∧ t.sc.progress = 0 ∧
         t.sc.closure = ⟨.none, 0, 0, 0, 0#16, 0, none⟩ ∧ t.sc.pace = false ∧ t.li.events.getLsbD 3 = true ∧
         t.li.reply = ⟨.done, []⟩ ∧ t.li.processing = none ∧ t.sc.flags = s.sc.flags ∧ t.sc.masks = s.sc.masks ∧
         t.sc.mark0 = s.sc.mark0 ∧ t.sc.mark1 = s.sc.mark1 ∧ t.sc.capture = s.sc.capture ∧ t.sc.cue = s.sc.cue ∧
         t.sc.setAside = s.sc.setAside + BitVec.ofNat 32 s.openBanks ∧
         (0 < s.openBanks → t.sc.last.outcome = .abandoned) ∧ t.sc.placed = s.sc.placed ∧ t.sc.dropped = s.sc.dropped ∧
         t.sc.started = s.sc.started ∧ t.pi.serial = s.pi.serial ∧ t.prm = s.prm ∧ t.geo = s.geo ∧ t.dr = s.dr ∧
         t.cx = s.cx ∧ t.eu = s.eu ∧ t.mem = s.mem) ∧
     (s.li.processing ≠ some .aborting ∨ s.me.pass ≠ none ∨ s.blendAtBoundary = false →
       exec .abortClearStep s = .next s))

/-- RELEASE: WRONG_STATE outside FINISHED; otherwise, with no gap in progress and no frame storing, the table is
cleared, the Blend Unit, the Match Engine and SC return to their idle values and the sweep is IDLE; everything else
stands. A gap in progress ends first, and a frame storing is closed as DROPPED_HELD or DROPPED_CLOSING by its mark,
its buffered segments with it (R22, R24, R54, R135, R170). -/
def Obligations.ReleaseReturnsToIdle : Prop :=
  ∀ s : State, s.delivers .release [] = true →
    (s.sc.sweep ≠ .finished → exec (.release []) s = .next (s.refuse .wrongState)) ∧
    (s.sc.sweep = .finished → s.dr.gap = none → s.pi.port = none → exec (.release []) s = .next { s with
      ltc := s.ltc.clear
      pw := []
      bu := ⟨List.replicate (s.geo.cw / 32) .blank, -32, none, none, none⟩
      me := ⟨[], none, .locked, 0, none⟩
      sc := { s.sc with
        sweep := .idle, progress := 0, closure := ⟨.none, 0, 0, 0, 0#16, 0, none⟩, pace := false }
      li := { s.li with reply := ⟨.done, []⟩, processing := none } }) ∧
    (∀ b, s.sc.sweep = .finished → s.dr.gap = none → s.pi.port = some b → (s.bank b).state = .filling →
      ∃ t, exec (.release []) s = .next t ∧ t.sc.sweep = .idle ∧ t.pi.port = none ∧ t.pi.waiting = [] ∧
        t.pi.filling = [] ∧ t.mem = s.mem ∧ (t.bank b).state = .free ∧
        t.sc.dropped = s.sc.dropped + 1#32 ∧
        t.sc.last.outcome = (if (s.bank b).drop = .held then .droppedHeld else .droppedClosing) ∧
        t.li.events.getLsbD 12 = true ∧ t.li.reply = ⟨.done, []⟩) ∧
    (∀ g, s.sc.sweep = .finished → s.dr.gap = some g → ∃ t, exec (.release []) s = .next t ∧ t.dr.gap = none ∧
      t.sc.sweep = .idle ∧ t.li.reply = ⟨.done, []⟩)

/-! ### RESUME (R82, R95, R128 to R132) -/

/-- The checks of the four RESUME modes: WRONG_STATE where the sweep is not HELD; BUSY during a verify or apply, for
ROLLBACK during a save too; for PLACE the cause and then dx; for ROLLBACK the slot, and an accepted ROLLBACK is
answered ACCEPTED with the verify begun and the sweep still HELD (R128, R132). That the verify of a slot that is not
VALID is under way too, until VERIFY_END, is the model's choice (log 36). -/
def Obligations.ResumeChecks : Prop :=
  ∀ s : State,
    (s.sc.sweep.isHeld = false →
      (s.delivers .resumeAccept [] = true → exec (.resumeAccept []) s = .next (s.refuse .wrongState)) ∧
      (s.delivers .resumeSkip [] = true → exec (.resumeSkip []) s = .next (s.refuse .wrongState)) ∧
      (∀ a b c, s.delivers .resumePlace [a, b, c] = true →
        exec (.resumePlace [a, b, c]) s = .next (s.refuse .wrongState)) ∧
      (∀ k, s.delivers .resumeRollback [k] = true → exec (.resumeRollback [k]) s = .next (s.refuse .wrongState))) ∧
    (∀ c, s.sc.sweep = .held c → s.rollingBack = true →
      (s.delivers .resumeAccept [] = true → exec (.resumeAccept []) s = .next (s.refuse .busy)) ∧
      (s.delivers .resumeSkip [] = true → exec (.resumeSkip []) s = .next (s.refuse .busy)) ∧
      (∀ a b e, s.delivers .resumePlace [a, b, e] = true → exec (.resumePlace [a, b, e]) s = .next (s.refuse .busy))) ∧
    (∀ c a b e, s.sc.sweep = .held c → s.rollingBack = false → s.delivers .resumePlace [a, b, e] = true →
      (c = .reversal ∨ c = .windowOverflow ∨ c = .tableFull ∨ c = .canvasFull →
        exec (.resumePlace [a, b, e]) s = .next (s.refuse .wrongState)) ∧
      (c = .lowMatch ∨ c = .lost ∨ c = .vertical ∨ c = .speed →
        s16At [a, b, e] 0 < -2048 ∨ 2047 < s16At [a, b, e] 0 →
        exec (.resumePlace [a, b, e]) s = .next (s.refuse .badValue))) ∧
    (∀ c (k : Byte), s.sc.sweep = .held c → s.delivers .resumeRollback [k] = true →
      (s.cx.op ≠ .none → exec (.resumeRollback [k]) s = .next (s.refuse .busy)) ∧
      (s.cx.op = .none → 1 < k.toNat → exec (.resumeRollback [k]) s = .next (s.refuse .badValue)) ∧
      (∀ slot, s.cx.op = .none → (k = 0#8 ∧ slot = .s0) ∨ (k = 1#8 ∧ slot = .s1) →
        exec (.resumeRollback [k]) s = .next { s with
          cx := { s.cx with op := .verify slot, moved := 0 }
          li := { s.li with reply := ⟨.accepted, []⟩, processing := none } }))

/-- RESUME ACCEPT hands the waiting pass the held cause's masked default, with the sweep SWEEPING again: explicitly
for LOST (SEARCHING, count 0, UNPLACED), REVERSAL (REVERSED) and, with the sweep going to CLOSING, CANVAS_FULL
(CANVAS_END); for the others the judge, push or batch goes on from the point of the hold (R129), but a push or a
parked claim accepted during a save is left for after it (R37, R92, R173), and a push that needs a force-commit for
after the block write under way (R113, log 38). RESUME SKIP gives up the held frame: DISCARDED, its bank FREE, motion
record, mode and count as they stood; at a TABLE_FULL hold the batch ends instead and the frame keeps its outcome.
RESUME PLACE enters the host's position, offset from the newer motion entry, in place of the frame's own entry, makes
the mode LOCKED with count 0 and judges anew from check 2; flags of the earlier position do not remain (R82, R130,
R131). -/
def Obligations.ResumeAppliesItsMode : Prop :=
  (∀ (s r : State) (c : Condition) (p : Pass), s.delivers .resumeAccept [] = true → s.sc.sweep = .held c →
     s.rollingBack = false → s.me.pass = some p → r = { s with sc := { s.sc with sweep := .sweeping } } →
     (c = .lowMatch → exec (.resumeAccept []) s = .next ((r.lowMatchDefault p).answer [])) ∧
     (c = .vertical → exec (.resumeAccept []) s = .next ((r.check4 { p with clipped := true }).answer [])) ∧
     (c = .speed →
       exec (.resumeAccept []) s = .next ((r.check5 { p with gap := decide (p.overlap < 0) }).answer [])) ∧
     (c = .windowOverflow → s.saving = false →
       ((∀ b a rest n, s.bu.pass = some b → b.stage ≠ .inBlock a rest n) ∨ s.overflows p.serial = false →
         exec (.resumeAccept []) s = .next ((r.pushMatching p true).answer [])) ∧
       (∀ b a rest n, s.bu.pass = some b → b.stage = .inBlock a rest n → s.overflows p.serial = true →
         exec (.resumeAccept []) s = .next ({ r with
           me := { r.me with pass := some { p with stage := .push true } } }.answer []))) ∧
     (c = .windowOverflow → s.saving = true → exec (.resumeAccept []) s = .next ({ r with
       me := { r.me with pass := some { p with stage := .push true } } }.answer [])) ∧
     (∀ a rest, c = .tableFull → p.admissions = a :: rest →
       (s.saving = false → exec (.resumeAccept []) s = .next ((r.takeAdmission p a true).answer [])) ∧
       (s.saving = true → exec (.resumeAccept []) s = .next ({ r with
         me := { r.me with pass := some { p with stage := .fenced } } }.answer []))) ∧
     (∀ b, p.bank = some b → (s.bank b).state = .matching →
       (c = .lost → ∃ t, exec (.resumeAccept []) s = .next t ∧ t.sc.sweep = .sweeping ∧ t.me.mode = .searching ∧
         t.me.predicted = 0 ∧ t.me.pass = none ∧ (t.bank b).state = .free ∧ t.sc.last.outcome = .unplaced ∧
         t.sc.setAside = s.sc.setAside + 1#32 ∧ t.li.reply = ⟨.done, []⟩) ∧
       (c = .reversal → ∃ t, exec (.resumeAccept []) s = .next t ∧ t.sc.sweep = .sweeping ∧ t.me.pass = none ∧
         (t.bank b).state = .free ∧ t.sc.last.outcome = .reversed ∧ t.sc.setAside = s.sc.setAside + 1#32 ∧
         t.me.motion = s.me.motion ∧ t.li.reply = ⟨.done, []⟩) ∧
       (c = .canvasFull → s.pi.queue = [] → s.pi.port = none → ∃ t, exec (.resumeAccept []) s = .next t ∧
         t.sc.sweep = .closing ∧ t.me.pass = none ∧ (t.bank b).state = .free ∧ t.sc.last.outcome = .canvasEnd ∧
         t.sc.setAside = s.sc.setAside + 1#32 ∧ t.li.reply = ⟨.done, []⟩))) ∧
  (∀ (s : State) (c : Condition) (p : Pass), s.sc.sweep = .held c → s.rollingBack = false → s.me.pass = some p →
     (∀ b, s.delivers .resumeSkip [] = true → c ≠ .tableFull → p.bank = some b → (s.bank b).state = .matching →
       ∃ t, exec (.resumeSkip []) s = .next t ∧ t.sc.sweep = .sweeping ∧ t.me = { s.me with pass := none } ∧
         (t.bank b).state = .free ∧ t.sc.last.outcome = .discarded ∧ t.sc.setAside = s.sc.setAside + 1#32 ∧
         t.pw = s.pw ∧ t.bu = s.bu ∧ t.ltc = s.ltc ∧ t.sc.flags = s.sc.flags ∧ t.li.reply = ⟨.done, []⟩) ∧
     (s.delivers .resumeSkip [] = true → c = .tableFull → exec (.resumeSkip []) s = .next { s with
       sc := { s.sc with sweep := .sweeping }
       me := { s.me with pass := some { p with admissions := [], stage := .report } }
       li := { s.li with reply := ⟨.done, []⟩, processing := none } }) ∧
     (∀ a b e m rest motion x y, s.delivers .resumePlace [a, b, e] = true →
       c = .lowMatch ∨ c = .lost ∨ c = .vertical ∨ c = .speed → -2048 ≤ s16At [a, b, e] 0 → s16At [a, b, e] 0 ≤ 2047 →
       s.me.motion = m :: rest → x = m.x + 4 * s.geo.d * s16At [a, b, e] 0 → y = m.y + 4 * s8At [a, b, e] 2 →
       motion = (if m.serial = p.serial then ⟨p.serial, x, y⟩ :: rest else [⟨p.serial, x, y⟩, m]) →
       exec (.resumePlace [a, b, e]) s = .next ((({ s with
         sc := { s.sc with sweep := .sweeping }
         me := { s.me with motion := motion, mode := .locked, predicted := 0 } }).check2 { p with
           how := .host, x := x, y := y, clipped := false, gap := false, closure := none, wrapMean := none }).answer [])))

/-! ### Hints, marks, capture (R66, R139, R142, R143) -/

/-- HINT: WRONG_STATE outside ARMED, SWEEPING and HELD; BAD_VALUE for dx outside −2048 to 2047; otherwise the register
takes dx, dy with tag NONE, replacing what it held, and nothing else changes (R66). SET MARK: a unit above 1 or an
unnamed action is refused with BAD_VALUE; otherwise the unit takes value and action and is armed, in any sweep state,
and nothing else changes (R139). READ CAPTURE returns the record's nine bytes and clears UNREAD and OVERRUN; SET
CAPTURE ACTION takes NONE or FINISH and refuses any other byte with BAD_VALUE (R143, 11.5). -/
def Obligations.HintsMarksAndCapture : Prop :=
  (∀ (s : State) (a b c : Byte), s.delivers .hint [a, b, c] = true →
     exec (.hint [a, b, c]) s = .next
       (if s.sc.sweep = .idle ∨ s.sc.sweep = .closing ∨ s.sc.sweep = .finished then s.refuse .wrongState
       else if s16At [a, b, c] 0 < -2048 ∨ 2047 < s16At [a, b, c] 0 then s.refuse .badValue
       else { s with
         me := { s.me with hint := some ⟨s16At [a, b, c] 0, s8At [a, b, c] 2, none⟩ }
         li := { s.li with reply := ⟨.done, []⟩, processing := none } })) ∧
  (∀ (s : State) (u a v w : Byte), s.delivers .setMark [u, a, v, w] = true →
     (1 < u.toNat ∨ 4 < a.toNat → exec (.setMark [u, a, v, w]) s = .next (s.refuse .badValue)) ∧
     (∀ action : MarkAction, a.toNat = action.code →
       (u = 0#8 → exec (.setMark [u, a, v, w]) s = .next { s with
         sc := { s.sc with mark0 := ⟨v.toNat + 256 * w.toNat, action, true⟩ }
         li := { s.li with reply := ⟨.done, []⟩, processing := none } }) ∧
       (u = 1#8 → exec (.setMark [u, a, v, w]) s = .next { s with
         sc := { s.sc with mark1 := ⟨v.toNat + 256 * w.toNat, action, true⟩ }
         li := { s.li with reply := ⟨.done, []⟩, processing := none } }))) ∧
  (∀ s : State,
     (s.delivers .readCapture [] = true → exec (.readCapture []) s = .next { s with
       sc := { s.sc with capture := { s.sc.capture with unread := false, overrun := false } }
       li := { s.li with
         reply := ⟨.done, leBytes 2 s.sc.capture.progress ++ leSerial (s.sc.capture.newest.getD 0#16) ++
           [byteBool s.sc.capture.newest.isSome] ++ leSerial s.sc.capture.current ++ [byteOf s.sc.capture.result.code,
           byteOf (s.sc.capture.unread.toNat + 2 * s.sc.capture.overrun.toNat)]⟩
         processing := none } }) ∧
     (∀ b : Byte, s.delivers .setCaptureAction [b] = true →
       (b.toNat ≤ 1 → exec (.setCaptureAction [b]) s = .next { s with
         sc := { s.sc with captureFinish := decide (b = 1#8) }
         li := { s.li with reply := ⟨.done, []⟩, processing := none } }) ∧
       (1 < b.toNat → exec (.setCaptureAction [b]) s = .next (s.refuse .badValue))))

/-- SHUTTER_EDGE: ignored in IDLE and FINISHED. Otherwise UNREAD still set makes OVERRUN, the fields are recorded,
CAPTURE is raised; with the action NONE, or FINISH in CLOSING, the result is NONE; between ABORT's steps FINISH is
DROPPED; during a verify or apply it is WAITING; in ARMED, SWEEPING and HELD it is TAKEN and acts as the FINISH
command does (R142). That DROPPED and WAITING go before the NONE of CLOSING is the model's reading (log 14). -/
def Obligations.ShutterEdgeFillsTheRecord : Prop :=
  ∀ s : State,
    (s.sc.sweep = .idle ∨ s.sc.sweep = .finished → exec .shutterEdge s = .next s) ∧
    (∀ f : CaptureResult → State, s.sc.sweep ≠ .idle → s.sc.sweep ≠ .finished →
      f = (fun r => ({ s with sc := { s.sc with capture := ⟨s.sc.progress, s.pw.head?.map Placement.serial, s.pi.serial,
        r, true, s.sc.capture.overrun || s.sc.capture.unread⟩ } }).raise .capture) →
      (s.sc.captureFinish = false → exec .shutterEdge s = .next (f .none)) ∧
      (s.sc.captureFinish = true → s.aborting = true → exec .shutterEdge s = .next (f .dropped)) ∧
      (s.sc.captureFinish = true → s.aborting = false → s.rollingBack = true → exec .shutterEdge s = .next
        { f .waiting with sc := { (f .waiting).sc with captureFinishWaits := true } }) ∧
      (s.sc.captureFinish = true → s.aborting = false → s.rollingBack = false →
        (s.sc.sweep = .closing → exec .shutterEdge s = .next (f .none)) ∧
        (s.sc.sweep ≠ .closing → exec .shutterEdge s = .next (f .taken).finishSweep)))

/-! ### Landmark commands (R40, R52, R54 to R60) -/

/-- A host command that LI has not taken is lost: nothing changes (R184, log 3). A taken command of a parameter length
that the command table does not allow is refused with BAD_LENGTH: the reply register takes the refusal, the command is
no longer being processed, and nothing else changes (R185). What a reply is: DONE with data, ACCEPTED, or REFUSED with
the reason byte enters the reply register, the command is no longer being processed, and no other state changes (R184,
R185). -/
def Obligations.CommandsAreAnsweredOrLost : Prop :=
  (∀ (i : Instr) (c : HostCommand) (p : List Byte) (s : State),
     i.hostCommand? = some (c, p) → s.delivers c p = false → exec i s = .next s) ∧
  (∀ (i : Instr) (c : HostCommand) (p : List Byte) (s : State),
     i.hostCommand? = some (c, p) → s.delivers c p = true → c.lengthAllowed p.length = false →
     exec i s = .next { s with li := { s.li with reply := ⟨.refused, [2#8]⟩, processing := none } }) ∧
  (∀ (s : State) (data : List Byte) (r : Reason),
     s.answer data = { s with li := { s.li with reply := ⟨.done, data⟩, processing := none } } ∧
     s.accept = { s with li := { s.li with reply := ⟨.accepted, []⟩, processing := none } } ∧
     s.refuse r = { s with li := { s.li with reply := ⟨.refused, [byteOf r.code]⟩, processing := none } })

/-- PIN LANDMARK: the six checks of its table, in order (R55). UNPIN and RETIRE LANDMARK make the same checks; UNPIN
of a landmark not PINNED changes nothing, otherwise it clears PINNED and lowers the count; RETIRE refuses a PINNED
landmark with PROTECTED and otherwise retires it, ORIGIN included (R56, R57). -/
def Obligations.PinUnpinAndRetire : Prop :=
  (∀ (s : State) (i g : Byte), s.delivers .pinLandmark [i, g] = true →
     (15 < g.toNat → exec (.pinLandmark [i, g]) s = .next (s.refuse .badValue)) ∧
     (g.toNat ≤ 15 → s.copying = true ∨ s.applying = true →
       exec (.pinLandmark [i, g]) s = .next (s.refuse .busy)) ∧
     (g.toNat ≤ 15 → s.copying = false → s.applying = false →
       (s.ltc.lm i.toNat = none ∨ (s.ltc.gen i.toNat).toNat ≠ g.toNat →
         exec (.pinLandmark [i, g]) s = .next (s.refuse .emptyEntry)) ∧
       (∀ r, s.ltc.lm i.toNat = some r → (s.ltc.gen i.toNat).toNat = g.toNat →
         (r.pinned = true → exec (.pinLandmark [i, g]) s = .next (s.answer [])) ∧
         (r.pinned = false → 32 ≤ s.ltc.pinned → exec (.pinLandmark [i, g]) s = .next (s.refuse .limit)) ∧
         (r.pinned = false → s.ltc.pinned < 32 → exec (.pinLandmark [i, g]) s = .next { s with
           ltc := { s.ltc.put i.toNat { r with pinned := true } with pinned := s.ltc.pinned + 1 }
           li := { s.li with reply := ⟨.done, []⟩, processing := none } })))) ∧
  (∀ (s : State) (i g : Byte),
     (s.delivers .unpinLandmark [i, g] = true →
       (15 < g.toNat → exec (.unpinLandmark [i, g]) s = .next (s.refuse .badValue)) ∧
       (g.toNat ≤ 15 → s.copying = true ∨ s.applying = true →
         exec (.unpinLandmark [i, g]) s = .next (s.refuse .busy)) ∧
       (g.toNat ≤ 15 → s.copying = false → s.applying = false →
         (s.ltc.lm i.toNat = none ∨ (s.ltc.gen i.toNat).toNat ≠ g.toNat →
           exec (.unpinLandmark [i, g]) s = .next (s.refuse .emptyEntry)) ∧
         (∀ r, s.ltc.lm i.toNat = some r → (s.ltc.gen i.toNat).toNat = g.toNat →
           (r.pinned = false → exec (.unpinLandmark [i, g]) s = .next (s.answer [])) ∧
           (r.pinned = true → exec (.unpinLandmark [i, g]) s = .next { s with
             ltc := { s.ltc.put i.toNat { r with pinned := false } with pinned := s.ltc.pinned - 1 }
             li := { s.li with reply := ⟨.done, []⟩, processing := none } })))) ∧
     (s.delivers .retireLandmark [i, g] = true →
       (15 < g.toNat → exec (.retireLandmark [i, g]) s = .next (s.refuse .badValue)) ∧
       (g.toNat ≤ 15 → s.copying = true ∨ s.applying = true →
         exec (.retireLandmark [i, g]) s = .next (s.refuse .busy)) ∧
       (g.toNat ≤ 15 → s.copying = false → s.applying = false →
         (s.ltc.lm i.toNat = none ∨ (s.ltc.gen i.toNat).toNat ≠ g.toNat →
           exec (.retireLandmark [i, g]) s = .next (s.refuse .emptyEntry)) ∧
         (∀ r, s.ltc.lm i.toNat = some r → (s.ltc.gen i.toNat).toNat = g.toNat →
           (r.pinned = true → exec (.retireLandmark [i, g]) s = .next (s.refuse .isProtected)) ∧
           (r.pinned = false → exec (.retireLandmark [i, g]) s = .next { s with
             ltc := s.ltc.retire i.toNat
             li := { s.li with reply := ⟨.done, []⟩, processing := none } })))))

/-- To retire a landmark: its index leaves its bin list and no other list changes, the generation of its entry
advances by one, wrapping from 15 to 0, the counts fall, the entry is FREE, and no other entry changes (R40). RETIRE
REGION and the directive's claim: the landmarks listed in the run of bins, wrapping at CW/64, are retired but the
PINNED ones; the host is answered their number, checks BAD_VALUE and then BUSY; a claim waits while a copy or apply is
in progress (R52, R53, R37). That the step changes nothing while no claim is presented is log 2. -/
def Obligations.RetirementByEntryAndRegion : Prop :=
  (∀ (t : Table) (i : Nat) (r : Landmark), t.lm i = some r →
     (t.retire i).lm i = none ∧ (t.retire i).gen i = t.gen i + 1#4 ∧
     (∀ j, j ≠ i → (t.retire i).lm j = t.lm j ∧ (t.retire i).gen j = t.gen j) ∧
     (∀ j, (t.retire i).bin j = if j = r.bin then (t.bin j).filter (fun k => decide (k ≠ i)) else t.bin j) ∧
     (t.retire i).live = t.live - 1 ∧
     (t.retire i).pinned = (if r.pinned then t.pinned - 1 else t.pinned) ∧
     (t.retire i).origin = (if r.origin then t.origin - 1 else t.origin) ∧
     (t.retire i).regionClaims = t.regionClaims) ∧
  (∀ s : State,
     (∀ first lo hi : Byte, ∀ n, s.delivers .retireRegion [first, lo, hi] = true → n = lo.toNat + 256 * hi.toNat →
       (s.geo.nBins ≤ first.toNat ∨ n = 0 ∨ s.geo.nBins < n →
         exec (.retireRegion [first, lo, hi]) s = .next (s.refuse .badValue)) ∧
       (first.toNat < s.geo.nBins → 1 ≤ n → n ≤ s.geo.nBins → s.copying = true ∨ s.applying = true →
         exec (.retireRegion [first, lo, hi]) s = .next (s.refuse .busy)) ∧
       (first.toNat < s.geo.nBins → 1 ≤ n → n ≤ s.geo.nBins → s.copying = false → s.applying = false →
         ∃ victims, victims = (((List.range n).map fun k => (first.toNat + k) % s.geo.nBins).flatMap s.ltc.bin).filter
             (fun i => (s.ltc.lm i).any fun r => !r.pinned) ∧
           exec (.retireRegion [first, lo, hi]) s = .next { s with
             ltc := victims.foldl Table.retire s.ltc
             li := { s.li with reply := ⟨.done, leBytes 2 victims.length⟩, processing := none } })) ∧
     (∀ first n rest, s.ltc.regionClaims = (first, n) :: rest → s.copying = false → s.applying = false →
       ∃ victims, victims = (((List.range n).map fun k => (first + k) % s.geo.nBins).flatMap s.ltc.bin).filter
           (fun i => (s.ltc.lm i).any fun r => !r.pinned) ∧
         exec .retireRegionClaim s = .next { s with
           ltc := victims.foldl Table.retire { s.ltc with regionClaims := rest } }) ∧
     (s.ltc.regionClaims = [] ∨ s.copying = true ∨ s.applying = true → exec .retireRegionClaim s = .next s))

/-! ### Reads of the window and the map, directive memory, checkpoints (R101, R119, R161 to R163, R172, R177) -/

/-- READ, FIND and EXAMINE LANDMARK change nothing but the reply: a FREE entry is EMPTY_ENTRY for the read and FREE
with no flags and side NONE for the examination; a live entry is returned field by field; a bin at or past CW/64 is
BAD_VALUE (R58, R59, R60, 11.5). READ PLACEMENT and READ COVERAGE change nothing but the reply: checks in order, the
two views field by field, and the map from the first block, wrapping, with the owner's depth (R101, R119, 11.5). -/
def Obligations.TableAndWindowReads : Prop :=
  (∀ (s : State) (i : Byte),
     (s.delivers .readLandmark [i] = true →
       (s.ltc.lm i.toNat = none → exec (.readLandmark [i]) s = .next (s.refuse .emptyEntry)) ∧
       (∀ r, s.ltc.lm i.toNat = some r → exec (.readLandmark [i]) s = .next (s.answer
         ([i, byteOf (s.ltc.gen i.toNat).toNat, byteOf r.state.code, byteOf (r.pinned.toNat + 2 * r.origin.toNat)] ++
           leSigned 4 r.x ++ leSigned 2 r.y ++ leBytes 8 r.descriptor.toNat ++ leBytes 2 r.strength ++
           [byteOf r.hits, byteOf r.misses] ++ leSerial r.firstSeen ++ leSerial r.lastSeen ++ [byteOf r.bin])))) ∧
     (s.delivers .findLandmarks [i] = true →
       (s.geo.nBins ≤ i.toNat → exec (.findLandmarks [i]) s = .next (s.refuse .badValue)) ∧
       (i.toNat < s.geo.nBins → exec (.findLandmarks [i]) s = .next (s.answer
         (byteOf (s.ltc.bin i.toNat).length :: (s.ltc.bin i.toNat).flatMap fun k =>
           [byteOf k, byteOf ((s.ltc.lm k).elim 0 fun r => r.state.code), byteOf (s.ltc.gen k).toNat])))) ∧
     (s.delivers .examineLandmark [i] = true →
       (s.ltc.lm i.toNat = none → exec (.examineLandmark [i]) s = .next (s.answer [0#8, 0#8, 0#8])) ∧
       (∀ r, s.ltc.lm i.toNat = some r → exec (.examineLandmark [i]) s = .next (s.answer
         [byteOf r.state.code, byteOf (r.pinned.toNat + 2 * r.origin.toNat),
           if (64 * s.geo.binPlace r.bin + 64 : Int) ≤ s.bu.commitLine then 2#8 else 1#8])))) ∧
  (∀ s : State,
     (∀ d v : Byte, s.delivers .readPlacement [d, v] = true →
       (1 < v.toNat → exec (.readPlacement [d, v]) s = .next (s.refuse .badValue)) ∧
       (v.toNat ≤ 1 → s.pw[d.toNat]? = none → exec (.readPlacement [d, v]) s = .next (s.refuse .emptyEntry)) ∧
       (∀ r, s.pw[d.toNat]? = some r →
         (v = 0#8 → exec (.readPlacement [d, v]) s = .next (s.answer (leSerial r.serial ++
           [byteOf r.state.code, 0#8, byteOf (r.clipped.toNat + 2 * r.gap.toNat + 4 * r.featherClamped.toNat)] ++
           leBytes 2 r.owned ++ [byteOf r.how.code] ++ leSigned 4 r.x ++ leSigned 4 r.y ++ [byteOf r.inliers] ++
           leBytes 2 r.stale ++ leSigned 2 r.step ++ leSigned 2 r.overlap))) ∧
         (v = 1#8 → r.state = .placed → exec (.readPlacement [d, v]) s = .next (s.refuse .emptyEntry)) ∧
         (∀ u, v = 1#8 → r.state ≠ .placed → r.used = some u → exec (.readPlacement [d, v]) s = .next (s.answer
           (leSerial r.serial ++
           [byteOf r.state.code, 1#8, byteOf (r.clipped.toNat + 2 * r.gap.toNat + 4 * r.featherClamped.toNat)] ++
           leBytes 2 r.owned ++ leSigned 4 u.x ++ leSigned 2 u.y ++ (match u.fixed with
             | some f => 1#8 :: leSigned 2 f.seam ++ [byteOf f.feather, byteOf f.gain]
             | none => [0#8, 0#8, 0#8, 0#8, 0#8])))))) ∧
     (∀ a b n : Byte, ∀ k, s.delivers .readCoverage [a, b, n] = true → k = a.toNat + 256 * b.toNat →
       (s.geo.nBlocks ≤ k ∨ n = 0#8 ∨ 64 < n.toNat →
         exec (.readCoverage [a, b, n]) s = .next (s.refuse .badValue)) ∧
       (k < s.geo.nBlocks → n ≠ 0#8 → n.toNat ≤ 64 → exec (.readCoverage [a, b, n]) s = .next (s.answer
         (leBytes 2 k ++ [n] ++ leSigned 2 s.bu.commitLine ++ (List.range n.toNat).map fun e =>
           match s.bu.coverage[(k + e) % s.geo.nBlocks]?.getD .blank with
           | .blank => 0#8
           | .opened o => byteOf (1 + 4 * s.pw.findIdx fun r => decide (r.serial = o))
           | .committed => 2#8)))))

/-- WRITE and READ DIRECTIVES check offset, count and memory and then stand in processing with their burst; SET LIST
replaces start pointer and enable, and with DISABLED a gap in progress ends first, a word already read being applied
(R161 to R163, R170). How a burst completes is stated with the second slot (R13). -/
def Obligations.DirectiveMemoryCommands : Prop :=
  ∀ (s : State) (a b c : Byte) (off : Nat), off = a.toNat + 256 * b.toNat →
    (∀ words n, s.delivers .writeDirectives (a :: b :: words) = true → words.length = 4 * n → 1 ≤ n → n ≤ 16 →
      (1024 < off + n → exec (.writeDirectives (a :: b :: words)) s = .next (s.refuse .badValue)) ∧
      (off + n ≤ 1024 → s.hasMemory = false →
        exec (.writeDirectives (a :: b :: words)) s = .next (s.refuse .noMemory)) ∧
      (off + n ≤ 1024 → s.hasMemory = true → exec (.writeDirectives (a :: b :: words)) s = .next { s with
        li := { s.li with processing := some (.linkWrite off words) } })) ∧
    (s.delivers .readDirectives [a, b, c] = true →
      (c = 0#8 ∨ 16 < c.toNat ∨ 1024 < off + c.toNat ∨ 1023 < off →
        exec (.readDirectives [a, b, c]) s = .next (s.refuse .badValue)) ∧
      (1 ≤ c.toNat → c.toNat ≤ 16 → off + c.toNat ≤ 1024 → s.hasMemory = false →
        exec (.readDirectives [a, b, c]) s = .next (s.refuse .noMemory)) ∧
      (1 ≤ c.toNat → c.toNat ≤ 16 → off + c.toNat ≤ 1024 → s.hasMemory = true →
        exec (.readDirectives [a, b, c]) s = .next { s with
          li := { s.li with processing := some (.linkRead off c.toNat) } })) ∧
    (s.delivers .setList [a, b, c] = true →
      (1 < c.toNat ∨ 1023 < off → exec (.setList [a, b, c]) s = .next (s.refuse .badValue)) ∧
      (off ≤ 1023 → c = 1#8 → exec (.setList [a, b, c]) s = .next { s with
        dr := { s.dr with startPtr := off, enabled := true }
        li := { s.li with reply := ⟨.done, []⟩, processing := none } }) ∧
      (off ≤ 1023 → c = 0#8 → (∀ g, s.dr.gap = some g → g.word = none) →
        exec (.setList [a, b, c]) s = .next { s with
          dr := { s.dr with startPtr := off, enabled := false, gap := none }
          li := { s.li with reply := ⟨.done, []⟩, processing := none } }) ∧
      (∀ frame w n, off ≤ 1023 → c = 0#8 → s.dr.gap = some ⟨frame, some ⟨w, n⟩⟩ →
        ∃ t, t = (match decodeDirective n w with
            | some d => s.applyDirective frame d
            | none => s.directiveFault) ∧
          exec (.setList [a, b, c]) s = .next { t with
            dr := { t.dr with startPtr := off, enabled := false, gap := none }
            li := { t.li with reply := ⟨.done, []⟩, processing := none } }))

/-- CHECKPOINT: the sweep, then a context operation, then the slot, then memory; an accepted one is answered ACCEPTED
and makes the slot SAVING with no save serial; where the quiet point holds, no record PLACED or BLENDING and no update
batch open but one whose claims are left for after the save, the copy phase begins at once, and otherwise the quiet
wait, which COPY_PHASE ends at the quiet point; that a batch whose counts are still to be reported is open is the
model's choice (log 39). The copy captures the image of R176 whole and notes the serial of that moment. SAVE_COMPLETE,
once no burst of the write is left waiting, makes the slot VALID with that serial, lifts the fences and raises
CHECKPOINT_DONE (R171 to R174, R176). That the
capture and the write are one step is the model's choice (log 12), that the image is a record with a free format
number and check another (log 11), and that a row changes nothing where it is not due is log 2. -/
def Obligations.CheckpointWaitsCopiesAndCompletes : Prop :=
  ∀ (s : State) (quiet : Prop) (taken : Image → Prop),
    (quiet ↔ (∀ r ∈ s.pw, r.state = .blended) ∧
      ∀ p, s.me.pass = some p → p.stage ≠ .report ∧ ∀ a, p.stage ≠ .batch a) →
    (∀ m, taken m ↔ m.format = Config.formatNumber ∧ m.geo = s.geo ∧ m.progress = s.sc.progress ∧ m.mode = s.me.mode ∧
      m.predicted = s.me.predicted ∧ m.flags = s.sc.flags ∧ m.masks = s.sc.masks ∧ m.mark0 = s.sc.mark0 ∧
      m.mark1 = s.sc.mark1 ∧ m.closure = s.sc.closure ∧ m.commitLine = s.bu.commitLine ∧ m.motion = s.me.motion ∧
      m.landmarks.length = 256 ∧ (∀ i, i < 256 → m.landmarks[i]? = some ((s.ltc.lm i).map fun r =>
        ⟨r.pinned, r.origin, r.x, r.y, r.descriptor, r.strength, r.hits, r.misses, r.firstSeen, r.lastSeen, r.bin,
          (s.ltc.bin r.bin).findIdx fun j => decide (j = i)⟩)) ∧
      m.window.length = 8 ∧ (∀ d, d < 8 → m.window[d]? = some (s.pw[d]?.map fun r => { r with owned := 0 })) ∧
      m.coverage = s.bu.coverage ∧ m.reserved = 0 ∧ m.crc = Config.imageCrc m.numbers) →
    (∀ n : Byte, s.delivers .checkpoint [n] = true →
      (s.sc.sweep.canRollBack = false → exec (.checkpoint [n]) s = .next (s.refuse .wrongState)) ∧
      (s.sc.sweep.canRollBack = true → s.cx.op ≠ .none → exec (.checkpoint [n]) s = .next (s.refuse .busy)) ∧
      (s.sc.sweep.canRollBack = true → s.cx.op = .none →
        (1 < n.toNat → exec (.checkpoint [n]) s = .next (s.refuse .badValue)) ∧
        (n.toNat ≤ 1 → s.hasMemory = false → exec (.checkpoint [n]) s = .next (s.refuse .noMemory)) ∧
        (∀ k, n = byteOf k.code → s.hasMemory = true → ∃ cx, exec (.checkpoint [n]) s = .next { s with
            cx := cx, li := { s.li with reply := ⟨.accepted, []⟩, processing := none } } ∧
          (∀ j, j ≠ k → cx.slot j = s.cx.slot j) ∧ cx.lastResult = s.cx.lastResult ∧ cx.lastSlot = s.cx.lastSlot ∧
          (quiet → cx.op = .copy k s.pi.serial ∧ ∃ m, taken m ∧ cx.slot k = ⟨.saving, none, some m⟩) ∧
          (¬ quiet → cx.op = .quiet k ∧ cx.slot k = ⟨.saving, none, (s.cx.slot k).image⟩)))) ∧
    (∀ k, s.cx.op = .quiet k → (¬ quiet → exec .copyPhase s = .next s) ∧
      (quiet → ∃ cx m, exec .copyPhase s = .next { s with cx := cx } ∧ taken m ∧ cx.op = .copy k s.pi.serial ∧
        cx.slot k = ⟨.saving, none, some m⟩ ∧ (∀ j, j ≠ k → cx.slot j = s.cx.slot j) ∧
        cx.lastResult = s.cx.lastResult ∧ cx.lastSlot = s.cx.lastSlot)) ∧
    (s.ringWaits .cx = true → exec .saveComplete s = .next s) ∧
    (∀ k v, s.cx.op = .copy k v → s.ringWaits .cx = false → ∃ cx, exec .saveComplete s = .next (({ s with
        cx := cx
        me := { s.me with pass := s.me.pass.map fun (p : Pass) =>
          if p.stage = Stage.fenced then { p with stage := .batch true } else p } }).raise .checkpointDone) ∧
      cx.op = .none ∧ cx.slot k = ⟨.valid, some v, (s.cx.slot k).image⟩ ∧ (∀ j, j ≠ k → cx.slot j = s.cx.slot j) ∧
      cx.lastResult = s.cx.lastResult ∧ cx.lastSlot = s.cx.lastSlot) ∧
    ((∀ k, s.cx.op ≠ .quiet k) → exec .copyPhase s = .next s) ∧
    ((∀ k v, s.cx.op ≠ .copy k v) → exec .saveComplete s = .next s)

/-- ROLLBACK: the sweep, then a context operation, the slot, memory and the slot's state; an accepted one is answered
ACCEPTED and begins the verify. VERIFY_END, once no burst is left waiting that reads the image of a VALID slot,
records SLOT_EMPTY for a slot that is not VALID (log 36), BAD_IMAGE for an image that does not pass, CANCELLED where
the sweep has reached CLOSING or FINISHED (for ARMED and IDLE log 15), each with ROLLBACK_DONE, and what waited as a
FINISH is then taken by the sweep state, the mark's before the capture's (log 13); otherwise the apply begins, and its
stop ends the match pass in the same step, but between the two lookups of one candidate leaves it to go on to the
boundary behind them (R63, log 9). ROLLBACK_REPLACE, once the match pass has stopped and the blend stands at a
boundary: every bank FREE with its frame ABANDONED where it had no outcome; every generation one higher, landmarks,
their classes by the conditions in order, bin lists by place and the three counts from the image; window with owned
counts and coverage, the blend reference from depth 0, sweep record and motion from the image; hint empty, SWEEPING,
result OK with ROLLBACK_DONE; a waiting FINISH is dropped; serial, other counters, parameters, the rest of the capture
record, CUE, PACE and memory stay (R103, R106, R140, R142, R177 to R181). That a row changes nothing where it is not
due is log 2, that the image is a record log 11, and the range of a last rejection's votes log 35. -/
def Obligations.RollbackVerifiesAndReplaces : Prop :=
  (∀ (s : State) (n : Byte), s.delivers .rollback [n] = true →
    (s.sc.sweep.canRollBack = false → exec (.rollback [n]) s = .next (s.refuse .wrongState)) ∧
    (s.sc.sweep.canRollBack = true → s.cx.op ≠ .none → exec (.rollback [n]) s = .next (s.refuse .busy)) ∧
    (s.sc.sweep.canRollBack = true → s.cx.op = .none →
      (1 < n.toNat → exec (.rollback [n]) s = .next (s.refuse .badValue)) ∧
      (n.toNat ≤ 1 → s.hasMemory = false → exec (.rollback [n]) s = .next (s.refuse .noMemory)) ∧
      (∀ k, n = byteOf k.code → s.hasMemory = true →
        ((s.cx.slot k).state = .empty → exec (.rollback [n]) s = .next (s.refuse .slotEmpty)) ∧
        ((s.cx.slot k).state ≠ .empty → exec (.rollback [n]) s = .next { s with
          cx := { s.cx with op := .verify k, moved := 0 }
          li := { s.li with reply := ⟨.accepted, []⟩, processing := none } })))) ∧
  (∀ (s : State) (k : SlotId), s.cx.op = .verify k →
    (s.ringWaits .cx = true → exec .verifyEnd s = .next s) ∧
    (s.ringWaits .cx = false → ∀ (r : RollbackResult) (ended : State) (capture : Capture),
      (r = .slotEmpty ∧ (s.cx.slot k).state ≠ .valid) ∨
        (∃ m, (s.cx.slot k).state = .valid ∧ (s.cx.slot k).image = some m ∧ ((r = .badImage ∧ m.passes s.geo = false) ∨
          (r = .cancelled ∧ m.passes s.geo = true ∧ s.sc.sweep.canRollBack = false))) →
      ended = ({ s with cx := { s.cx with lastResult := r, lastSlot := some k, op := .none } }).raise .rollbackDone →
      (s.sc.markFinishWaits = false → s.sc.captureFinishWaits = false → exec .verifyEnd s = .next ended) ∧
      (capture = (if s.sc.captureFinishWaits then { s.sc.capture with
          result := if s.sc.markFinishWaits ∨ s.sc.sweep.canFinish = false then .none else .taken } else s.sc.capture) →
        (s.sc.sweep = .closing ∨ s.sc.sweep = .finished → exec .verifyEnd s = .next { ended with
          sc := { s.sc with markFinishWaits := false, captureFinishWaits := false, capture := capture } }) ∧
        (s.sc.sweep = .sweeping → s.sc.markFinishWaits = true ∨ s.sc.captureFinishWaits = true → s.pi.queue = [] →
          s.pi.port = none → exec .verifyEnd s = .next { ended with sc := { s.sc with
            sweep := .closing, markFinishWaits := false, captureFinishWaits := false, capture := capture } }) ∧
        (∀ c p b, s.sc.sweep = .held c → s.sc.markFinishWaits = true ∨ s.sc.captureFinishWaits = true →
          s.me.pass = some p → p.stage = .judgeHeld ∨ p.stage = .pushHeld → p.bank = some b →
          (s.bank b).state = .matching → ∃ t, exec .verifyEnd s = .next t ∧ t.sc.sweep = .closing ∧ t.me.pass = none ∧
            (t.bank b).state = .free ∧ t.sc.setAside = s.sc.setAside + 1#32 ∧ t.sc.markFinishWaits = false ∧
            t.sc.captureFinishWaits = false ∧ t.sc.capture = capture ∧ t.cx = ended.cx) ∧
        (∀ c p, s.sc.sweep = .held c → s.sc.markFinishWaits = true ∨ s.sc.captureFinishWaits = true →
          s.me.pass = some p → p.stage = .parked → ∃ t, exec .verifyEnd s = .next t ∧ t.sc.sweep = .closing ∧
            t.me.pass = some { p with admissions := [], stage := .report } ∧ t.sc.setAside = s.sc.setAside ∧
            t.sc.markFinishWaits = false ∧ t.sc.captureFinishWaits = false ∧ t.sc.capture = capture ∧ t.cx = ended.cx) ∧
        (s.sc.sweep = .armed → s.sc.markFinishWaits = true ∨ s.sc.captureFinishWaits = true →
          ∃ t, exec .verifyEnd s = .next t ∧ t.sc.sweep = .finished ∧ t.li.events.getLsbD 2 = true ∧ t.me.pass = none ∧
            (∀ p b, s.me.pass = some p → p.bank = some b → (s.bank b).state = .matching → (t.bank b).state = .free ∧
              t.sc.setAside = s.sc.setAside + 1#32) ∧ t.sc.markFinishWaits = false ∧
            t.sc.captureFinishWaits = false ∧ t.sc.capture = capture ∧ t.cx = ended.cx))) ∧
    (∀ m, s.ringWaits .cx = false → (s.cx.slot k).state = .valid → (s.cx.slot k).image = some m →
      m.passes s.geo = true → s.sc.sweep.canRollBack = true →
      (s.me.pass = none ∨ (∃ p i, s.me.pass = some p ∧ p.stage = .lookup i true) →
        exec .verifyEnd s = .next { s with cx := { s.cx with op := .apply k } }) ∧
      (∀ p, s.me.pass = some p → (∀ i, p.stage ≠ .lookup i true) →
        ∃ t, exec .verifyEnd s = .next t ∧ t.cx = { s.cx with op := .apply k } ∧
        t.me = { s.me with pass := none } ∧ t.sc.sweep = s.sc.sweep ∧
        (p.bank = none → t.pi = s.pi ∧ t.sc = s.sc) ∧
        (∀ b, p.bank = some b → (s.bank b).state = .matching → (t.bank b).state = .free ∧
          t.sc.setAside = s.sc.setAside + 1#32 ∧ t.sc.last.outcome = .abandoned ∧ t.sc.last.serial = p.serial)))) ∧
  (∀ (m : Image) (g : Geometry), m.passes g = true → m.crc = Config.imageCrc m.numbers ∧
    m.format = Config.formatNumber ∧ m.reserved = 0 ∧ m.geo = g ∧ m.landmarks.length = 256 ∧
    m.coverage.length = g.nBlocks ∧ ((m.landmarks.filterMap id).countP (·.pinned)) ≤ 32 ∧
    ((m.landmarks.filterMap id).countP (·.origin)) ≤ 48 ∧
    (∀ l ∈ m.landmarks.filterMap id, 0 ≤ l.y ∧ l.y ≤ 4 * g.ch - 1 ∧ 1 ≤ l.hits ∧ l.hits ≤ 255 ∧ l.misses ≤ 15 ∧
      l.bin < g.nBins ∧ l.place < 8) ∧
    (m.closure.state = .none → m.closure.ce = 0 ∧ m.closure.ry = 0 ∧ m.closure.votes = 0 ∧ m.closure.serial = 0#16) ∧
    (∀ r, m.closure.last = some r → 6 ≤ r.votes ∧ r.votes ≤ 96) ∧
    ((m.window.filterMap id).map (·.serial)).Nodup ∧ 1 ≤ (m.window.filterMap id).length ∧
    (∀ r ∈ m.window.filterMap id, r.state = .blended ∧ ∃ u f, r.used = some u ∧ u.fixed = some f ∧ 0 ≤ u.y ∧
      u.y ≤ (g.ch : Int) - 1 ∧ f.feather ∈ [0, 8, 16, 32, 64] ∧ 32 ≤ f.gain ∧ f.gain ≤ 128) ∧
    (∀ o, Coverage.opened o ∈ m.coverage → ∃ r ∈ m.window.filterMap id, r.serial = o)) ∧
  (∀ (s : State) (k : SlotId) (m : Image) (st : ImageLandmark → Option LandmarkState), s.cx.op = .apply k →
    (s.cx.slot k).image = some m → s.me.pass = none → s.blendAtBoundary = true →
    st = (fun l => if 2 ≤ l.hits ∧ s.prm.missLimit ≤ l.misses then some .fading
      else if s.prm.anchorHits ≤ l.hits then some .anchored
      else if 2 ≤ l.hits then some .tracked
      else if l.hits = 1 ∧ s.prm.missLimit ≤ l.misses then (if l.pinned ∨ l.origin then some .fading else none)
      else some .tentative) →
    ∃ t, exec .rollbackReplace s = .next t ∧ t.sc.sweep = .sweeping ∧
      (∀ b, (t.bank b).state = .free ∧ (t.bank b).serial = none) ∧ t.pi.port = none ∧ t.pi.waiting = [] ∧
      t.pi.filling = [] ∧ t.pi.queue = [] ∧ t.pi.serial = s.pi.serial ∧
      t.sc.setAside = s.sc.setAside + BitVec.ofNat 32 s.openBanks ∧
      (∀ i, i < s.ltc.entries.length → t.ltc.gen i = s.ltc.gen i + 1#4 ∧
        (m.landmarks.getD i none = none → t.ltc.lm i = none) ∧
        (∀ l, m.landmarks.getD i none = some l → t.ltc.lm i = (st l).map fun c =>
          ⟨c, l.pinned, l.origin, l.x, l.y, l.descriptor, l.strength, l.hits, l.misses, l.firstSeen, l.lastSeen, l.bin,
            false⟩)) ∧
      t.ltc.live = t.ltc.entries.countP (fun e => e.lm.isSome) ∧
      t.ltc.pinned = t.ltc.entries.countP (fun e => e.lm.any (·.pinned)) ∧
      t.ltc.origin = t.ltc.entries.countP (fun e => e.lm.any (·.origin)) ∧ t.ltc.bins.length = s.geo.nBins ∧
      (m.passes s.geo = true → ∀ j, j < s.geo.nBins →
        (∀ i, i ∈ t.ltc.bin j ↔ ∃ l, m.landmarks.getD i none = some l ∧ l.bin = j ∧ (st l).isSome = true) ∧
        (t.ltc.bin j).Pairwise fun a b => ∀ la lb, m.landmarks.getD a none = some la →
          m.landmarks.getD b none = some lb → la.place < lb.place) ∧
      t.pw = (m.window.filterMap id).map (fun r => { r with
        owned := (m.coverage.filter fun c => decide (c = .opened r.serial)).length }) ∧
      t.bu.coverage = m.coverage ∧ t.bu.commitLine = m.commitLine ∧ t.bu.pass = none ∧ t.bu.join = none ∧
      (t.pw = [] → t.bu.reference = none) ∧
      (∀ r older u, t.pw = r :: older → r.used = some u → t.bu.reference = some ⟨s.geo.d * u.x,
        max 0 (roundDiv r.y 4), min ((s.geo.ch : Int) - 1) (roundDiv r.y 4 + s.geo.fh - 1)⟩) ∧
      t.me = ⟨m.motion, none, m.mode, m.predicted, none⟩ ∧ t.sc.progress = m.progress ∧ t.sc.flags = m.flags ∧
      t.sc.masks = m.masks ∧ t.sc.mark0 = m.mark0 ∧ t.sc.mark1 = m.mark1 ∧ t.sc.closure = m.closure ∧
      t.sc.markFinishWaits = false ∧ t.sc.captureFinishWaits = false ∧
      t.sc.capture = (if s.sc.captureFinishWaits then { s.sc.capture with result := .dropped } else s.sc.capture) ∧
      t.sc.captureFinish = s.sc.captureFinish ∧
      t.cx = { s.cx with lastResult := .ok, lastSlot := some k, op := .none } ∧ t.li.events.getLsbD 6 = true ∧
      t.sc.started = s.sc.started ∧ t.sc.placed = s.sc.placed ∧ t.sc.dropped = s.sc.dropped ∧ t.sc.cue = s.sc.cue ∧
      t.sc.pace = s.sc.pace ∧ t.prm = s.prm ∧ t.geo = s.geo ∧ t.dr = s.dr ∧ t.eu = s.eu ∧ t.mem = s.mem) ∧
  (∀ s : State, ((∀ k, s.cx.op ≠ .verify k) → exec .verifyEnd s = .next s) ∧
    ((∀ k, s.cx.op ≠ .apply k) ∨ s.me.pass ≠ none ∨ s.blendAtBoundary = false →
      exec .rollbackReplace s = .next s))

/-! ### Export (R154 to R158) -/

/-- EXPORT: the seven checks in their order; an accepted one is answered DONE, fixes columns, rows and scale, sets the
job RUNNING with no line sent and sends a frame-start. EXPORT STOP is refused in IDLE; a RUNNING job with a line in
progress becomes STOPPING, without one it ends as STOPPED; in STOPPING nothing changes but the reply (R152, R154,
R155, R158). A granted burst of EU begins the line and goes along it: EU reads a block's entry when it reaches the
block and keeps that reading for the block; a source value outside the canvas rows or in a block read as BLANK is
fill, luma 16 or chroma 128, and takes no memory read; of the others a burst reads up to 64 bytes (R10, R156).
EXPORT_LINE waits while a canvas byte of the line is unread (log 2); then the line is sent and counted; at the output
height a RUNNING job ends COMPLETE with a frame-end and EXPORT_DONE; a STOPPING job ends as STOPPED after its line in
progress, or at once without one; an idle unit does nothing. Whether the following line is in progress is a free value
(log 10). A FULL line carries one luma sample per column and on even-numbered lines the chroma pair of every second
column; a QUARTER line carries 2·floor(n/8) means of 16 source values and on even-numbered lines the means of 64
chroma values (R155 to R158). That EU takes the luma and the chroma of a list position together, in list order, is the
model's choice (log 8). -/
def Obligations.ExportJobSendsItsLines : Prop :=
  (∀ s : State,
     (∀ (p : List Byte) (col count row rows : Nat) (scale mode : Byte), s.delivers .exportStart p = true →
       p.length = 10 → u16At p 0 = col → u16At p 2 = count → u16At p 4 = row → u16At p 6 = rows →
       p[8]? = some scale → p[9]? = some mode → ∀ span, span = (if s.sc.closure.state = .joined then
         s.sc.closure.ce.toNat else min s.sc.progress s.geo.cw) →
       exec (.exportStart p) s = .next
         (if s.eu.state ≠ .idle then s.refuse .busy
         else if 1 < scale.toNat ∨ 1 < mode.toNat then s.refuse .badValue
         else if mode = 0#8 ∧ (s.geo.cw ≤ col ∨ count = 0 ∨ s.geo.cw < count) then s.refuse .badValue
         else if s.geo.ch ≤ row ∨ rows = 0 ∨ s.geo.ch < rows ∨ s.geo.ch < row + rows then s.refuse .badValue
         else if scale = 1#8 ∧ (rows < 8 ∨ (mode = 0#8 ∧ count < 8)) then s.refuse .badValue
         else if s.hasMemory = false then s.refuse .noMemory
         else if mode = 1#8 ∧ (span < 1 ∨ (scale = 1#8 ∧ span < 8)) then s.refuse .emptyEntry
         else { s with
           eu := ⟨.running, mode == 1#8, scale == 1#8,
             if mode = 1#8 then
               (if s.geo.direction = .east then List.range span else (List.range span).reverse).map fun (u : Nat) =>
                 (s.geo.memColU u, if s.sc.closure.state = .joined then
                   roundDiv (s.sc.closure.ry * u) s.sc.closure.ce.toNat else 0)
             else (List.range count).map fun i => ((col + i) % s.geo.cw, 0),
             row, rows, 0, s.eu.result, true, [], none⟩
           port := s.port ++ [.frameStart]
           li := { s.li with reply := ⟨.done, []⟩, processing := none } })) ∧
     (s.delivers .exportStop [] = true →
       (s.eu.state = .idle → exec (.exportStop []) s = .next (s.refuse .wrongState)) ∧
       (s.eu.state = .stopping → exec (.exportStop []) s = .next (s.answer [])) ∧
       (s.eu.state = .running → s.eu.lineBegun = true → exec (.exportStop []) s = .next { s with
         eu := { s.eu with state := .stopping }
         li := { s.li with reply := ⟨.done, []⟩, processing := none } }) ∧
       (s.eu.state = .running → s.eu.lineBegun = false → exec (.exportStop []) s = .next ((({ s with
         eu := { s.eu with state := .idle, result := .stopped, lineBegun := false, fetched := [], reached := none }
         port := s.port ++ [PortEvent.frameEnd] }).raise .exportDone).answer [])))) ∧
  (∀ (s : State) (left : List Source) (block : Source → Nat) (blank : Nat → Bool) (addr : Nat → Option Nat)
      (fill : Source → Byte), left = (s.eu.sources s.eu.linesSent).drop s.eu.fetched.length →
     block = (fun c => (s.eu.columns.getD c.pos (0, 0)).1 / 32) →
     (∀ n q, s.eu.reached = some q → (∀ c ∈ left.take (n + 1), block c = q.block) → blank n = q.blank) →
     (∀ n c, left[n]? = some c → (∀ q, s.eu.reached = some q → ∃ d ∈ left.take (n + 1), block d ≠ q.block) →
       blank n = decide (s.coverageAt (block c) = .blank)) →
     (∀ n c (col : Nat × Int) (r : Int), left[n]? = some c → col = s.eu.columns.getD c.pos (0, 0) → r = c.row + col.2 →
       addr n = if r < 0 ∨ (s.geo.ch : Int) ≤ r ∨ blank n = true then none else some (match c.part with
         | none => r.toNat * s.geo.cw + col.1
         | some part => s.geo.cw * s.geo.ch + r.toNat / 2 * s.geo.cw + 2 * (col.1 / 2) + part)) →
     fill = (fun c => if c.part = none then 16#8 else 128#8) →
     (s.ringWaits .eu = true ↔ (s.eu.state = .running ∨ (s.eu.state = .stopping ∧ s.eu.lineBegun = true)) ∧
       ∃ n, n < left.length ∧ (addr n).isSome = true) ∧
     (s.ringWaits .eu = true → exec .exportLine s = .next s) ∧
     (∃ (more : List Byte) (now : Option Reached), s.fetchBurst = { s with eu := { s.eu with
         lineBegun := true, fetched := s.eu.fetched ++ more, reached := now } } ∧ more.length ≤ left.length ∧
       (∀ n c, n < more.length → left[n]? = some c →
         more[n]? = some (match addr n with | some a => s.mem.read a | none => fill c)) ∧
       (∀ reads, reads = ((List.range more.length).filter fun n => (addr n).isSome).length → reads ≤ 64 ∧
         (more.length < left.length → reads = 64 ∧ (addr more.length).isSome = true)) ∧
       (more = [] → now = s.eu.reached) ∧
       (∀ n c, more.length = n + 1 → left[n]? = some c → now = some ⟨block c, blank n⟩)) ∧
     (∀ (value : Source → Byte) (luma : List Byte) (chroma : List (Byte × Byte)), s.ringWaits .eu = false →
       s.eu.state ≠ .idle → s.eu.fetched.length ≤ (s.eu.sources s.eu.linesSent).length →
       s.eu.fetched ++ left.map fill = (s.eu.sources s.eu.linesSent).map value →
       (s.eu.state = .stopping → s.eu.lineBegun = true) → s.nextLine = .line luma chroma →
       luma.length = (if s.eu.quarter then 2 * (s.eu.columns.length / 8) else s.eu.columns.length) ∧
       chroma.length = (if s.eu.linesSent % 2 = 1 then 0 else (luma.length + 1) / 2) ∧
       (∀ row, s.eu.quarter = false → row = s.eu.firstRow + s.eu.linesSent →
         (∀ i, i < luma.length → luma[i]? = some (value ⟨none, i, row⟩)) ∧
         (∀ i, i < chroma.length →
           chroma[i]? = some (value ⟨some 0, 2 * i, row⟩, value ⟨some 1, 2 * i, row⟩))) ∧
       (∀ row, s.eu.quarter = true → row = s.eu.firstRow + 4 * s.eu.linesSent →
         (∀ x, x < luma.length → luma[x]? = some (byteOf ((2 * ((List.range 4).map fun a =>
           ((List.range 4).map fun b => (value ⟨none, 4 * x + a, row + b⟩).toNat).sum).sum + 16) / 32))) ∧
         (∀ i, i < chroma.length → ∃ mean : Nat → Nat, chroma[i]? = some (byteOf (mean 0), byteOf (mean 1)) ∧
           ∀ part, mean part = (2 * ((List.range 8).map fun a =>
             ((List.range 8).map fun b => (value ⟨some part, 8 * i + a, row + b⟩).toNat).sum).sum + 64) / 128)) ∧
       (s.eu.state = .running →
         (s.eu.height ≤ s.eu.linesSent + 1 → exec .exportLine s = .next (({ s with
           eu := { s.eu with
             state := .idle, result := .complete, linesSent := s.eu.linesSent + 1
             lineBegun := false, fetched := [], reached := none }
           port := s.port ++ [PortEvent.line luma chroma, PortEvent.frameEnd] }).raise .exportDone)) ∧
         (s.eu.linesSent + 1 < s.eu.height → exec .exportLine s = .next { s with
           eu := { s.eu with
             linesSent := s.eu.linesSent + 1, lineBegun := Config.nextLineBegun s.free
             fetched := [], reached := none }
           port := s.port ++ [PortEvent.line luma chroma]
           free := s.free + 1 })) ∧
       (s.eu.state = .stopping → exec .exportLine s = .next (({ s with
         eu := { s.eu with
           state := .idle, result := .stopped, linesSent := s.eu.linesSent + 1
           lineBegun := false, fetched := [], reached := none }
         port := s.port ++ [PortEvent.line luma chroma, PortEvent.frameEnd] }).raise .exportDone)))) ∧
  (∀ s : State,
     (s.eu.state = .idle → exec .exportLine s = .next s) ∧
     (s.eu.state = .stopping → s.eu.lineBegun = false → exec .exportLine s = .next (({ s with
       eu := { s.eu with state := .idle, result := .stopped, lineBegun := false, fetched := [], reached := none }
       port := s.port ++ [PortEvent.frameEnd] }).raise .exportDone)))

/-! ### Intake (R15, R18 to R21) -/

/-- A frame-start in STORE first closes the frame being stored as DAMAGED, its buffered segments with it (R21, R24;
log 7). FRAME_START in AWAIT by sweep state: not counted in IDLE and FINISHED; counted otherwise with the next serial;
in ARMED and SWEEPING the lowest FREE bank becomes FILLING, emptied, and the port enters STORE, with none FREE the
frame is DROPPED_BUSY; DROPPED_HELD in HELD and DROPPED_CLOSING in CLOSING; with the list ENABLED a gap opens in
ARMED, SWEEPING and HELD with the frame's serial at the start pointer with budget 0 (R18, R25, R26, R164). An earlier
gap ends first, a word already read being applied; where that word faults no gap opens (R164, R166, log 16). -/
def Obligations.FrameStartBySweepState : Prop :=
  (∀ s : State,
     (∀ b v, s.pi.port = some b → (s.bank b).state = .filling → (s.bank b).serial = some v →
       exec .frameStart s = exec .frameStart (({ s with
         pi := { s.pi with
           port := none, waiting := [], filling := []
           queue := s.pi.queue.filter fun c => !decide (c = b)
           banks := s.pi.banks.set b { s.bank b with state := .free, serial := none } }
         sc := { s.sc with dropped := s.sc.dropped + 1#32, last := ⟨v, .damaged, 0, 0, 0, 0, 0, 0⟩ }
         me := { s.me with hint := s.me.hint.filter fun h => decide (h.tag ≠ some v) } }).raise .frameDropped))) ∧
  (∀ (s : State) (v : Serial) (gapped : Reader) (drop : FrameOutcome → Reader → State), s.pi.port = none →
     v = s.pi.serial + 1#16 → (∀ g, s.dr.gap = some g → g.word = none) →
     gapped = (if s.dr.enabled then { s.dr with readPtr := s.dr.startPtr, budget := 0, gap := some ⟨v, none⟩ } else s.dr) →
     drop = (fun o dr => ({ s with
       pi := { s.pi with serial := v }
       sc := { s.sc with
         started := s.sc.started + 1#32, dropped := s.sc.dropped + 1#32, last := ⟨v, o, 0, 0, 0, 0, 0, 0⟩ }
       me := { s.me with hint := s.me.hint.filter fun h => decide (h.tag ≠ some v) }
       dr := dr }).raise .frameDropped) →
     (s.sc.sweep = .idle ∨ s.sc.sweep = .finished → exec .frameStart s = .next s) ∧
     (s.sc.sweep = .closing → exec .frameStart s = .next (drop .droppedClosing s.dr)) ∧
     (∀ c, s.sc.sweep = .held c → exec .frameStart s = .next (drop .droppedHeld gapped)) ∧
     (s.sc.sweep = .armed ∨ s.sc.sweep = .sweeping →
       ((∀ b, (s.bank b).state ≠ .free) → exec .frameStart s = .next (drop .droppedBusy gapped)) ∧
       (∀ b, (s.bank b).state = .free → (∀ c, c.index < b.index → (s.bank c).state ≠ .free) →
         exec .frameStart s = .next { s with
           pi := { s.pi with
             port := some b, serial := v
             banks := s.pi.banks.set b ⟨.filling, some v, 0, false, .none, s.prm.cornerMin, [], [], [], 0⟩ }
           sc := { s.sc with started := s.sc.started + 1#32 }
           dr := gapped }))) ∧
  (∀ (s u t : State) (frame : Serial) (w : Word32) (n : Nat), s.pi.port = none →
     (s.sc.sweep = .armed ∨ s.sc.sweep = .sweeping ∨ ∃ c, s.sc.sweep = .held c) → s.dr.enabled = true →
     s.dr.gap = some ⟨frame, some ⟨w, n⟩⟩ → exec .frameStart { s with dr := { s.dr with enabled := false } } = .next u →
     t = (match decodeDirective n w with
       | some d => State.applyDirective { u with dr := s.dr } frame d
       | none => State.directiveFault { u with dr := s.dr }) →
     exec .frameStart s = .next { t with dr := if t.dr.enabled then
         { t.dr with readPtr := t.dr.startPtr, budget := 0, gap := some ⟨s.pi.serial + 1#16, none⟩ }
       else { t.dr with gap := none } })

/-- LINE: ignored in AWAIT; in STORE it takes the bank's line count as its number, which then rises by one; a wrong
luma or chroma count marks the bank; the bytes below FW and FW/2 of a line below FH enter the line buffer, in order
behind those already there: each segment that fills becomes waiting, and what waited before it has been granted and
written, so that one full segment and less than one more are buffered at the end; the fourth line of each group
completes a guide row; no other bank and nothing outside PI and memory changes (R15, R17, R19, R28). That a segment is
64 bytes is the model's choice (log 7). -/
def Obligations.LineFillsTheStoringBank : Prop :=
  ∀ (s : State) (luma : List Byte) (chroma : List (Byte × Byte)),
    (s.pi.port = none → exec (.line luma chroma) s = .next s) ∧
    (∀ b r (cells : List Host.Cell), s.memoryFits = true → s.pi.port = some b → r = (s.bank b).lineCount →
      cells = (if s.geo.fh ≤ r then [] else
        cellsAt (s.bankBase b + r * s.geo.fw) (luma.take s.geo.fw) ++ (if r % 2 = 1 then [] else
          cellsAt (s.bankBase b + s.geo.fw * s.geo.fh + r / 2 * s.geo.fw)
            ((chroma.take (s.geo.fw / 2)).flatMap fun c => [c.1, c.2]))) →
      ∃ (t : State) (written : List Host.Cell), exec (.line luma chroma) s = .next t ∧
        t = { s with mem := s.mem.writeAll written, pi := t.pi } ∧
        written ++ t.pi.waiting ++ t.pi.filling = s.pi.waiting ++ s.pi.filling ++ cells ∧
        t.pi.filling.length = (s.pi.filling.length + cells.length) % 64 ∧
        (s.pi.filling.length + cells.length < 64 → written = [] ∧ t.pi.waiting = s.pi.waiting) ∧
        (64 ≤ s.pi.filling.length + cells.length → t.pi.waiting.length = 64) ∧
        t.pi.port = s.pi.port ∧ t.pi.serial = s.pi.serial ∧ t.pi.queue = s.pi.queue ∧
        (∀ c, c ≠ b → t.bank c = s.bank c) ∧ (t.bank b).lineCount = min 65535 (r + 1) ∧
        ((t.bank b).damaged = true ↔ (s.bank b).damaged = true ∨ luma.length ≠ s.geo.fw ∨
          (r % 2 = 0 ∧ chroma.length ≠ s.geo.fw / 2) ∨ (r % 2 = 1 ∧ chroma ≠ [])) ∧
        (t.bank b).state = (s.bank b).state ∧ (t.bank b).serial = (s.bank b).serial ∧
        (t.bank b).drop = (s.bank b).drop ∧ (t.bank b).cornerMin = (s.bank b).cornerMin ∧
        (t.bank b).guide.length = (s.bank b).guide.length + (if r < s.geo.fh ∧ r % 4 = 3 then 1 else 0))

/-- FRAME_END: ignored in AWAIT; otherwise PI's grants write what is buffered, the last partial segment too, while the
bank is still FILLING (R15, R24; log 7), and then, in order, a wrong line count or the LENGTH mark is DAMAGED, a drop
mark is DROPPED_HELD or DROPPED_CLOSING, each with the bank FREE and FRAME_DROPPED, and a good frame's bank becomes
QUEUED at the tail with its candidate list completed; the port returns to AWAIT (R17, R20, R32). -/
def Obligations.FrameEndDecidesTheFrame : Prop :=
  ∀ s : State,
    (s.pi.port = none → exec .frameEnd s = .next s) ∧
    (∀ b v (drop : FrameOutcome → State), s.pi.port = some b → (s.bank b).state = .filling →
      (s.bank b).serial = some v → s.memoryFits = true →
      drop = (fun o => ({ s with
        mem := s.mem.writeAll (s.pi.waiting ++ s.pi.filling)
        pi := { s.pi with
          port := none, waiting := [], filling := []
          queue := s.pi.queue.filter fun c => !decide (c = b)
          banks := s.pi.banks.set b { s.bank b with state := .free, serial := none } }
        sc := { s.sc with dropped := s.sc.dropped + 1#32, last := ⟨v, o, 0, 0, 0, 0, 0, 0⟩ }
        me := { s.me with hint := s.me.hint.filter fun h => decide (h.tag ≠ some v) } }).raise .frameDropped) →
      ((s.bank b).lineCount ≠ s.geo.fh ∨ (s.bank b).damaged = true →
        exec .frameEnd s = .next (drop .damaged)) ∧
      ((s.bank b).lineCount = s.geo.fh → (s.bank b).damaged = false →
        ((s.bank b).drop = .held → exec .frameEnd s = .next (drop .droppedHeld)) ∧
        ((s.bank b).drop = .closing → exec .frameEnd s = .next (drop .droppedClosing)) ∧
        ((s.bank b).drop = .none → ∃ more, (∀ c ∈ more, (s.bank b).cornerMin ≤ c.strength) ∧
          exec .frameEnd s = .next { s with
            mem := s.mem.writeAll (s.pi.waiting ++ s.pi.filling)
            pi := { s.pi with
              port := none, waiting := [], filling := []
              queue := s.pi.queue ++ [b]
              banks := s.pi.banks.set b { s.bank b with
                state := .queued, cands := (s.bank b).cands ++ more, cellRows := 6 } } })))

/-- LINE and FRAME_END, in what they give the Corner Finder: every line adds its samples, 0 for one not delivered, to
the guide row in progress; the fourth makes the row of rounded means of 16, and a row of cells whose rows and the 8
below it are then written is selected; FRAME_END selects the cells not yet done, in cell order (R28, R32). A guide
cell's candidates are its two strongest corners, the stronger first and the earlier in raster order among equals, each
with its cell, its position q and p, the strength of R29 and the descriptor of R31; a corner is an eligible pixel
whose strength is at least CORNER_MIN and each neighbour's and above each earlier neighbour's (R29 to R32). -/
def Obligations.CornerFinderSelectsTheCandidates : Prop :=
  (∀ (s : State) (luma : List Byte) (chroma : List (Byte × Byte)) (b : BankId) (k : Bank) (total : List Nat),
     s.memoryFits = true → s.pi.port = some b → k = s.bank b → k.lineCount < s.geo.fh →
     (k.lineCount % 4 = 0 ∨ k.sums.length = s.geo.fw / 4) →
     total = (List.range (s.geo.fw / 4)).map (fun i => (if k.lineCount % 4 = 0 then 0 else k.sums.getD i 0) +
       ((List.range 4).map fun n => (luma.getD (4 * i + n) 0#8).toNat).sum) →
     ∃ t, exec (.line luma chroma) s = .next t ∧
       (k.lineCount % 4 ≠ 3 → (t.bank b).sums = total ∧ (t.bank b).guide = k.guide ∧ (t.bank b).cands = k.cands ∧
         (t.bank b).cellRows = k.cellRows) ∧
       (∀ img, k.lineCount % 4 = 3 → img = k.guide ++ [total.map fun n => byteOf ((n + 8) / 16)] →
         (t.bank b).sums = [] ∧ (t.bank b).guide = img ∧
         (k.cellRows < 6 ∧ ((k.cellRows + 1) * (s.geo.fh / 4) - 1) / 6 + 9 ≤ img.length →
           (t.bank b).cellRows = k.cellRows + 1 ∧ (t.bank b).cands = k.cands ++
             (List.range 8).flatMap (s.geo.cellCandidates img k.cornerMin k.cellRows)) ∧
         (¬ (k.cellRows < 6 ∧ ((k.cellRows + 1) * (s.geo.fh / 4) - 1) / 6 + 9 ≤ img.length) →
           (t.bank b).cellRows = k.cellRows ∧ (t.bank b).cands = k.cands))) ∧
  (∀ (s : State) (b : BankId) (k : Bank), s.memoryFits = true → s.pi.port = some b → k = s.bank b →
     k.state = .filling → k.lineCount = s.geo.fh → k.damaged = false → k.drop = .none →
     ∃ t, exec .frameEnd s = .next t ∧ (t.bank b).state = .queued ∧ (t.bank b).cands = k.cands ++
       ((List.range 6).filter fun row => decide (k.cellRows ≤ row)).flatMap fun row =>
         (List.range 8).flatMap (s.geo.cellCandidates k.guide k.cornerMin row)) ∧
  (∀ (g : Geometry) (img : List (List Byte)) (cornerMin row col : Nat) (pix : Nat → Nat → Int)
      (around : Nat → Nat → List (Nat × Nat)) (dx dy : Nat × Nat → Int) (strength : Nat → Nat → Nat)
      (corner : Nat → Nat → Prop) (cs : List Candidate), 0 < g.fw / 32 →
     pix = (fun t gy => (((img.getD gy []).getD (match g.direction with | .east => t | .west => g.fw / 4 - 1 - t)
       0#8).toNat : Int)) →
     around = (fun t gy => (List.range 3).flatMap fun j => (List.range 3).map fun i => (t + i - 1, gy + j - 1)) →
     dx = (fun (c : Nat × Nat) => pix (c.1 + 1) c.2 - pix (c.1 - 1) c.2) →
     dy = (fun (c : Nat × Nat) => pix c.1 (c.2 + 1) - pix c.1 (c.2 - 1)) →
     (∀ t gy sxx syy sxy, sxx = ((around t gy).map fun c => dx c * dx c).sum →
       syy = ((around t gy).map fun c => dy c * dy c).sum → sxy = ((around t gy).map fun c => dx c * dy c).sum →
       strength t gy = (max 0 (min 65535 ((sxx * syy - sxy * sxy) / (sxx + syy + 1)))).toNat) →
     corner = (fun t gy => t / (g.fw / 32) = col ∧ 6 * gy / (g.fh / 4) = row ∧ gy < g.fh / 4 ∧ 8 ≤ t ∧
       t + 9 ≤ g.fw / 4 ∧ 8 ≤ gy ∧ gy + 9 ≤ g.fh / 4 ∧ cornerMin ≤ strength t gy ∧
       ∀ c ∈ around t gy, strength c.1 c.2 ≤ strength t gy ∧
         (c.2 < gy ∨ (c.2 = gy ∧ c.1 < t) → strength c.1 c.2 < strength t gy)) →
     cs = g.cellCandidates img cornerMin row col →
     cs.length ≤ 2 ∧
     cs.Pairwise (fun a b => b.strength < a.strength ∨ (b.strength = a.strength ∧ (a.p < b.p ∨
       (a.p = b.p ∧ a.q < b.q)))) ∧
     (∀ c ∈ cs, ∃ t gy, corner t gy ∧ c.cell = 8 * row + col ∧ c.q = 16 * t + 6 ∧ c.p = 16 * gy + 6 ∧
       c.strength = strength t gy ∧ ∀ i j, i < 8 → j < 8 → c.descriptor.getLsbD (8 * i + j) =
         decide ((2 * ((around t gy).map fun c => pix c.1 c.2).sum + 9) / 18 <
           pix (t - 7 + 2 * j) (gy - 7 + 2 * i))) ∧
     (∀ t gy, corner t gy → (∃ c ∈ cs, c.q = 16 * t + 6 ∧ c.p = 16 * gy + 6) ∨
       (cs.length = 2 ∧ ∀ c ∈ cs, strength t gy < c.strength ∨ (strength t gy = c.strength ∧
         (c.p < 16 * gy + 6 ∨ (c.p = 16 * gy + 6 ∧ c.q < 16 * t + 6))))))

/-! ### The match pass (R62 to R72, R74 to R81, R85) -/

/-- MATCH_BANK_TAKE: with no pass in progress, no stop standing and a QUEUED bank at the head, ARMED begins the origin
pass at X 0 and four times the start row, SWEEPING a match pass with its prediction by the table of R65 (hint, one
entry, two entries, SEARCHING) and progress as read; the bank becomes MATCHING and the queue advances; otherwise
nothing is taken (R62, R65, R66, R67, R85). -/
def Obligations.BankTakeBeginsThePass : Prop :=
  ∀ s : State,
    (s.me.pass ≠ none ∨ s.pi.queue = [] ∨ s.stopping = true ∨
      (s.sc.sweep ≠ .armed ∧ s.sc.sweep ≠ .sweeping) → exec .matchBankTake s = .next s) ∧
    (∀ b rest v pi, s.me.pass = none → s.pi.queue = b :: rest → (s.bank b).state = .queued → s.stopping = false →
      (s.bank b).serial = some v →
      pi = { s.pi with queue := rest, banks := s.pi.banks.set b { s.bank b with state := .matching } } →
      (s.sc.sweep = .armed → exec .matchBankTake s = .next { s with
        pi := pi
        me := ⟨[⟨v, 0, 4 * s.geo.startRow⟩], s.me.hint.filter fun h => decide (h.tag ≠ some v), .locked, 0,
          some { Pass.fresh v b (s.bank b).cands (.push false) with how := .origin, y := 4 * s.geo.startRow }⟩ }) ∧
      (s.sc.sweep = .sweeping → ∃ x y hint,
        exec .matchBankTake s = .next { s with
          pi := pi
          me := { s.me with
            hint := hint
            pass := some { Pass.fresh v b (s.bank b).cands
              (if (s.bank b).cands = [] then .solve else .lookup 0 false) with
              predX := x, predY := y, progress := s.sc.progress } } } ∧
        (∀ h m older, s.me.hint = some h → h.tag = none ∨ h.tag = some v → s.me.motion = m :: older →
          hint = none ∧ x = m.x + 4 * s.geo.d * h.dx ∧ y = m.y + 4 * h.dy) ∧
        (s.me.hint = none ∨ (∃ h u, s.me.hint = some h ∧ h.tag = some u ∧ u ≠ v) → hint = s.me.hint ∧
          (∀ m, s.me.motion = [m] → x = m.x ∧ y = m.y) ∧
          (∀ m o older, s.me.motion = m :: o :: older → s.me.mode = .searching ∨ m.serial = o.serial →
            x = m.x ∧ y = m.y) ∧
          (∀ m o older (k n : Nat), s.me.motion = m :: o :: older → s.me.mode ≠ .searching → m.serial ≠ o.serial →
            k = (v - m.serial).toNat → n = (m.serial - o.serial).toNat →
            x = m.x + roundDiv ((m.x - o.x) * k) n ∧ y = m.y + roundDiv ((m.y - o.y) * k) n))))

/-- LOOKUP: the pass's next claim reads the run of bins of R67, and the candidate takes the result of the comparisons
with the landmarks listed there, in the order returned, that lie in the window: MATCH, STALE or AMBIGUOUS up to
MATCH_DIST, NEAR up to twice it, FAR beyond, NONE without any, by the lowest Hamming distance and the first returned
among equals. In the wrapped lookup only ORIGIN landmarks in the wrapped window are compared, and the best within
MATCH_DIST is the wrapped vote. The stage goes to the candidate's wrapped lookup where one is due, to the next
candidate, or to the solve; nothing outside the pass record changes (R38, R67 to R69), but a stop that stands ends the
pass behind the last lookup of a candidate, its frame ABANDONED in its MATCHING bank, and not between the two (R63,
log 9). That a landmark at exactly the window's distance is compared is the model's choice (log 34), the count of the
wrapped run and the rising order of every run its reading (logs 29, 40), and that the step changes nothing while no
lookup is due is log 2. -/
def Obligations.LookupComparesOneCandidate : Prop :=
  ∀ (s : State) (p : Pass), s.me.pass = some p →
    ((∀ j w, p.stage ≠ .lookup j w) → exec .lookup s = .next s) ∧
    (∀ i w, p.stage = .lookup i w → s.stopping = true →
      w = true ∨ s.prm.closeEnable = false ∨ p.progress ≤ s.geo.fw →
      ∃ t, exec .lookup s = .next t ∧ t = { s with me := { s.me with pass := none }, pi := t.pi, sc := t.sc } ∧
        (p.bank = none → t.pi = s.pi ∧ t.sc = s.sc) ∧
        (∀ b, p.bank = some b → (s.bank b).state = .matching →
          t.pi = { s.pi with
            banks := s.pi.banks.set b { s.bank b with state := .free, serial := none }
            queue := s.pi.queue.filter fun c => decide (c ≠ b) } ∧
          t.sc = { s.sc with setAside := s.sc.setAside + 1#32, last := t.sc.last } ∧
          t.sc.last.outcome = .abandoned ∧ t.sc.last.serial = p.serial)) ∧
    (∀ (i : Nat) (c : PassCand) (xc yc : Int) (run : Int → Nat → List Nat)
       (comps : List Nat → (Landmark → Bool) → List (Sighting × LandmarkState)), p.cands[i]? = some c →
      xc = p.predX + s.geo.d * c.cand.q → yc = p.predY + c.cand.p →
      run = (fun (first : Int) n => (List.range n).map fun (k : Nat) => ((first + k) % s.geo.nBins).toNat) →
      (∀ bins f, comps bins f = (bins.flatMap s.ltc.bin).filterMap fun k => (s.ltc.lm k).bind fun r =>
        if f r then some (⟨k, s.ltc.gen k, r.x, r.y, ((List.range 64).filter fun n =>
          c.cand.descriptor.getLsbD n != r.descriptor.getLsbD n).length⟩, r.state) else none) →
      (∀ (bins : List Nat) (near : Landmark → Bool) (cs : List (Sighting × LandmarkState)), p.stage = .lookup i false →
        bins = (if s.me.mode = .searching then
            run ((s.geo.binOf (4 * (xc / 4 - (s.geo.fw / 2 : Nat))) : Int) - 1)
              ((((s.geo.binOf (4 * (xc / 4 + (s.geo.fw / 2 : Nat))) : Int) -
                s.geo.binOf (4 * (xc / 4 - (s.geo.fw / 2 : Nat)))) % s.geo.nBins).toNat + 3)
          else run ((s.geo.binOf xc : Int) - 1) 3) →
        near = (fun r => decide (
          min ((r.x - xc) % (4 * s.geo.cw)) (4 * s.geo.cw - (r.x - xc) % (4 * s.geo.cw)) ≤
            (if s.me.mode = .searching then 2 * s.geo.fw else 4 * s.prm.searchRadius : Nat) ∧
          (r.y - yc).natAbs ≤ (if s.me.mode = .searching then 2 * s.geo.fh else 4 * s.prm.searchRadius) ∧
          (r.x - xc).natAbs ≤ 2 * s.geo.cw)) →
        cs = comps bins near →
        s.stopping = false ∨ (s.prm.closeEnable = true ∧ s.geo.fw < p.progress) →
        ∃ (v : Verdict) (l : Option Sighting), exec .lookup s = .next { s with me := { s.me with pass := some { p with
            cands := p.cands.set i { c with verdict := v, chosen := l }
            stage := if s.prm.closeEnable = true ∧ s.geo.fw < p.progress then .lookup i true
              else if i + 1 < p.cands.length then .lookup (i + 1) false else .solve } } } ∧
          (cs = [] → v = .none ∧ l = none) ∧
          (∀ before b st after, cs = before ++ (b, st) :: after → (∀ e ∈ before, b.dist < e.1.dist) →
            (∀ e ∈ after, b.dist ≤ e.1.dist) →
            (b.dist ≤ s.prm.matchDist → st = .fading → v = .stale ∧ l = some b) ∧
            (b.dist ≤ s.prm.matchDist → st ≠ .fading → (∃ e ∈ before ++ after, e.1.dist < b.dist + 3) →
              v = .ambiguous ∧ l = none) ∧
            (b.dist ≤ s.prm.matchDist → st ≠ .fading → (∀ e ∈ before ++ after, b.dist + 3 ≤ e.1.dist) →
              v = .isMatch ∧ l = some b) ∧
            (s.prm.matchDist < b.dist → b.dist ≤ 2 * s.prm.matchDist → v = .near ∧ l = some b) ∧
            (2 * s.prm.matchDist < b.dist → v = .far ∧ l = some b))) ∧
      (∀ (bins : List Nat) (near : Landmark → Bool) (cs : List (Sighting × LandmarkState)), p.stage = .lookup i true →
        bins = run (if s.geo.direction = .east then ((s.geo.startCol / 64 : Nat) : Int) - 1
          else ((s.geo.startCol / 64 : Nat) : Int) - ((s.geo.fw + 63) / 64 : Nat)) ((s.geo.fw + 63) / 64 + 2) →
        near = (fun r => r.origin && decide (4 * ((s.geo.fw : Int) - s.prm.searchRadius) ≤ s.geo.d * (xc - r.x) ∧
          s.geo.d * (xc - r.x) ≤ 4 * ((s.geo.cw : Int) - 64 + s.prm.searchRadius) ∧
          (r.y - yc).natAbs ≤ 4 * (s.prm.searchRadius + s.prm.closeVtol))) →
        cs = comps bins near → s.stopping = false →
        ∃ c' : PassCand, exec .lookup s = .next { s with me := { s.me with pass := some { p with
            cands := p.cands.set i c'
            stage := if i + 1 < p.cands.length then .lookup (i + 1) false else .solve } } } ∧
          ((∀ e ∈ cs, s.prm.matchDist < e.1.dist) → c' = c) ∧
          (∀ before b st after, cs = before ++ (b, st) :: after → b.dist ≤ s.prm.matchDist →
            (∀ e ∈ before, b.dist < e.1.dist) → (∀ e ∈ after, b.dist ≤ e.1.dist) →
            c' = { c with wrapVote := some b, verdict := if c.verdict = .none then .wrapped else c.verdict })))

/-- SOLVE: of the candidates that chose one landmark, and of those whose wrapped votes name one, the one of lowest
distance, then highest strength, then earliest keeps it and the others become AMBIGUOUS or lose the vote (R70); the
MATCH votes elect the vote with the most neighbours, then nearest the prediction, then earliest; inliers are it and
its neighbours within 8 quarter units in each axis, the solved offset their rounded mean, and the pass goes to the
judge; with no MATCH vote there are 0 inliers and no offset (R71). A STALE candidate whose offset lies within 8 of the
solved one is a revival, and the wrapped votes elect the closure cluster in the same way (R72). Only the pass record
changes. -/
def Obligations.SolveElectsTheBusiestVote : Prop :=
  ∀ (s : State) (p : Pass), s.me.pass = some p → p.stage = .solve →
    ∃ (q : Pass) (votes wrapped : List (Int × Int)),
      exec .solve s = .next { s with me := { s.me with pass := some q } } ∧
      q = { p with
        cands := q.cands, inliers := q.inliers, solved := q.solved, wrapMean := q.wrapMean, stage := .judge } ∧
      q.cands.length = p.cands.length ∧
      (∀ (claim : PassCand → Option Sighting) (beaten : (PassCand → Option Sighting) → Nat → PassCand → Prop),
        claim = (fun c => if c.verdict = .isMatch ∨ c.verdict = .stale then c.chosen else none) →
        beaten = (fun pick i c => ∃ j e l m, p.cands[j]? = some e ∧ pick c = some l ∧ pick e = some m ∧
          m.index = l.index ∧ (m.dist < l.dist ∨ (m.dist = l.dist ∧ (c.cand.strength < e.cand.strength ∨
            (c.cand.strength = e.cand.strength ∧ j < i))))) →
        ∀ i c c', p.cands[i]? = some c → q.cands[i]? = some c' →
          c'.cand = c.cand ∧
          (beaten claim i c → c'.chosen = none ∧ c'.verdict = .ambiguous) ∧
          (¬ beaten claim i c → c'.chosen = c.chosen ∧
            (c.verdict ≠ .wrapped ∨ ¬ beaten (fun c => c.wrapVote) i c →
            c'.verdict = c.verdict) ∧ (c.verdict = .wrapped → beaten (fun c => c.wrapVote) i c →
            c'.verdict = .ambiguous)) ∧
          (beaten (fun c => c.wrapVote) i c → c'.wrapVote = none) ∧
          (¬ beaten (fun c => c.wrapVote) i c → c'.wrapVote = c.wrapVote)) ∧
      (∀ (offset : PassCand → Sighting → Int × Int) (close : Int × Int → Int × Int → Prop)
        (elects : List (Int × Int) → Int × Int → List (Int × Int) → Prop),
        offset = (fun (c : PassCand) (l : Sighting) => (l.x - s.geo.d * c.cand.q, l.y - c.cand.p)) →
        close = (fun (u v : Int × Int) => (u.1 - v.1).natAbs ≤ 8 ∧ (u.2 - v.2).natAbs ≤ 8) →
        (∀ vs w near, elects vs w near ↔ ∃ (before after : List (Int × Int)) (count far : Int × Int → Nat),
          vs = before ++ w :: after ∧
          (∀ u, count u = (vs.filter fun v =>
            decide ((u.1 - v.1).natAbs ≤ 8 ∧ (u.2 - v.2).natAbs ≤ 8)).length) ∧
          (∀ u, far u = (u.1 - p.predX).natAbs + (u.2 - p.predY).natAbs) ∧
          (∀ u ∈ before, count u < count w ∨ (count u = count w ∧ far w < far u)) ∧
          (∀ u ∈ after, count u < count w ∨ (count u = count w ∧ far w ≤ far u)) ∧
          near = vs.filter fun v => decide ((w.1 - v.1).natAbs ≤ 8 ∧ (w.2 - v.2).natAbs ≤ 8)) →
        votes = q.cands.filterMap (fun c => if c.verdict = .isMatch then c.chosen.map (offset c) else none) ∧
        wrapped = q.cands.filterMap (fun c => c.wrapVote.map (offset c)) ∧
        (votes = [] → q.inliers = 0 ∧ q.solved = none ∧ q.wrapMean = none ∧
          ∀ (i : Nat) c c', p.cands[i]? = some c → q.cands[i]? = some c' → c'.inlier = c.inlier ∧
            c'.revival = c.revival) ∧
        (votes ≠ [] → ∃ w near mean, elects votes w near ∧ q.inliers = near.length ∧ q.solved = some mean ∧
          mean = (roundDiv (near.map Prod.fst).sum near.length, roundDiv (near.map Prod.snd).sum near.length) ∧
          (∀ c ∈ q.cands,
            (c.inlier = true ↔ c.verdict = .isMatch ∧ ∃ l, c.chosen = some l ∧ close w (offset c l)) ∧
            (c.revival = true ↔ c.verdict = .stale ∧ ∃ l, c.chosen = some l ∧ close mean (offset c l))) ∧
          (wrapped = [] → q.wrapMean = none) ∧
          (wrapped ≠ [] → ∃ w' near', elects wrapped w' near' ∧ q.wrapMean = some (near'.length,
            roundDiv (near'.map Prod.fst).sum near'.length, roundDiv (near'.map Prod.snd).sum near'.length))))

/-- JUDGE, for a frame with no closure cluster, in the outcomes of its checks: enough inliers enter the motion record,
make the mode LOCKED and, with every check passed, lead to the push as MATCHED; DWELL, and REVERSED where its default
is taken; too few inliers are UNPLACED without a report in SEARCHING, hold at an unmasked LOW_MATCH while SWEEPING,
which marks a storing bank HELD, and with the defaults of LOW_MATCH and LOST at the limit make the mode SEARCHING;
below the limit the frame is placed on prediction and judged on from check 2 in COASTING. A default is taken where the
condition is masked and, whatever the mask, in CLOSING (R22, R64, R73 to R80, R124, R125). -/
def Obligations.JudgeDecidesTheFrame : Prop :=
  ∀ (s : State) (p : Pass) (b : BankId) (off : Condition → Prop), s.me.pass = some p → p.stage = .judge →
    p.bank = some b → (s.bank b).state = .matching → p.wrapMean = none →
    (∀ c, off c ↔ s.masked c = true ∨ s.sc.sweep = .closing) →
    (∀ (x y u step : Int) (q : Pass) (m : Matcher) (setAside : LastFrame → State) (newest : Placement)
        (older : List Placement), s.pw = newest :: older → p.solved = some (x, y) →
      s.prm.minInliers ≤ p.inliers → u = roundDiv (s.geo.d * x) 4 →
      step = u - roundDiv (s.geo.d * newest.x) 4 →
      q = { p with how := .matched, x := x, y := y, step := step } →
      m = { s.me with motion := ⟨p.serial, x, y⟩ :: s.me.motion.take 1, mode := .locked, predicted := 0 } →
      setAside = (fun lf => { s with
        pi := { s.pi with
          queue := s.pi.queue.filter fun c => !decide (c = b)
          banks := s.pi.banks.set b { s.bank b with state := .free, serial := none } }
        sc := { s.sc with setAside := s.sc.setAside + 1#32, last := lf } }) →
      (s.prm.minStep ≤ step → 0 ≤ roundDiv y 4 → roundDiv y 4 + s.geo.fh ≤ s.geo.ch →
        s.prm.minOverlap ≤ s.geo.fw - step → u + s.geo.fw ≤ s.geo.cw - 32 →
        exec .judge s = .next { s with
          me := { m with pass := some { q with overlap := s.geo.fw - step, closure := none, stage := .push false } } }) ∧
      (-(s.prm.reverseTol : Int) ≤ step → step < s.prm.minStep →
        exec .judge s = .next { setAside ⟨p.serial, .dwell, x, y, p.inliers, 0, 0, step⟩ with
          me := { m with pass := some { q with bank := none, stage := .footprint } } }) ∧
      (step < -(s.prm.reverseTol : Int) → off .reversal →
        ∃ t, t = setAside ⟨p.serial, .reversed, x, y, p.inliers, 0, 0, step⟩ ∧
          exec .judge s = .next { t with
            sc := { t.sc with flags := s.sc.flags ||| Condition.reversal.mask }
            me := { m with pass := none } })) ∧
    (p.solved = none ∨ p.inliers < s.prm.minInliers →
      (s.me.mode = .searching → exec .judge s = .next { s with
        pi := { s.pi with
          queue := s.pi.queue.filter fun c => !decide (c = b)
          banks := s.pi.banks.set b { s.bank b with state := .free, serial := none } }
        sc := { s.sc with
          setAside := s.sc.setAside + 1#32, last := ⟨p.serial, .unplaced, 0, 0, p.inliers, 0, 0, 0⟩ }
        me := { s.me with pass := none } }) ∧
      (s.me.mode ≠ .searching → s.sc.sweep = .sweeping → s.masked .lowMatch = false → ∀ marked : Intake,
        marked = (match s.pi.port with
        | some c => if (s.bank c).drop = .none then
            { s.pi with banks := s.pi.banks.set c { s.bank c with drop := .held } } else s.pi
        | none => s.pi) →
        exec .judge s = .next (({ s with
          pi := marked
          sc := { s.sc with sweep := .held .lowMatch, flags := s.sc.flags ||| Condition.lowMatch.mask }
          me := { s.me with pass := some { p with stage := .judgeHeld } } }).raise .held)) ∧
      (s.me.mode ≠ .searching → off .lowMatch → off .lost →
        s.prm.predictLimit ≤ s.me.predicted → exec .judge s = .next { s with
          pi := { s.pi with
            queue := s.pi.queue.filter fun c => !decide (c = b)
            banks := s.pi.banks.set b { s.bank b with state := .free, serial := none } }
          sc := { s.sc with
            flags := s.sc.flags ||| Condition.lowMatch.mask ||| Condition.lost.mask
            setAside := s.sc.setAside + 1#32, last := ⟨p.serial, .unplaced, 0, 0, p.inliers, 0, 0, 0⟩ }
          me := { s.me with mode := .searching, predicted := 0, pass := none } }) ∧
      (s.me.mode ≠ .searching → off .lowMatch → s.me.predicted < s.prm.predictLimit →
        exec .judge s = .next (({ s with
          sc := { s.sc with flags := s.sc.flags ||| Condition.lowMatch.mask }
          me := { s.me with mode := .coasting, predicted := s.me.predicted + 1 } }).check2
            { p with how := .predicted, x := p.predX, y := p.predY })))

/-- JUDGE, in its reports, for a solved frame that moved enough, in SWEEPING and CLOSING: VERTICAL where the rows
leave the canvas, SPEED where the overlap is below MIN_OVERLAP, CANVAS_FULL where the leading edge passes CW − 32 and
the closure test is not met. An unmasked one in SWEEPING sets its flag and holds the sweep, a storing bank being
marked HELD and the pass waiting at that check; a masked one, and any in CLOSING, sets its flag and takes its default:
CLIPPED, GAP where the overlap is negative, or CANVAS_END with the sweep CLOSING and a storing bank marked so. The
closure test is made at check 5 on the cluster and the solved offset, and its result kept in the pass record. REVERSAL
and LOST hold in the same way (R22, R74 to R80, R124, R125, R145). -/
def Obligations.JudgeReportsAndTestsTheClosure : Prop :=
  ∀ (s : State) (p : Pass) (b : BankId) (newest : Placement) (older : List Placement)
      (off : Condition → Prop) (marked : Intake) (held : Condition → BitVec 8 → Matcher → Pass → State),
    s.me.pass = some p → p.stage = .judge → p.bank = some b → (s.bank b).state = .matching → s.pw = newest :: older →
    s.sc.sweep = .sweeping ∨ s.sc.sweep = .closing → (∀ c, off c ↔ s.masked c = true ∨ s.sc.sweep = .closing) →
    marked = (match s.pi.port with
        | some c => if (s.bank c).drop = .none then
            { s.pi with banks := s.pi.banks.set c { s.bank c with drop := .held } } else s.pi
        | none => s.pi) →
    held = (fun c flags m r => ({ s with
      pi := marked
      sc := { s.sc with sweep := .held c, flags := flags ||| c.mask }
      me := { m with pass := some { r with stage := .judgeHeld } } }).raise .held) →
    (∀ (x y u step lap : Int) (q q1 q2 : Pass) (m : Matcher) (f1 f2 : BitVec 8) (vert fast full : Bool)
        (test : Option ClosureTest),
      p.solved = some (x, y) → s.prm.minInliers ≤ p.inliers → u = roundDiv (s.geo.d * x) 4 →
      step = u - roundDiv (s.geo.d * newest.x) 4 → lap = roundDiv (s.geo.d * newest.x) 4 + s.geo.fw - u →
      m = { s.me with motion := ⟨p.serial, x, y⟩ :: s.me.motion.take 1, mode := .locked, predicted := 0 } →
      vert = decide (roundDiv y 4 < 0 ∨ (s.geo.ch : Int) < roundDiv y 4 + s.geo.fh) →
      fast = decide (lap < s.prm.minOverlap) →
      (p.wrapMean = none → test = none) →
      (∀ n xw yw ry ce, p.wrapMean = some (n, xw, yw) → ry = roundDiv (y - yw) 4 →
        ce = roundDiv (s.geo.d * (x - xw)) 4 →
        test = if n < s.prm.closeMin then none else some ⟨ce, ry, n,
          if s.prm.closeVtol < ry.natAbs then some .residual
          else if ce < s.geo.fw ∨ (s.geo.cw : Int) - 64 < ce then some .circumference else none⟩) →
      full = (decide ((s.geo.cw : Int) - 32 < u + s.geo.fw) && !test.any fun c => c.reason.isNone) →
      f1 = s.sc.flags ||| (if vert then Condition.vertical.mask else 0#8) →
      f2 = f1 ||| (if fast then Condition.speed.mask else 0#8) →
      q = { p with how := .matched, x := x, y := y, step := step } →
      q1 = (if vert then { q with clipped := true } else q) →
      q2 = { q1 with overlap := lap, gap := if fast then decide (lap < 0) else p.gap } →
      (step < -(s.prm.reverseTol : Int) → ¬ off .reversal →
        exec .judge s = .next (held .reversal s.sc.flags m q)) ∧
      (-(s.prm.reverseTol : Int) ≤ step → s.prm.minStep ≤ step →
        (vert = true → ¬ off .vertical → exec .judge s = .next (held .vertical s.sc.flags m q)) ∧
        ((vert = true → off .vertical) →
          (fast = true → ¬ off .speed →
            exec .judge s = .next (held .speed f1 m { q1 with overlap := lap })) ∧
          ((fast = true → off .speed) →
            (full = true → ¬ off .canvasFull →
              exec .judge s = .next (held .canvasFull f2 m { q2 with closure := test })) ∧
            (full = true → off .canvasFull → s.pi.queue = [] → ∃ t, exec .judge s = .next t ∧
              t.sc.sweep = .closing ∧ t.sc.flags = f2 ||| Condition.canvasFull.mask ∧ t.me = { m with pass := none } ∧
              (t.bank b).state = .free ∧ t.sc.setAside = s.sc.setAside + 1#32 ∧
              (∀ c, s.pi.port = some c → c ≠ b → (t.bank c).drop =
                if s.sc.sweep = .sweeping ∧ (s.bank c).drop = .none then .closing else (s.bank c).drop) ∧
              t.sc.last = ⟨p.serial, .canvasEnd, x, y, p.inliers, 0, 0, step⟩ ∧ t.pw = s.pw ∧ t.bu = s.bu) ∧
            (full = false → exec .judge s = .next { s with
              sc := { s.sc with flags := f2 }
              me := { m with pass := some { q2 with closure := test, stage := .push false } } }))))) ∧
    (p.solved = none ∨ p.inliers < s.prm.minInliers → s.me.mode ≠ .searching → off .lowMatch →
      ¬ off .lost → s.prm.predictLimit ≤ s.me.predicted →
      exec .judge s = .next (held .lost (s.sc.flags ||| Condition.lowMatch.mask) s.me p))

/-- PUSH, in what the window and its conditions do: deferred during a checkpoint's quiet wait or copy; with room the
record enters at depth 0 as PLACED, the bank becomes PLACED, the outcome is counted, FRAME_PLACED raised, progress and
PACE follow the placement, the update stage comes next, and the origin's push takes ARMED to SWEEPING; with a clash or
8 records WINDOW_OVERFLOW holds the sweep where it is unmasked in SWEEPING, a storing bank being marked HELD, and
otherwise the victim, the clashing record or depth 7, leaves and its OPEN blocks are COMMITTED, but not inside a block
write, whose end the push then waits for (R22, R81, R92 to R94, R113, R123, R125, R137, R138, log 38). -/
def Obligations.PushEntersTheWindow : Prop :=
  ∀ (s : State) (p : Pass) (b : BankId) (a : Bool), s.me.pass = some p → p.stage = .push a → p.bank = some b →
    (s.bank b).state = .matching →
    (s.saving = true → exec .push s = .next s) ∧
    (s.saving = false →
      (s.pw.length < 8 → (∀ r ∈ s.pw, r.serial ≠ p.serial) → ∃ t, exec .push s = .next t ∧
        t.pw = ⟨p.serial, .placed, p.how, p.x, p.y, if p.how = .matched then p.inliers else 0, 0, p.step, p.overlap,
          p.clipped, p.gap, false, 0, none⟩ :: s.pw ∧
        (t.bank b).state = .placed ∧ (t.bank b).serial = (s.bank b).serial ∧ (t.bank b).cands = (s.bank b).cands ∧
        t.sc.placed = s.sc.placed + 1#32 ∧ t.sc.started = s.sc.started ∧ t.sc.setAside = s.sc.setAside ∧
        t.sc.progress = min 65535 (roundDiv (s.geo.d * p.x) 4 + s.geo.fw).toNat ∧
        (t.sc.pace = true ↔ (s.prm.paceLimit : Int) < p.step) ∧ t.li.events.getLsbD 13 = true ∧
        t.me = { s.me with hint := t.me.hint, pass := some { p with
          bank := none, pushed := true, stage := if p.how = .matched then .footprint else .opening } } ∧
        (p.how = .origin → s.sc.sweep = .armed → s.sc.mark0.action ≠ .finish → s.sc.mark1.action ≠ .finish →
          t.sc.sweep = .sweeping) ∧
        t.bu = s.bu ∧ t.ltc = s.ltc ∧ t.mem = s.mem ∧ t.cx = s.cx ∧ t.eu = s.eu ∧ t.dr = s.dr ∧ t.geo = s.geo ∧
        t.prm = s.prm ∧ t.sc.flags = s.sc.flags ∧ t.sc.masks = s.sc.masks) ∧
      ((∃ r ∈ s.pw, r.serial = p.serial) ∨ 8 ≤ s.pw.length → a = false →
        (s.sc.sweep = .sweeping → s.masked .windowOverflow = false → ∀ marked : Intake,
          marked = (match s.pi.port with
          | some c => if (s.bank c).drop = .none then
              { s.pi with banks := s.pi.banks.set c { s.bank c with drop := .held } } else s.pi
          | none => s.pi) →
          exec .push s = .next (({ s with
            pi := marked
            sc := { s.sc with sweep := .held .windowOverflow, flags := s.sc.flags ||| Condition.windowOverflow.mask }
            me := { s.me with pass := some { p with stage := .pushHeld } } }).raise .held)) ∧
        (s.sc.sweep ≠ .sweeping ∨ s.masked .windowOverflow = true →
          (∃ q at' rest n, s.bu.pass = some q ∧ q.stage = .inBlock at' rest n) → exec .push s = .next s) ∧
        (s.sc.sweep ≠ .sweeping ∨ s.masked .windowOverflow = true →
          (∀ q at' rest n, s.bu.pass = some q → q.stage ≠ .inBlock at' rest n) → ∀ v,
          v = (if ∃ r ∈ s.pw, r.serial = p.serial then p.serial else (s.pw[7]?.map (·.serial)).getD p.serial) →
          ∃ t, exec .push s = .next t ∧ (t.pw.map (·.serial)) = p.serial :: ((s.pw.map (·.serial)).filter
              fun u => decide (u ≠ v)) ∧
            t.bu.coverage = s.bu.coverage.map (fun c => if c = .opened v then .committed else c) ∧
            t.bu.commitLine = s.bu.commitLine ∧ t.sc.flags = s.sc.flags ||| Condition.windowOverflow.mask ∧
            t.sc.placed = s.sc.placed + 1#32 ∧ (t.bank b).state = .placed ∧ t.ltc = s.ltc ∧ t.mem = s.mem)))

/-- PUSH, in what follows it: the last frame record names the frame with its outcome; mark 0 and then mark 1 fire
where they are armed and their value is at most progress: each is disarmed, raises its event and acts on CUE or as
FINISH, which waits during a verify or apply and otherwise takes SWEEPING to CLOSING; then, for a MATCHED frame, the
closure result kept from check 5 is taken: met, with the record NONE, it becomes DETECTED with CLOSURE raised and
SWEEPING goes to CLOSING; rejected, it raises the count, to 255 at most, and becomes the last rejection. A push
accepted at a WINDOW_OVERFLOW hold force-retires its victim, outside a block write, and reports nothing (R26, R81,
R95, R137 to R141, R146, R147). The record holds the measures as formed for every how-placed (log 18), and where the
push enters CLOSING with frames QUEUED, their outcomes follow it (log 19). -/
def Obligations.PushReportFiresMarksAndClosure : Prop :=
  ∀ (s : State) (p : Pass) (b : BankId) (a : Bool), s.me.pass = some p → p.stage = .push a → p.bank = some b →
    (s.bank b).state = .matching → s.saving = false → s.pw.length ≤ 8 →
    (∀ v, a = true → (∃ r ∈ s.pw, r.serial = p.serial) ∨ s.pw.length = 8 → (s.pw.map (·.serial)).Nodup →
      (∀ q at' rest n, s.bu.pass = some q → q.stage ≠ .inBlock at' rest n) →
      v = (if ∃ r ∈ s.pw, r.serial = p.serial then p.serial else (s.pw[7]?.map (·.serial)).getD p.serial) →
      exec .push s = exec .push { s with
        pw := s.pw.filter fun r => decide (r.serial ≠ v)
        bu := { s.bu with coverage := s.bu.coverage.map fun c => if c = .opened v then .committed else c } }) ∧
    (∀ (n : Nat) (fires0 fires1 finish detected : Bool) (cue : MarkAction → Bool → Bool) (began ended : SweepState),
      s.pw.length < 8 → (∀ r ∈ s.pw, r.serial ≠ p.serial) →
      n = min 65535 (roundDiv (s.geo.d * p.x) 4 + s.geo.fw).toNat →
      fires0 = (s.sc.mark0.armed && decide (s.sc.mark0.value ≤ n)) →
      fires1 = (s.sc.mark1.armed && decide (s.sc.mark1.value ≤ n)) →
      cue = (fun m level => match m with
        | .cueSet => true | .cueClear => false | .cueToggle => !level | .signal | .finish => level) →
      finish = (fires0 && decide (s.sc.mark0.action = .finish) || fires1 && decide (s.sc.mark1.action = .finish)) →
      detected = (decide (p.how = .matched) && decide (s.sc.closure.state = .none) &&
        p.closure.any fun t => t.reason.isNone) →
      began = (if p.how = .origin ∧ s.sc.sweep = .armed then .sweeping else s.sc.sweep) →
      ended = (if began = .sweeping ∧ ((finish = true ∧ s.aborting = false ∧ s.rollingBack = false) ∨ detected = true)
        then .closing else began) →
      ∃ t, exec .push s = .next t ∧ t.sc.sweep = ended ∧
        (ended = began ∨ s.pi.queue = [] → t.sc.last = ⟨p.serial,
          (match p.how with | .origin => .origin | .matched => .placed | .predicted => .predicted | .host => .hostPlaced),
          p.x, p.y, p.inliers, 0, 0, p.step⟩) ∧
        (ended ≠ began → s.pi.queue.Nodup → (∀ c ∈ s.pi.queue, (s.bank c).state = .queued) → t.pi.queue = [] ∧
          t.sc.dropped = s.sc.dropped + BitVec.ofNat 32 s.pi.queue.length) ∧
        t.sc.mark0 = { s.sc.mark0 with armed := s.sc.mark0.armed && !fires0 } ∧
        t.sc.mark1 = { s.sc.mark1 with armed := s.sc.mark1.armed && !fires1 } ∧
        t.li.events.getLsbD 7 = (s.li.events.getLsbD 7 || fires0) ∧
        t.li.events.getLsbD 8 = (s.li.events.getLsbD 8 || fires1) ∧
        t.sc.cue = (if fires1 then cue s.sc.mark1.action (if fires0 then cue s.sc.mark0.action s.sc.cue else s.sc.cue)
          else if fires0 then cue s.sc.mark0.action s.sc.cue else s.sc.cue) ∧
        t.sc.markFinishWaits = (s.sc.markFinishWaits || (finish && s.rollingBack && !s.aborting)) ∧
        t.li.events.getLsbD 1 = (s.li.events.getLsbD 1 || detected) ∧
        (∀ c, detected = true → p.closure = some c → t.sc.closure = { s.sc.closure with
          state := .detected, ce := c.ce, ry := c.ry, votes := c.votes, serial := p.serial }) ∧
        (∀ c r, p.how = .matched → p.closure = some c → c.reason = some r → t.sc.closure = { s.sc.closure with
          rejections := min 255 (s.sc.closure.rejections + 1), last := some ⟨p.serial, c.ce, c.ry, c.votes, r⟩ }) ∧
        (detected = false → (p.how ≠ .matched ∨ p.closure = none ∨ ∃ c, p.closure = some c ∧ c.reason = none) →
          t.sc.closure = s.sc.closure))

/-! ### The update batch (R35, R39, R41 to R50, R83, R84, R100) -/

/-- FOOTPRINT_READ and BATCH_OPENING: both wait at the fence of a save (R84; for the read log 21). The read records
every landmark that lies in the shrunk footprint and is listed in its bins or one more on each side, in bin order from
the trailing side and in list order within a bin. The opening clears every pass mark and forms the claims: hits and
revives of a MATCHED frame in candidate list order; a miss for each read landmark without one, in the order read; and
the admissions of the frame, for a pushed frame those of the FAR and NONE candidates in list order, for the origin all
of them by falling strength, equal ones in list order; with no claim to present the batch goes to its report (R39,
R42, R46, R48, R83, R84). -/
def Obligations.FootprintAndBatchOpening : Prop :=
  ∀ (s : State) (p : Pass), s.me.pass = some p →
    (p.stage = .footprint ∨ p.stage = .opening → s.saving = true →
      exec .footprintRead s = .next s ∧ exec .batchOpening s = .next s) ∧
    (∀ (first last : Nat) (bins : List Nat), p.stage = .footprint → s.saving = false →
      first = s.geo.binOf (p.x + s.geo.d * 64) → last = s.geo.binOf (p.x + s.geo.d * (4 * s.geo.fw - 65)) →
      bins = (List.range ((s.geo.d * ((last : Int) - first) % s.geo.nBins).toNat + 3)).map (fun (i : Nat) =>
        (((first : Int) + s.geo.d * ((i : Int) - 1)) % s.geo.nBins).toNat) →
      exec .footprintRead s = .next { s with me := { s.me with pass := some { p with
        footprint := (bins.flatMap s.ltc.bin).filterMap fun k => (s.ltc.lm k).bind fun r =>
          if s.geo.d * p.x + 64 ≤ s.geo.d * r.x ∧ s.geo.d * r.x < s.geo.d * p.x + 4 * s.geo.fw - 64 ∧
            p.y + 64 ≤ r.y ∧ r.y < p.y + 4 * s.geo.fh - 64 then some ⟨k, s.ltc.gen k, r.x, r.y⟩ else none
        stage := .opening } } }) ∧
    (p.stage = .opening → s.saving = false → ∃ (q : Pass) (ltc : Table) (sent : List Candidate),
      exec .batchOpening s = .next { s with ltc := ltc, me := { s.me with pass := some q } } ∧
      q = { p with sights := q.sights, misses := q.misses, admissions := q.admissions, stage := q.stage } ∧
      (∀ i, ltc.gen i = s.ltc.gen i ∧ ltc.lm i = (s.ltc.lm i).map fun r => { r with passMark := false }) ∧
      ltc.bins = s.ltc.bins ∧ ltc.live = s.ltc.live ∧ ltc.pinned = s.ltc.pinned ∧ ltc.origin = s.ltc.origin ∧
      (p.how = .matched → q.sights = p.cands.flatMap fun c =>
        (if c.inlier then c.chosen.toList.map fun l =>
          (SightKind.hit, ⟨l.index, l.gen, p.x + s.geo.d * c.cand.q, p.y + c.cand.p⟩) else []) ++
        (if c.revival then c.chosen.toList.map fun l => (SightKind.revive, ⟨l.index, l.gen, l.x, l.y⟩) else [])) ∧
      (p.how ≠ .matched → q.sights = []) ∧
      q.misses = p.footprint.filter (fun c => decide (c.index ∉ q.sights.map fun k => k.2.index)) ∧
      (p.how = .origin → sent.Pairwise (fun a b => b.strength ≤ a.strength) ∧
        ∀ n, sent.filter (fun c => decide (c.strength = n)) =
          (p.cands.map (·.cand)).filter fun c => decide (c.strength = n)) ∧
      (p.how ≠ .origin → sent = if p.pushed then
        (p.cands.filter fun c => decide (c.verdict = .far ∨ c.verdict = .none)).map (·.cand) else []) ∧
      (∀ claims : List Admission, claims = sent.map (fun c =>
          ⟨c.strength, c.descriptor, p.x + s.geo.d * c.q, p.y + c.p⟩) →
        (q.sights = [] → q.misses = [] →
          (claims = [] ∨ (if p.how = .origin then 48 else s.prm.admitMax) ≤ p.admitted) →
          q.stage = .report ∧ q.admissions = []) ∧
        (q.sights ≠ [] ∨ q.misses ≠ [] ∨
          (claims ≠ [] ∧ p.admitted < if p.how = .origin then 48 else s.prm.admitMax) →
          q.stage = .batch false ∧ q.admissions = claims)))

/-- HIT_CLAIM and REVIVE_CLAIM, each where it is the batch's next sighting in candidate list order (R42; the other row
is then not due, log 2): a landmark gone or of another generation answers STALE and the table stands; otherwise hits
rise to 255 at most, misses are 0, last seen is the frame and the pass mark is set; the class follows R43 and R44; a
hit refines the position of a TENTATIVE or TRACKED landmark and of no other, Y clamped to the canvas, and only a
refinement that changes X has the landmark join the tail of its new bin, where that list has room; no other entry
changes (R35, R41, R43, R44). -/
def Obligations.SightingsAreRecorded : Prop :=
  ∀ (s : State) (p : Pass) (kind : SightKind) (c : UpdateClaim) (rest : List (SightKind × UpdateClaim)),
    s.openPass = some p → p.sights = (kind, c) :: rest →
    ∀ (i other : Instr), (kind = .hit ∧ i = .hitClaim ∧ other = .reviveClaim) ∨
        (kind = .revive ∧ i = .reviveClaim ∧ other = .hitClaim) →
      exec other s = .next s ∧
      (s.ltc.lm c.index = none ∨ s.ltc.gen c.index ≠ c.gen → ∃ q, exec i s = .next { s with me := { s.me with
        pass := some q } } ∧ q.stale = p.stale + 1 ∧ q.sights = rest ∧ q.misses = p.misses) ∧
      (∀ r, s.ltc.lm c.index = some r → s.ltc.gen c.index = c.gen → ∃ (q : Pass) (ltc : Table) (r' : Landmark),
        exec i s = .next { s with ltc := ltc, me := { s.me with pass := some q } } ∧ q.stale = p.stale ∧
        q.sights = rest ∧ q.misses = p.misses ∧
        ltc.lm c.index = some r' ∧ r'.hits = min 255 (r.hits + 1) ∧ r'.misses = 0 ∧ r'.lastSeen = p.serial ∧
        r'.firstSeen = r.firstSeen ∧ r'.passMark = true ∧ r'.pinned = r.pinned ∧ r'.origin = r.origin ∧
        r'.descriptor = r.descriptor ∧ r'.strength = r.strength ∧
        r'.state = (if r.state = .tentative then .tracked
          else if r.state = .anchored ∨ s.prm.anchorHits ≤ r'.hits then .anchored else .tracked) ∧
        (kind = .revive ∨ r.state = .anchored ∨ r.state = .fading → r'.x = r.x ∧ r'.y = r.y) ∧
        (kind = .hit → r.state = .tentative ∨ r.state = .tracked →
          r'.x = roundDiv (r.x * r.hits + c.x) (r.hits + 1) ∧
          r'.y = max 0 (min (4 * (s.geo.ch : Int) - 1) (roundDiv (r.y * r.hits + c.y) (r.hits + 1)))) ∧
        (r'.x = r.x ∨ 8 ≤ (s.ltc.bin (s.geo.binOf r'.x)).length ∨ s.geo.binOf r'.x = r.bin →
          r'.bin = r.bin ∧ ltc.bins = s.ltc.bins) ∧
        (r'.x ≠ r.x → (s.ltc.bin (s.geo.binOf r'.x)).length < 8 → r'.bin = s.geo.binOf r'.x ∧
          (s.geo.binOf r'.x ≠ r.bin → s.geo.binOf r'.x < s.ltc.bins.length → ∀ k, ltc.bin k =
            if k = s.geo.binOf r'.x then s.ltc.bin k ++ [c.index]
            else if k = r.bin then (s.ltc.bin k).filter fun j => decide (j ≠ c.index) else s.ltc.bin k)) ∧
        (∀ j, ltc.gen j = s.ltc.gen j ∧ (j ≠ c.index → ltc.lm j = s.ltc.lm j)) ∧ ltc.live = s.ltc.live ∧
        ltc.pinned = s.ltc.pinned ∧ ltc.origin = s.ltc.origin)

/-- MISS_CLAIM, after the hits and revives: STALE as for a hit; otherwise misses rise to 15 at most, and by class,
limit and protection the landmark stays, becomes FADING or is retired; hits and last seen do not change (R41, R45). -/
def Obligations.MissesFadeOrRetire : Prop :=
  ∀ (s : State) (p : Pass) (c : UpdateClaim) (rest : List UpdateClaim), s.openPass = some p →
    p.sights = [] → p.misses = c :: rest →
    (s.ltc.lm c.index = none ∨ s.ltc.gen c.index ≠ c.gen → ∃ q, exec .missClaim s = .next { s with
      me := { s.me with pass := some q } } ∧ q.stale = p.stale + 1 ∧ q.misses = rest) ∧
    (∀ (r : Landmark) (m : Nat) (safe : Bool), s.ltc.lm c.index = some r → s.ltc.gen c.index = c.gen →
      m = min 15 (r.misses + 1) → safe = (r.pinned || r.origin) →
      ∃ (q : Pass) (ltc : Table), exec .missClaim s = .next { s with ltc := ltc, me := { s.me with pass := some q } } ∧
        q.stale = p.stale ∧ q.misses = rest ∧
        (r.state = .fading → m < 2 * s.prm.missLimit ∨ safe = true → ltc = s.ltc.put c.index { r with misses := m }) ∧
        (r.state = .fading → 2 * s.prm.missLimit ≤ m → safe = false → ltc = s.ltc.retire c.index) ∧
        (r.state ≠ .fading → m < s.prm.missLimit → ltc = s.ltc.put c.index { r with misses := m }) ∧
        (r.state = .tracked ∨ r.state = .anchored ∨ safe = true → r.state ≠ .fading → s.prm.missLimit ≤ m →
          ltc = s.ltc.put c.index { r with misses := m, state := .fading }) ∧
        (r.state = .tentative → safe = false → s.prm.missLimit ≤ m → ltc = s.ltc.retire c.index))

/-- ADMISSION_CLAIM, after the other claims: DECLINED outside the canvas rows or where the bin list is full; the
lowest FREE entry takes the landmark; with no FREE entry TABLE_FULL holds the sweep, marks a storing bank HELD and
parks the batch where it is unmasked in SWEEPING, and otherwise the claim is taken with eviction of the weakest
TENTATIVE entry that is neither PINNED nor ORIGIN and whose pass mark is clear, or DECLINED where none qualifies. An
answered claim leaves the batch, which ends with its last claim or with the last ADMITTED answer the frame may have
(R22, R46 to R50, R84, R125). -/
def Obligations.AdmissionTakesAnEntry : Prop :=
  ∀ (s : State) (p : Pass) (a : Admission) (rest : List Admission) (j : Nat)
      (weak : Landmark → Prop) (answered : Pass → Prop), s.openPass = some p → p.sights = [] →
    p.misses = [] → p.admissions = a :: rest → j = s.geo.binOf a.x →
    weak = (fun r => r.state = .tentative ∧ r.pinned = false ∧ r.origin = false ∧ r.passMark = false) →
    answered = (fun q =>
      (rest = [] ∨ (if p.how = .origin then 48 else s.prm.admitMax) ≤ q.admitted →
        q.stage = .report ∧ q.admissions = []) ∧
      (rest ≠ [] → q.admitted < (if p.how = .origin then 48 else s.prm.admitMax) →
        q.stage = .batch false ∧ q.admissions = rest)) →
    (a.y < 0 ∨ 4 * (s.geo.ch : Int) - 1 < a.y ∨ 8 ≤ (s.ltc.bin j).length →
      ∃ q, exec .admissionClaim s = .next { s with me := { s.me with pass := some q } } ∧ q.admitted = p.admitted ∧
        answered q) ∧
    (0 ≤ a.y → a.y ≤ 4 * (s.geo.ch : Int) - 1 → (s.ltc.bin j).length < 8 →
      (∀ i e, s.ltc.entries[i]? = some e → e.lm = none → (∀ k < i, s.ltc.lm k ≠ none) →
        ∃ (q : Pass) (ltc : Table), exec .admissionClaim s = .next { s with
          ltc := ltc, me := { s.me with pass := some q } } ∧ q.admitted = p.admitted + 1 ∧
          answered q ∧
          ltc.lm i = some ⟨.tentative, false, decide (p.how = .origin), a.x, a.y, a.descriptor, a.strength, 1, 0,
            p.serial, p.serial, j, true⟩ ∧
          (∀ k, ltc.gen k = s.ltc.gen k ∧ (k ≠ i → ltc.lm k = s.ltc.lm k)) ∧ ltc.live = s.ltc.live + 1 ∧
          ltc.pinned = s.ltc.pinned ∧ ltc.origin = s.ltc.origin + (if p.how = .origin then 1 else 0) ∧
          (j < s.ltc.bins.length → ltc.bin j = s.ltc.bin j ++ [i]) ∧ (∀ k, k ≠ j → ltc.bin k = s.ltc.bin k)) ∧
      ((∀ e ∈ s.ltc.entries, e.lm ≠ none) →
        (p.stage = .batch false → s.sc.sweep = .sweeping → s.masked .tableFull = false → ∀ marked : Intake,
          marked = (match s.pi.port with
          | some c => if (s.bank c).drop = .none then
              { s.pi with banks := s.pi.banks.set c { s.bank c with drop := .held } } else s.pi
          | none => s.pi) →
          exec .admissionClaim s = .next (({ s with
            pi := marked
            sc := { s.sc with sweep := .held .tableFull, flags := s.sc.flags ||| Condition.tableFull.mask }
            me := { s.me with pass := some { p with stage := .parked } } }).raise .held)) ∧
        (p.stage = .batch false → s.sc.sweep ≠ .sweeping ∨ s.masked .tableFull = true →
          ∃ (q : Pass) (ltc : Table), exec .admissionClaim s = .next { s with
            ltc := ltc, sc := { s.sc with flags := s.sc.flags ||| Condition.tableFull.mask }
            me := { s.me with pass := some q } } ∧
            answered q ∧
            ((∀ k r, s.ltc.lm k = some r → ¬ weak r) → ltc = s.ltc ∧ q.admitted = p.admitted) ∧
            ((∃ k r, s.ltc.lm k = some r ∧ weak r) → ∃ i r, s.ltc.lm i = some r ∧ weak r ∧
              (∀ k e, s.ltc.lm k = some e → weak e → r.strength ≤ e.strength ∧
                (e.strength = r.strength →
                  (p.serial - e.firstSeen).toNat ≤ (p.serial - r.firstSeen).toNat ∧
                  ((p.serial - e.firstSeen).toNat = (p.serial - r.firstSeen).toNat → i ≤ k))) ∧
              ltc.gen i = s.ltc.gen i + 1#4 ∧ q.admitted = p.admitted + 1 ∧
              (∃ r', ltc.lm i = some r' ∧ r'.state = .tentative ∧ r'.x = a.x ∧ r'.y = a.y ∧ r'.hits = 1 ∧
                r'.passMark = true) ∧ (∀ k, k ≠ i → ltc.lm k = s.ltc.lm k)))))

/-- STALE_COUNT_CLAIM: the record of a pushed frame takes the stale count where it is present, the last frame record
both counts where it still names the frame, and the pass ends (R84, R100). -/
def Obligations.StaleCountEndsTheBatch : Prop :=
  ∀ (s : State) (p : Pass), s.me.pass = some p → p.stage = .report →
    exec .staleCountClaim s = .next { s with
      pw := if p.pushed then
          s.pw.map fun r => if r.serial = p.serial then { r with stale := p.stale } else r
        else s.pw
      sc := if s.sc.last.serial = p.serial then
          { s.sc with last := { s.sc.last with admitted := p.admitted, stale := p.stale } }
        else s.sc
      me := { s.me with pass := none } }

/-! ### The blend (R51, R96 to R99, R105 to R118) -/

/-- BLEND_TAKE: a free Blend Unit takes the deepest PLACED record; record and bank become BLENDING, the used part
holds used X and Y, FEATHER is read; with a pass or join in progress, during a copy or a stop, or with nothing PLACED,
nothing is taken (R96, R107, R108). -/
def Obligations.BlendTakesTheOldestPlacement : Prop :=
  ∀ s : State,
    (s.bu.pass ≠ none ∨ s.bu.join ≠ none ∨ s.copying = true ∨ s.stopping = true ∨ (∀ r ∈ s.pw, r.state ≠ .placed) →
      exec .blendTake s = .next s) ∧
    (∀ newer r older b, s.bu.pass = none → s.bu.join = none → s.copying = false → s.stopping = false →
      s.pw = newer ++ r :: older → r.state = .placed → (∀ q ∈ older, q.state ≠ .placed) →
      (∀ q ∈ newer ++ older, q.serial ≠ r.serial) → (s.bank b).state = .placed → (s.bank b).serial = some r.serial →
      (∀ c, (s.bank c).serial = some r.serial → c = b) →
      exec .blendTake s = .next { s with
        pw := newer ++ { r with state := .blending, used := some ⟨roundDiv r.x 4,
          max 0 (min ((s.geo.ch : Int) - 1) (roundDiv r.y 4)), none⟩ } :: older
        pi := { s.pi with banks := s.pi.banks.set b { s.bank b with state := .blending } }
        bu := { s.bu with pass := some ⟨r.serial, b, s.prm.feather, s.geo.d * roundDiv r.x 4, roundDiv r.y 4, ⟨0, 0, 0⟩,
          .measuring []⟩ } })

/-- SEAM_FIX waits until granted bursts have read the samples (R107). From what was read, whatever it was, feather, seam
and gain are then fixed and entered in the record, which takes FEATHER_CLAMPED where the
feather used is below FEATHER, and the block schedule is laid. With no reference the seam is the greater of t and line
+ 32 with feather 0 and gain 64. Otherwise the feather is 0 for the origin and a GAP record, else the largest of 64,
32, 16, 8 and 0 that is at most FEATHER and at most the overlap less 8; the seam is the candidate of the range, every
fourth column from its low end, of lowest sum of differences over every fourth common row, then nearest the centre,
then further behind, and with an empty range the feather is 0 and the seam the greater of t and line + 32; the gain is
round(64·Sc / Sf) over every fourth overlap column and common row, from 32 to 128, 128 where Sf is 0 and 64 without
samples (R97, R109 to R113). Which samples are read in which order is the model's choice (log 8). -/
def Obligations.SeamFixFillsTheUsedPart : Prop :=
  ∀ (s : State) (b : BlendPass) (r : Placement) (held : List Byte), s.bu.pass = some b →
    b.stage = .measuring held → s.record b.serial = some r →
    (held.length < (s.sampleAddrs b r).length → exec .seamFix s = .next s) ∧
    (s.bu.reference = none → s.sampleAddrs b r = []) ∧
    ∀ read : Nat → Byte, held = (s.sampleAddrs b r).map read → ∃ (m : SeamPart) (todo : List Nat),
      exec .seamFix s = .next { s with
      pw := s.pw.map fun q => if q.serial = b.serial then { q with
        used := q.used.map fun u => { u with fixed := some m }, featherClamped := decide (m.feather < b.feather) } else q
      bu := { s.bu with pass := some { b with seam := m, stage := .writing todo } } } ∧
      (s.bu.reference = none → m = ⟨max b.t (s.bu.commitLine + 32), 0, 64⟩) ∧
      m.feather ∈ [0, 8, 16, 32, 64] ∧ (m.feather ≤ b.feather ∨ m.feather = 0) ∧ 32 ≤ m.gain ∧ m.gain ≤ 128 ∧
      (r.how = .origin ∨ r.gap = true → m.feather = 0) ∧
      (∀ (ref : BlendRef) (lead lo hi first last : Int) (f rows cols : Nat) (canvas frame : Int → Nat → Nat)
          (score : Int → Nat), s.bu.reference = some ref → lead = ref.t + s.geo.fw →
        (r.how = .origin ∨ r.gap = true → f = 0) →
        (¬ (r.how = .origin ∨ r.gap = true) → f ∈ [0, 8, 16, 32, 64] ∧
          (f = 0 ∨ (f ≤ b.feather ∧ (f : Int) ≤ lead - b.t - 8)) ∧
          ∀ g ∈ [8, 16, 32, 64], g ≤ b.feather → (g : Int) ≤ lead - b.t - 8 → g ≤ f) →
        lo = max (b.t + (f / 2 : Nat)) (s.bu.commitLine + 32 + (f / 2 : Nat)) → hi = lead - (f / 2 : Nat) →
        first = max ref.rowLo (max 0 b.y0) → last = min ref.rowHi (min ((s.geo.ch : Int) - 1) (b.y0 + s.geo.fh - 1)) →
        rows = ((last - first + 4) / 4).toNat → cols = ((lead - b.t + 3) / 4).toNat →
        canvas = (fun u (i : Nat) => (read ((first + 4 * i).toNat * s.geo.cw + s.geo.memColU u)).toNat) →
        frame = (fun u (i : Nat) => (read (s.bankBase b.bank +
          (((first + 4 * i).toNat : Int) - b.y0).toNat * s.geo.fw + s.geo.deliveryCol (u - b.t).toNat)).toNat) →
        score = (fun u => ((List.range rows).map fun i => ((canvas u i : Int) - frame u i).natAbs).sum) →
        (hi < lo → m.feather = 0 ∧ m.seam = max b.t (s.bu.commitLine + 32)) ∧
        (lo ≤ hi → m.feather = f ∧ lo ≤ m.seam ∧ m.seam ≤ hi ∧ (m.seam - lo) % 4 = 0 ∧
          ∀ v, lo ≤ v → v ≤ hi → (v - lo) % 4 = 0 → score m.seam < score v ∨ (score m.seam = score v ∧
            ((2 * m.seam - (lo + hi)).natAbs < (2 * v - (lo + hi)).natAbs ∨
              ((2 * m.seam - (lo + hi)).natAbs = (2 * v - (lo + hi)).natAbs ∧ m.seam ≤ v)))) ∧
        (rows = 0 ∨ cols = 0 → m.gain = 64) ∧
        (∀ total : (Int → Nat → Nat) → Nat, total = (fun luma => ((List.range cols).map fun k =>
            ((List.range rows).map fun i => luma (b.t + 4 * (k : Int)) i).sum).sum) → rows ≠ 0 → cols ≠ 0 →
          (total frame = 0 → m.gain = 128) ∧
          (total frame ≠ 0 → (m.gain : Int) =
            max 32 (min 128 (roundDiv ((64 * total canvas : Nat) : Int) (total frame)))))) ∧
      (∀ a : Nat, 0 ≤ m.seam - (m.feather / 2 : Nat) → (a ∈ todo ↔ ∃ u : Int, m.seam - (m.feather / 2 : Nat) ≤ u ∧
        u < b.t + s.geo.fw ∧ u < s.geo.cw ∧ 32 * (a : Int) ≤ u ∧ u < 32 * a + 32)) ∧
      todo.Pairwise (· < ·)

/-- BLOCK_WRITE: a stop waits at this boundary; a COMMITTED block, or a frame without used rows, is passed by and
changes nothing else; otherwise the step waits until granted bursts have written the block's bytes (R10, R107), and
then the block becomes OPEN under the blending record and the counts move by one as R113 states; a block write begun
is completed whatever stop stands (R118). The bytes that its bursts write, from what they read: on every used row each
of its columns in the write range takes the luma of R114, canvas and gained frame luma mixed in the feather zone and
the gained luma ahead of it; and each chroma pair of a group with a written column takes, by the same mix with the
weight of the group's column furthest ahead, the frame pair without gain (R113, R114, R117, R118). That the order of
bytes and bursts is the model's choice is log 8, and that a step changes nothing while it waits log 2. -/
def Obligations.BlockWriteOpensTheBlock : Prop :=
  ∀ (s : State) (b : BlendPass) (a : Nat) (rest : List Nat) (move : Transfer), s.bu.pass = some b →
    (b.stage = .writing (a :: rest) ∧ move = ⟨0, []⟩) ∨ b.stage = .inBlock a rest move →
    ∀ lo hi : Int, lo = max 0 b.y0 → hi = min ((s.geo.ch : Int) - 1) (b.y0 + s.geo.fh - 1) →
    (b.stage = .writing (a :: rest) → s.stopping = true → exec .blockWrite s = .next s) ∧
    (b.stage = .writing (a :: rest) → s.stopping = false →
      s.coverageAt (s.geo.blockAt a) = .committed ∨ hi < lo →
      exec .blockWrite s = .next { s with bu := { s.bu with pass := some { b with stage := .writing rest } } }) ∧
    (b.stage = .inBlock a rest move ∨
        (s.stopping = false ∧ s.coverageAt (s.geo.blockAt a) ≠ .committed ∧ lo ≤ hi) →
      (move.written < (s.blockOutputs b a).length → exec .blockWrite s = .next s) ∧
      ((s.blockOutputs b a).length ≤ move.written → ∃ t, exec .blockWrite s = .next t ∧
        t = { s with pw := t.pw, bu := { s.bu with
          coverage := s.bu.coverage.set (s.geo.blockAt a) (.opened b.serial)
          pass := some { b with stage := .writing rest } } } ∧
        (s.coverageAt (s.geo.blockAt a) = .opened b.serial → t.pw = s.pw) ∧
        (∀ owner, s.coverageAt (s.geo.blockAt a) = .opened owner → owner ≠ b.serial → t.pw = s.pw.map fun r =>
          if r.serial = b.serial then { r with owned := r.owned + 1 }
          else if r.serial = owner then { r with owned := r.owned - 1 } else r) ∧
        (s.coverageAt (s.geo.blockAt a) = .blank → t.pw = s.pw.map fun r =>
          if r.serial = b.serial then { r with owned := r.owned + 1 } else r)) ∧
      (∀ (first : Int) (written : Int → Prop) (luma chroma : Int → Nat) (mix : Int → Nat → Nat → Nat)
          (read : Nat → Byte), lo ≤ hi → first = b.seam.seam - (b.seam.feather / 2 : Nat) →
          written = (fun (u : Int) =>
            first ≤ u ∧ u < b.t + s.geo.fw ∧ u < s.geo.cw ∧ 32 * (a : Int) ≤ u ∧ u < 32 * a + 32) →
          mix = (fun (u : Int) (canvas frame : Nat) => if u < first + b.seam.feather then
              (roundDiv ((canvas : Int) * (2 * b.seam.feather - 2 * (u - first) - 1) +
                (frame : Int) * (2 * (u - first) + 1)) (2 * b.seam.feather)).toNat
            else frame) →
          luma = (fun u => s.geo.memColU u) →
          chroma = (fun u => 2 * (s.geo.memColU u / 2)) →
          ∀ x v, (∃ o ∈ s.blockOutputs b a, o.target = x ∧ o.form read = v) ↔
            (∃ u r : Int, written u ∧ lo ≤ r ∧ r ≤ hi ∧ x = r.toNat * s.geo.cw + luma u ∧
              v = byteOf (mix u (read (r.toNat * s.geo.cw + luma u)).toNat
                (min 255 (roundDiv ((read (s.bankBase b.bank + (r - b.y0).toNat * s.geo.fw +
                  s.geo.deliveryCol (u - b.t).toNat)).toNat * b.seam.gain : Nat) 64).toNat))) ∨
            (∃ (u i : Int) (part : Nat), written u ∧ ¬ (written (u + 1) ∧ chroma (u + 1) = chroma u) ∧ lo / 2 ≤ i ∧
              i ≤ hi / 2 ∧ part < 2 ∧ x = s.geo.cw * s.geo.ch + i.toNat * s.geo.cw + chroma u + part ∧
              v = byteOf (mix u (read (s.geo.cw * s.geo.ch + i.toNat * s.geo.cw + chroma u + part)).toNat
                (read (s.bankBase b.bank + s.geo.fw * s.geo.fh +
                  (max lo (2 * i) - b.y0).toNat / 2 * s.geo.fw + 2 * (s.geo.deliveryCol (u - b.t).toNat / 2) +
                  part)).toNat))))

/-- The blend end in its steps: BLEND_END raises the line to the greater of its old value and s − F/2 − 32 and commits
the OPEN blocks wholly behind it with their counts; RETIRE_BEHIND retires the unprotected landmarks of the bins wholly
behind the line; RETIREMENT_CLAIM removes the BLENDED records of count 0 but the newest; BLEND_END_CLAIM, after both
(log 20), makes the record BLENDED and its bank FREE and sets the reference (R51, R98, R99, R106, R116). -/
def Obligations.BlendEndCommitsAndRetires : Prop :=
  ∀ (s : State) (b : BlendPass), s.bu.pass = some b →
    (∀ line : Int, b.stage = .writing [] → s.stopping = false →
      line = max s.bu.commitLine (b.seam.seam - (b.seam.feather / 2 : Nat) - 32) →
      ∃ t, exec .blendEnd s = .next t ∧ t = { s with pw := t.pw, bu := { s.bu with
          coverage := t.bu.coverage, commitLine := line, pass := some { b with stage := .ending true true } } } ∧
        t.bu.coverage.length = s.bu.coverage.length ∧
        (∀ k, k < s.bu.coverage.length → t.coverageAt k =
          if (∃ o, s.coverageAt k = .opened o) ∧ (32 * s.geo.blockPlace k + 32 : Int) ≤ line then .committed
          else s.coverageAt k) ∧
        t.pw = s.pw.map fun r => { r with owned :=
          r.owned - (ownedIn s.bu.coverage r.serial - ownedIn t.bu.coverage r.serial) }) ∧
    (∀ claim, b.stage = .ending true claim → exec .retireBehind s = .next { s with
      ltc := ((List.range s.ltc.entries.length).filter fun i => (s.ltc.lm i).any fun r =>
        !r.pinned && !r.origin && decide ((64 * s.geo.binPlace r.bin + 64 : Int) ≤ s.bu.commitLine)).foldl
          Table.retire s.ltc
      bu := { s.bu with pass := some { b with stage := .ending false claim } } }) ∧
    (∀ claim, b.stage = .ending claim true → ∃ pw, exec .retirementClaim s = .next { s with
      pw := pw, bu := { s.bu with pass := some { b with stage := .ending claim false } } } ∧
      (s.pw = [] → pw = []) ∧
      (∀ r older, s.pw = r :: older →
        pw = r :: older.filter fun q => decide (¬(q.state = .blended ∧ q.owned = 0)))) ∧
    (b.stage = .ending false false → (s.bank b.bank).state = .blending → exec .blendEndClaim s = .next { s with
      pw := s.pw.map fun r => if r.serial = b.serial then { r with state := .blended } else r
      pi := { s.pi with banks := s.pi.banks.set b.bank { s.bank b.bank with state := .free, serial := none } }
      bu := { s.bu with
        reference := some ⟨b.t, max 0 b.y0, min ((s.geo.ch : Int) - 1) (b.y0 + s.geo.fh - 1)⟩, pass := none } })

/-- The end of a sweep: the join and the final commit wait for matching, blending and a save to end; CLOSURE_JOIN
reads FEATHER and the closure record, and with feather 0 is JOINED at once; JOIN_COLUMN leaves a column with a BLANK
block as it is, and otherwise waits until granted bursts have written exactly the means of the late and the origin
luma on every partnered row, and the chroma pairs with the weight of the greater written column of their group, from
what they read; then the join goes on, JOINED after the last; a stop waits between two columns, a column begun is
completed, and the record is not made JOINED then (R10, R151, logs 2, 8); COMMIT_ALL_OPEN_BLOCKS leaves no OPEN block
and an empty window, keeps the line and makes the sweep FINISHED (R102, R117, R134, R149 to R151). What the closing
waits for is the model's reading (log 12), and that a shared pair is written in the greater column's step its choice
(log 17). -/
def Obligations.ClosingJoinsAndFinishes : Prop :=
  ∀ s : State,
    (s.closingReady = false → exec .closureJoin s = .next s ∧ exec .commitAllOpenBlocks s = .next s) ∧
    (s.closingReady = true ↔ s.sc.sweep = .closing ∧ s.me.pass = none ∧ s.bu.pass = none ∧ s.bu.join = none ∧
      s.saving = false ∧ s.stopping = false ∧ ∀ r ∈ s.pw, r.state = .blended) ∧
    (s.closingReady = true → s.sc.closure.state = .detected →
      exec .commitAllOpenBlocks s = .next s ∧
      (s.prm.feather = 0 → exec .closureJoin s = .next { s with
        sc := { s.sc with closure := { s.sc.closure with state := .joined } } }) ∧
      (0 < s.prm.feather → exec .closureJoin s = .next { s with
        bu := { s.bu with join := some ⟨0, min 64 s.prm.feather, s.sc.closure.ce, s.sc.closure.ry, ⟨0, []⟩⟩ } })) ∧
    (s.closingReady = true → s.sc.closure.state ≠ .detected → exec .closureJoin s = .next s ∧
      ∃ t, exec .commitAllOpenBlocks s = .next t ∧ t.sc.sweep = .finished ∧ t.pw = [] ∧
        t.bu.coverage = s.bu.coverage.map (fun c => if c = .blank then .blank else .committed) ∧
        t.bu.commitLine = s.bu.commitLine ∧ t.li.events.getLsbD 2 = true ∧ t.ltc = s.ltc ∧ t.mem = s.mem ∧
        t.pi = s.pi ∧ t.me = s.me) ∧
    (∀ (j : Join) (i : Nat) (origin late : Nat) (kept : Nat → Bool), s.bu.join = some j → i = j.next →
      origin = s.geo.memColU i → late = s.geo.memColU (j.ce + i) →
      kept = (fun (k : Nat) => decide (s.coverageAt (s.geo.memColU k / 32) = .blank ∨
        s.coverageAt (s.geo.memColU (j.ce + k) / 32) = .blank)) →
      (s.stopping = true → j.move = ⟨0, []⟩ → exec .joinColumn s = .next s) ∧
      (j.move.written < (s.joinOutputs j i).length → exec .joinColumn s = .next s) ∧
      (s.stopping = false ∨ j.move ≠ ⟨0, []⟩ → (s.joinOutputs j i).length ≤ j.move.written →
        (i + 1 < j.feather → exec .joinColumn s = .next { s with
          bu := { s.bu with join := some { j with next := i + 1, move := ⟨0, []⟩ } } }) ∧
        (j.feather ≤ i + 1 → exec .joinColumn s = .next { s with
          bu := { s.bu with join := none }
          sc := { s.sc with closure := { s.sc.closure with
            state := if s.stopping then s.sc.closure.state else .joined } } })) ∧
      (kept i = true → s.joinOutputs j i = []) ∧
      (kept i = false → ∀ (mix : Nat → Nat → Byte) (read : Nat → Byte), mix = (fun (a o : Nat) => byteOf (roundDiv
          ((a : Int) * (2 * j.feather - 2 * i - 1) + (o : Int) * (2 * i + 1)) (2 * j.feather)).toNat) →
        ∀ x v, (∃ o ∈ s.joinOutputs j i, o.target = x ∧ o.form read = v) ↔
          (∃ row q : Nat, row < s.geo.ch ∧ q < s.geo.ch ∧ (q : Int) = row + j.ry ∧ x = row * s.geo.cw + origin ∧
            v = mix (read (q * s.geo.cw + late)).toNat (read (row * s.geo.cw + origin)).toNat) ∨
          (¬ (i % 2 = 0 ∧ i + 1 < j.feather ∧ kept (i + 1) = false) ∧ ∃ k q part : Nat, k < s.geo.ch / 2 ∧
            q < s.geo.ch ∧ (q : Int) = 2 * k + j.ry ∧ part < 2 ∧
            x = s.geo.cw * s.geo.ch + k * s.geo.cw + 2 * (origin / 2) + part ∧
            v = mix (read (s.geo.cw * s.geo.ch + q / 2 * s.geo.cw + 2 * (late / 2) + part)).toNat
              (read x).toNat)))

/-! ### Directives (R165 to R169, 11.5) -/

/-- Each directive applied adds one to the budget; STOP and NEXT AND STOP end the gap, NEXT goes on at p, every other
kind at the next offset, and the gap ends at offset 1023 or when the budget reaches 16; the effects are those of R167
to R169 (R165, R167 to R169); a step whose kind is not the word's is not due and changes nothing (log 2). A RETIRE
REGION word is held to CW/64 as it stood when the word was read (R166). DIRECTIVE_FAULT, in one step: the gap ends,
the list is DISABLED, the fault offset is the word's, the event is raised and nothing else changes, the budget
included; the words that fault are those of R166: kinds 10 to 15, unused bits that are not zero, and fields out of
range (R165, R166, 11.5). -/
def Obligations.DirectivesActFlowOrFault : Prop :=
  (∀ (s : State) (frame : Serial) (w : Word32) (n : Nat) (d : Directive), s.dr.gap = some ⟨frame, some ⟨w, n⟩⟩ →
     decodeDirective n w = some d →
     ∀ (ends : State → State) (on : Nat → State → State) (past : State → State),
     ends = (fun t => { t with dr := { t.dr with budget := s.dr.budget + 1, gap := none } }) →
     on = (fun p t => { t with dr := { t.dr with
       budget := s.dr.budget + 1, readPtr := p
       gap := if 16 ≤ s.dr.budget + 1 then none else some ⟨frame, none⟩ } }) →
     past = (fun t => if s.dr.readPtr < 1023 then on (s.dr.readPtr + 1) t else ends t) →
     (d = .stop → exec .dirStop s = .next (ends s)) ∧
     (d = .skip → exec .dirSkip s = .next (past s)) ∧
     (∀ p, d = .next p → exec .dirNext s = .next (on p { s with dr := { s.dr with startPtr := p } })) ∧
     (∀ p, d = .nextAndStop p → exec .dirNextAndStop s = .next (ends { s with dr := { s.dr with startPtr := p } })) ∧
     (d = .signal → exec .dirSignal s = .next (past (s.raise .directiveSignal))) ∧
     (∀ dx dy, d = .hint dx dy →
       (s.withoutOutcome frame = true → exec .dirHint s = .next (past { s with
         me := { s.me with hint := some ⟨dx, dy, some frame⟩ } })) ∧
       (s.withoutOutcome frame = false → exec .dirHint s = .next (past s))) ∧
     (∀ m, d = .masks m → exec .dirMasks s = .next (past { s with sc := { s.sc with masks := m } })) ∧
     (∀ a v, (d = .mark false a v → exec .dirMark s = .next (past { s with
         sc := { s.sc with mark0 := ⟨v, a, true⟩ } })) ∧
       (d = .mark true a v → exec .dirMark s = .next (past { s with sc := { s.sc with mark1 := ⟨v, a, true⟩ } }))) ∧
     (∀ first count, d = .retireRegion first count → exec .dirRetireRegion s = .next (past { s with
       ltc := { s.ltc with regionClaims := s.ltc.regionClaims ++ [(first, count)] } })) ∧
     (∀ f, d = .blend f → exec .dirBlend s = .next (past { s with prm := { s.prm with feather := f } })) ∧
     exec .directiveFault s = .next s ∧
     (d ≠ .stop → exec .dirStop s = .next s) ∧ (d ≠ .skip → exec .dirSkip s = .next s) ∧
     ((∀ p, d ≠ .next p) → exec .dirNext s = .next s) ∧
     ((∀ p, d ≠ .nextAndStop p) → exec .dirNextAndStop s = .next s) ∧
     (d ≠ .signal → exec .dirSignal s = .next s) ∧ ((∀ x y, d ≠ .hint x y) → exec .dirHint s = .next s) ∧
     ((∀ m, d ≠ .masks m) → exec .dirMasks s = .next s) ∧ ((∀ u a v, d ≠ .mark u a v) → exec .dirMark s = .next s) ∧
     ((∀ first count, d ≠ .retireRegion first count) → exec .dirRetireRegion s = .next s) ∧
     ((∀ f, d ≠ .blend f) → exec .dirBlend s = .next s)) ∧
  ((∀ (s : State) (frame : Serial) (w : Word32) (n : Nat), s.dr.gap = some ⟨frame, some ⟨w, n⟩⟩ →
     decodeDirective n w = none → exec .directiveFault s = .next (({ s with
       dr := { s.dr with gap := none, enabled := false, fault := some s.dr.readPtr } }).raise .directiveFault) ∧
     ∀ i : Instr, i ∈ [.dirStop, .dirSkip, .dirNext, .dirNextAndStop, .dirSignal, .dirHint, .dirMasks, .dirMark,
       .dirRetireRegion, .dirBlend] → exec i s = .next s) ∧
   (∀ (nBins : Nat) (w : Word32) (kind : Nat), kind = w.toNat / 268435456 →
     (10 ≤ kind → decodeDirective nBins w = none) ∧
     (kind = 0 ∨ kind = 1 ∨ kind = 4 → (decodeDirective nBins w = none ↔ w.toNat % 268435456 ≠ 0)) ∧
     (kind = 2 ∨ kind = 3 → (decodeDirective nBins w = none ↔ w.toNat / 1024 % 262144 ≠ 0)) ∧
     (kind = 5 → (decodeDirective nBins w = none ↔ w.toNat % 256 ≠ 0)) ∧
     (kind = 6 → (decodeDirective nBins w = none ↔ w.toNat / 256 % 1048576 ≠ 0)) ∧
     (kind = 7 → (decodeDirective nBins w = none ↔ w.toNat / 65536 % 256 ≠ 0 ∨ 4 < w.toNat / 16777216 % 8)) ∧
     (kind = 8 → (decodeDirective nBins w = none ↔ w.toNat / 512 % 2048 ≠ 0 ∨ nBins ≤ w.toNat / 1048576 % 256 ∨
       w.toNat % 512 = 0 ∨ nBins < w.toNat % 512)) ∧
     (kind = 9 → (decodeDirective nBins w = none ↔ w.toNat / 8 % 33554432 ≠ 0 ∨ 4 < w.toNat % 8))))

/-- The directive word and its reading agree: what is written for a directive in range reads back as that directive
(11.5 Directive word, R166). -/
def Obligations.DirectiveWordsReadBack : Prop :=
  ∀ (nBins : Nat) (d : Directive), nBins ≤ 256 → d.valid nBins = true →
    decodeDirective nBins (encodeDirective d) = some d
end

