-- ==== Sys2Proof/Laws/Bursts.lean ====
section
/-! SUPPORT. What the bursts of the Blend Unit and of the Export Unit do to the work they are part of (R10). -/

namespace Sys2Proof.Machine

/-! ### Bytes held -/

/-- A byte that was read for an address is found under that address. -/
theorem heldAt_map (rd : Nat → Byte) {addrs : List Nat} {a : Nat} (h : a ∈ addrs) :
    heldAt addrs (addrs.map rd) a = rd a := by
  have hlt := List.idxOf_lt_length_iff.mpr h
  simp [heldAt, List.getElem?_map, List.getElem?_eq_getElem hlt]

/-- A read burst reads at most 64 bytes and goes on where the one before it stopped. -/
theorem State.readOn_length (s : State) (addrs : List Nat) (held : List Byte) :
    (s.readOn addrs held).length = held.length + min burstBytes (addrs.length - held.length) := by
  simp [State.readOn]

/-- Bytes that agree with memory as far as they are read still do after a burst. -/
theorem State.readOn_map (s : State) (addrs : List Nat) (held : List Byte)
    (h : held = (addrs.take held.length).map s.mem.read) :
    s.readOn addrs held = (addrs.take (held.length + burstBytes)).map s.mem.read := by
  rw [State.readOn, List.take_add, List.map_append, ← h]

/-! ### The bytes a block or a column writes -/

/-- A byte is formed from its sources alone. -/
def Output.Local (o : Output) : Prop :=
  ∀ rd rd' : Nat → Byte, (∀ a ∈ o.sources, rd a = rd' a) → o.form rd = o.form rd'

theorem Output.Local.of_sources {o : Output} (h : o.Local) {addrs : List Nat} {rd : Nat → Byte}
    (hs : ∀ a ∈ o.sources, a ∈ addrs) : o.form (heldAt addrs (addrs.map rd)) = o.form rd :=
  h _ _ fun a ha => heldAt_map rd (hs a ha)

theorem Join.output_local (j : Join) (i late origin : Nat) : (j.output i late origin).Local := by
  intro rd rd' h
  have h1 : rd late = rd' late := h late (by simp [Join.output])
  have h2 : rd origin = rd' origin := h origin (by simp [Join.output])
  simp [Join.output, h1, h2]

theorem State.joinOutputs_local (s : State) (j : Join) (i : Nat) : ∀ o ∈ s.joinOutputs j i, o.Local := by
  intro o ho
  unfold State.joinOutputs at ho
  split at ho
  · rcases List.mem_append.mp ho with h | h
    · simp only [State.joinLuma, List.mem_filterMap, Option.map_eq_some_iff] at h
      obtain ⟨_, _, _, _, rfl⟩ := h
      exact j.output_local _ _ _
    · unfold State.joinChroma at h
      split at h
      · simp at h
      · simp only [List.mem_flatten, List.mem_filterMap, Option.map_eq_some_iff] at h
        obtain ⟨_, ⟨_, _, _, _, rfl⟩, h⟩ := h
        obtain ⟨_, _, rfl⟩ := List.mem_map.mp h
        exact j.output_local _ _ _
  · simp at ho

/-- A mixed byte needs the canvas's byte only inside the feather zone, where it is read. -/
theorem SeamPart.value_sources (m : SeamPart) (u : Int) (canvas frame : Nat) (f : Nat → Nat) (rd rd' : Nat → Byte)
    (h : ∀ a ∈ m.sources u canvas frame, rd a = rd' a) :
    m.value u (rd canvas).toNat (f (rd frame).toNat) = m.value u (rd' canvas).toNat (f (rd' frame).toNat) := by
  unfold SeamPart.sources at h
  unfold SeamPart.value
  split at h
  · rw [if_pos ‹_›, if_pos ‹_›, h canvas (by simp), h frame (by simp)]
  · rw [if_neg ‹_›, if_neg ‹_›, h frame (by simp)]

theorem State.blockOutputs_local (s : State) (b : BlendPass) (a : Nat) : ∀ o ∈ s.blockOutputs b a, o.Local := by
  intro o ho
  rcases List.mem_append.mp ho with h | h
  · simp only [List.mem_flatMap, List.mem_map] at h
    obtain ⟨r, _, u, _, rfl⟩ := h
    intro rd rd' hs
    exact congrArg byteOf (b.seam.value_sources u _ _ (gained · b.seam.gain) rd rd' hs)
  · split at h
    · simp at h
    · simp only [List.mem_flatMap] at h
      obtain ⟨i, _, u, _, h⟩ := h
      obtain ⟨part, _, rfl⟩ := List.mem_map.mp h
      intro rd rd' hs
      exact congrArg byteOf (b.seam.value_sources u _ _ id rd rd' hs)

namespace Transfer

/-- Work of which nothing is held and something is left to write reads first. -/
theorem cells_of_reads {t : Transfer} {os : List Output} (h : t.reads os = true) : t.cells os = [] := by
  simp [cells, h]

/-- A write burst writes the bytes formed from what was read for them. -/
theorem cells_of_held {t : Transfer} {os : List Output} (rd : Nat → Byte) (hl : ∀ o ∈ os, o.Local)
    (h : t.held = (sourcesOf (t.chunk os)).map rd) : t.cells os = (t.chunk os).map (Output.cell rd) := by
  have hr : t.reads os = false := by simp [reads, h]
  simp only [cells, hr, Bool.false_eq_true, if_false, h]
  refine List.map_congr_left fun o ho => ?_
  have hm : o ∈ os := List.mem_of_mem_drop (List.mem_of_mem_take ho)
  exact congrArg (Prod.mk o.target) ((hl o hm).of_sources fun a ha => List.mem_flatMap.mpr ⟨o, ho, ha⟩)

/-- A write burst writes at most 64 bytes (R10). -/
theorem cells_length (t : Transfer) (os : List Output) : (t.cells os).length ≤ 64 := by
  unfold cells
  split
  · simp
  · simp [chunk, burstBytes]

end Transfer

/-! ### The samples of a pass that measures -/

/-- A sample of an overlap column or of a candidate column is read. -/
theorem State.mem_sampleAddrs (s : State) (b : BlendPass) (r : Placement) (ref : BlendRef)
    (href : s.bu.reference = some ref) {u : Int} {row : Nat}
    (hu : u ∈ (s.seamPlan b r ref).cols ∨ u ∈ (s.seamPlan b r ref).candidates) (hr : row ∈ (s.seamPlan b r ref).rows) :
    s.geo.canvasLuma u row ∈ s.sampleAddrs b r ∧ s.blendFrameLuma b u row ∈ s.sampleAddrs b r := by
  simp only [State.sampleAddrs, href, List.mem_flatMap, List.mem_append]
  exact ⟨⟨u, hu, row, hr, by simp⟩, ⟨u, hu, row, hr, by simp⟩⟩

/-- The choice of the seam looks at the scores of the candidates alone. -/
theorem bestSeam_congr (f g : Int → Nat) (c : Int) (us : List Int) (h : ∀ u ∈ us, f u = g u) :
    bestSeam f c us = bestSeam g c us := by
  have key : ∀ (l : List Int) (best : Option Int), (∀ u ∈ l, u ∈ us) → (∀ v, best = some v → v ∈ us) →
      l.foldl (fun best u => match best with
        | none => some u
        | some v => if f u < f v ∨ (f u = f v ∧ (2 * u - c).natAbs < (2 * v - c).natAbs) then some u else some v) best =
      l.foldl (fun best u => match best with
        | none => some u
        | some v => if g u < g v ∨ (g u = g v ∧ (2 * u - c).natAbs < (2 * v - c).natAbs) then some u else some v) best := by
    intro l
    induction l with
    | nil => intros; rfl
    | cons u l ih =>
      intro best hl hb
      have hu := hl u (by simp)
      have ht : ∀ w ∈ l, w ∈ us := fun w hw => hl w (by simp [hw])
      simp only [List.foldl_cons]
      cases best with
      | none => exact ih _ ht fun w hw => by cases hw; exact hu
      | some v =>
        have hv := hb v rfl
        simp only [h u hu, h v hv]
        refine ih _ ht fun w hw => ?_
        split at hw <;> (cases hw; assumption)
  exact key us none (fun u hu => hu) (by simp)

/-- What is measured rests on the samples read, whatever was read for them. -/
theorem State.measure_held (s : State) (b : BlendPass) (r : Placement) (rd : Nat → Byte) :
    s.measure (heldAt (s.sampleAddrs b r) ((s.sampleAddrs b r).map rd)) b r = s.measure rd b r := by
  unfold State.measure
  cases href : s.bu.reference with
  | none => rfl
  | some ref =>
    have hs : ∀ u row, (u ∈ (s.seamPlan b r ref).cols ∨ u ∈ (s.seamPlan b r ref).candidates) →
        row ∈ (s.seamPlan b r ref).rows →
        heldAt (s.sampleAddrs b r) ((s.sampleAddrs b r).map rd) (s.geo.canvasLuma u row) =
            rd (s.geo.canvasLuma u row) ∧
          heldAt (s.sampleAddrs b r) ((s.sampleAddrs b r).map rd) (s.blendFrameLuma b u row) =
            rd (s.blendFrameLuma b u row) := fun u row hu hr =>
      ⟨heldAt_map rd (s.mem_sampleAddrs b r ref href hu hr).1, heldAt_map rd (s.mem_sampleAddrs b r ref href hu hr).2⟩
    have hscore : ∀ u ∈ (s.seamPlan b r ref).candidates,
        s.seamScore (heldAt (s.sampleAddrs b r) ((s.sampleAddrs b r).map rd)) b (s.seamPlan b r ref).rows u =
          s.seamScore rd b (s.seamPlan b r ref).rows u := by
      intro u hu
      refine congrArg List.sum (List.map_congr_left fun row hr => ?_)
      rw [(hs u row (.inr hu) hr).1, (hs u row (.inr hu) hr).2]
    have hgain : s.measureGain (heldAt (s.sampleAddrs b r) ((s.sampleAddrs b r).map rd)) b (s.seamPlan b r ref) =
        s.measureGain rd b (s.seamPlan b r ref) := by
      unfold State.measureGain
      split
      · rfl
      · refine congr (congrArg gainOf ?_) ?_ <;>
        · refine congrArg List.sum (List.map_congr_left fun u hu => ?_)
          refine congrArg List.sum (List.map_congr_left fun row hr => ?_)
          simp only [(hs u row (.inl hu) hr).1, (hs u row (.inl hu) hr).2]
    simp only [bestSeam_congr _ _ _ _ hscore, hgain]

/-- After a burst of the block write the pass stands inside that block. -/
@[simp] theorem State.burstBlock_pass (s : State) (b : BlendPass) (a : Nat) (rest : List Nat) (t : Transfer) :
    (s.burstBlock b a rest t).bu.pass =
      some { b with stage := .inBlock a rest (s.advance t (s.blockOutputs b a)) } := rfl

@[simp] theorem State.burstBlock_coverage (s : State) (b : BlendPass) (a : Nat) (rest : List Nat) (t : Transfer) :
    (s.burstBlock b a rest t).bu.coverage = s.bu.coverage := rfl

@[simp] theorem State.burstBlock_mem (s : State) (b : BlendPass) (a : Nat) (rest : List Nat) (t : Transfer) :
    (s.burstBlock b a rest t).mem = s.mem.writeAll (t.cells (s.blockOutputs b a)) := rfl

@[simp] theorem State.burstJoin_mem (s : State) (j : Join) :
    (s.burstJoin j).mem = s.mem.writeAll (j.move.cells (s.joinOutputs j j.next)) := rfl

@[simp] theorem State.burstJoin_join (s : State) (j : Join) :
    (s.burstJoin j).bu.join = some { j with move := s.advance j.move (s.joinOutputs j j.next) } := rfl

/-- Inside a block write a stop waits for the block's end (R107, R118). -/
theorem State.insideBlock_not_boundary (s : State) (h : s.insideBlock = true) : s.blendAtBoundary = false := by
  unfold State.insideBlock at h
  unfold State.blendAtBoundary
  cases e : s.bu.pass with
  | none => simp [e] at h
  | some b => cases f : b.stage <;> simp_all

/-! ### The Export Unit -/

/-- The values so far stand before the others. -/
theorem State.passAlong_values (s : State) (n : Nat) (at' : Option Reached) (vs : List Byte) (cs : List Source) :
    s.passAlong n at' vs cs = (vs.reverse ++ (s.passAlong n at' [] cs).1, (s.passAlong n at' [] cs).2) := by
  induction cs generalizing n at' vs with
  | nil => simp [State.passAlong]
  | cons c rest ih =>
    simp only [State.passAlong]
    split
    · rw [ih _ _ (c.fill :: vs), ih _ _ [c.fill]]
      simp
    · split
      · simp
      · rw [ih _ _ (_ :: vs), ih _ _ [_]]
        simp

/-- EU passes over fill without reading memory (R156). -/
theorem State.passAlong_fill (s : State) (n : Nat) (at' : Option Reached) (c : Source) (rest : List Source)
    (h : s.sourceAddr (s.reach at' (s.eu.blockOf c)).blank c = none) :
    (s.passAlong n at' [] (c :: rest)).1 = c.fill :: (s.passAlong n (some (s.reach at' (s.eu.blockOf c))) [] rest).1 := by
  simp only [State.passAlong, h]
  rw [State.passAlong_values]
  simp

/-- EU reads a canvas byte where the burst has room for it. -/
theorem State.passAlong_canvas (s : State) (n : Nat) (at' : Option Reached) (c : Source) (rest : List Source) (a : Nat)
    (h : s.sourceAddr (s.reach at' (s.eu.blockOf c)).blank c = some a) :
    (s.passAlong (n + 1) at' [] (c :: rest)).1 =
      s.mem.read a :: (s.passAlong n (some (s.reach at' (s.eu.blockOf c))) [] rest).1 := by
  simp only [State.passAlong, h]
  rw [State.passAlong_values]
  simp

/-- EU stands before a canvas byte that the burst has no room for (R10). -/
theorem State.passAlong_full (s : State) (at' : Option Reached) (c : Source) (rest : List Source) (a : Nat)
    (h : s.sourceAddr (s.reach at' (s.eu.blockOf c)).blank c = some a) : s.passAlong 0 at' [] (c :: rest) = ([], at') := by
  simp only [State.passAlong, h]
  rfl

theorem State.passAlong_length (s : State) (n : Nat) (at' : Option Reached) (cs : List Source) :
    (s.passAlong n at' [] cs).1.length ≤ cs.length := by
  induction cs generalizing n at' with
  | nil => simp [State.passAlong]
  | cons c rest ih =>
    cases h : s.sourceAddr (s.reach at' (s.eu.blockOf c)).blank c with
    | none => rw [s.passAlong_fill n at' c rest h]; simpa using ih _ _
    | some a =>
      cases n with
      | zero => rw [s.passAlong_full at' c rest a h]; simp
      | succ n => rw [s.passAlong_canvas n at' c rest a h]; simpa using ih _ _

/-- EU never passes beyond its line. -/
theorem State.fetchBurst_length (s : State) (h : s.eu.fetched.length ≤ (s.eu.sources s.eu.linesSent).length) :
    s.fetchBurst.eu.fetched.length ≤ (s.eu.sources s.eu.linesSent).length := by
  have := s.passAlong_length burstBytes s.eu.reached s.unread
  simp only [State.fetchBurst, State.passOn, List.length_append, State.unread, List.length_drop] at this ⊢
  omega

/-! ### The Context Mover -/

/-- The image is at most the 8 KiB of a slot, so bursts of 8 KiB have moved it (R9, log 11). -/
theorem State.imageMoved_of_slot (s : State) (h : 8192 ≤ s.cx.moved) : s.imageMoved = true := by
  have : imageBytes ≤ 8192 := by unfold imageBytes; omega
  simp [State.imageMoved]
  omega

theorem State.imageMoved_start (s : State) (h : s.cx.moved = 0) : s.imageMoved = false := by
  simp [State.imageMoved, h, imageBytes]

theorem State.contextWaits_of_slot (s : State) (h : 8192 ≤ s.cx.moved) : s.contextWaits = false := by
  unfold State.contextWaits
  split <;> simp [s.imageMoved_of_slot h]

/-- A copy that bursts have written whole completes (R174). -/
theorem execSaveComplete_moved (s : State) (k : SlotId) (v : Serial) (h : s.cx.op = .copy k v)
    (hm : 8192 ≤ s.cx.moved) : execSaveComplete s = .next (s.completeSave k v) := by
  simp [execSaveComplete, h, s.contextWaits_of_slot hm]

end Sys2Proof.Machine
end

