-- ==== Sys2Proof/Laws/Memory.lean ====
section
/-! SUPPORT. Canvas memory: reads after writes, and the canonical form kept by every memory operation. -/

namespace Sys2Proof.Machine

theorem cellAt_setCell_same (l : List Host.Cell) (a : Nat) (b : Byte) : cellAt (setCell l a b) a = some b := by
  induction l with
  | nil => simp [setCell, cellAt]
  | cons c l ih =>
    obtain ⟨k, v⟩ := c
    simp only [setCell]
    split
    · simp [cellAt]
    · split
      · simp [cellAt]
      · rename_i _ h
        simp [cellAt, ih, Ne.symm h]

theorem cellAt_setCell_other (l : List Host.Cell) {a a' : Nat} (b : Byte) (h : a' ≠ a) :
    cellAt (setCell l a b) a' = cellAt l a' := by
  induction l with
  | nil => simp [setCell, cellAt, Ne.symm h]
  | cons c l ih =>
    obtain ⟨k, v⟩ := c
    simp only [setCell]
    split
    · simp [cellAt, Ne.symm h]
    · split
      · rename_i _ hk
        subst hk
        simp [cellAt, Ne.symm h]
      · simp [cellAt, ih]

@[simp] theorem Memory.read_write_same (m : Memory) (a : Nat) (b : Byte) : (m.write a b).read a = b := by
  simp [Memory.read, Memory.write, cellAt_setCell_same]

theorem Memory.read_write_other (m : Memory) {a a' : Nat} (b : Byte) (h : a' ≠ a) :
    (m.write a b).read a' = m.read a' := by
  simp [Memory.read, Memory.write, cellAt_setCell_other _ _ h]

/-- An address outside the stored ones reads as before. -/
theorem Memory.read_writeAll_other (cs : List Host.Cell) (m : Memory) (a : Nat) (h : ∀ c ∈ cs, c.1 ≠ a) :
    (m.writeAll cs).read a = m.read a := by
  induction cs generalizing m with
  | nil => rfl
  | cons c cs ih =>
    have hc : c.1 ≠ a := h c List.mem_cons_self
    have hr : ∀ d ∈ cs, d.1 ≠ a := fun d hd => h d (List.mem_cons_of_mem c hd)
    change ((m.write c.1 c.2).writeAll cs).read a = m.read a
    rw [ih _ hr, Memory.read_write_other _ _ (Ne.symm hc)]

theorem setCell_mem_keys (l : List Host.Cell) (a : Nat) (b : Byte) (k : Nat) :
    k ∈ (setCell l a b).map Prod.fst → k = a ∨ k ∈ l.map Prod.fst := by
  induction l with
  | nil => simp [setCell]
  | cons c l ih =>
    obtain ⟨j, v⟩ := c
    simp only [setCell]
    split
    · simp
    · split
      · simp only [List.map_cons, List.mem_cons]
        tauto
      · simp only [List.map_cons, List.mem_cons]
        rintro (h | h)
        · exact Or.inr (Or.inl h)
        · rcases ih h with h | h
          · exact Or.inl h
          · exact Or.inr (Or.inr h)

theorem setCell_rising (l : List Host.Cell) (a : Nat) (b : Byte) (h : (l.map Prod.fst).Pairwise (· < ·)) :
    ((setCell l a b).map Prod.fst).Pairwise (· < ·) := by
  induction l with
  | nil => simp [setCell]
  | cons c l ih =>
    obtain ⟨k, v⟩ := c
    simp only [List.map_cons, List.pairwise_cons] at h
    obtain ⟨hk, hl⟩ := h
    simp only [setCell]
    split
    · rename_i hak
      simp only [List.map_cons, List.pairwise_cons, List.mem_cons]
      refine ⟨?_, hk, hl⟩
      rintro x (rfl | hx)
      · exact hak
      · exact Nat.lt_trans hak (hk x hx)
    · split
      · rename_i _ he
        subst he
        simp only [List.map_cons, List.pairwise_cons]
        exact ⟨hk, hl⟩
      · rename_i h1 h2
        simp only [List.map_cons, List.pairwise_cons]
        refine ⟨?_, ih hl⟩
        intro x hx
        rcases setCell_mem_keys l a b x hx with rfl | hx
        · omega
        · exact hk x hx

theorem Memory.write_wf (m : Memory) (a : Nat) (b : Byte) (h : m.wf) : (m.write a b).wf :=
  setCell_rising m.cells a b h

theorem Memory.writeAll_wf (cs : List Host.Cell) (m : Memory) (h : m.wf) : (m.writeAll cs).wf := by
  induction cs generalizing m with
  | nil => exact h
  | cons c cs ih => exact ih (m.write c.1 c.2) (Memory.write_wf m c.1 c.2 h)

theorem Memory.lose_wf (m : Memory) : m.lose.wf := List.Pairwise.nil

theorem reset_memory_wf : State.reset.mem.wf := List.Pairwise.nil

theorem State.writeMem_wf (s : State) (cs : List Host.Cell) (h : s.mem.wf) : (s.writeMem cs).mem.wf :=
  Memory.writeAll_wf cs s.mem h

end Sys2Proof.Machine
end

