-- ==== Sys2Proof/Laws/LineBuffer.lean ====
section
/-! SUPPORT. What the line buffer of the Pixel Intake does with the bytes of a line (R10, R15, R24). -/

namespace Sys2Proof.Machine

/-- Filling touches the line buffer alone: port, serial, queue and banks stay. -/
@[simp] theorem Intake.fill_keeps (k : Intake) (cells : List Host.Cell) :
    (k.fill cells).2.port = k.port ∧ (k.fill cells).2.serial = k.serial ∧ (k.fill cells).2.queue = k.queue ∧
    (k.fill cells).2.banks = k.banks := by
  unfold Intake.fill
  dsimp only
  split <;> exact ⟨rfl, rfl, rfl, rfl⟩

/-- No byte is lost, none is doubled and their order stays: what is written, what waits and what fills are the bytes
that stood in the buffer and then the new ones. -/
theorem Intake.fill_conserves (k : Intake) (cells : List Host.Cell) :
    (k.fill cells).1 ++ (k.fill cells).2.waiting ++ (k.fill cells).2.filling = k.waiting ++ k.filling ++ cells := by
  unfold Intake.fill
  dsimp only
  split
  · simp
  · next h =>
    have e : segmentBytes * ((k.filling ++ cells).length / segmentBytes) =
        segmentBytes * ((k.filling ++ cells).length / segmentBytes - 1) + segmentBytes := by
      rw [← Nat.mul_succ]
      exact congrArg _ (Nat.succ_pred_eq_of_ne_zero h).symm
    dsimp only
    rw [e, ← List.drop_drop, List.append_assoc (k.waiting ++ _), List.take_append_drop, List.append_assoc,
      List.take_append_drop, List.append_assoc]

/-- Less than a segment fills after any line. -/
theorem Intake.fill_filling_length (k : Intake) (cells : List Host.Cell) :
    (k.fill cells).2.filling.length = (k.filling.length + cells.length) % segmentBytes := by
  unfold Intake.fill
  dsimp only
  split
  · next h =>
    rw [List.length_append] at h ⊢
    exact (Nat.mod_eq_of_lt ((Nat.div_eq_zero_iff.mp h).resolve_left (by decide))).symm
  · simp only [List.length_drop, List.length_append]
    exact (Nat.mod_eq_sub_mul_div).symm

/-- With less than a segment nothing is written and the waiting segment stays. -/
theorem Intake.fill_short (k : Intake) (cells : List Host.Cell)
    (h : k.filling.length + cells.length < segmentBytes) :
    k.fill cells = ([], { k with filling := k.filling ++ cells }) := by
  have e : (k.filling ++ cells).length / segmentBytes = 0 := by
    rw [List.length_append]
    exact Nat.div_eq_of_lt h
  unfold Intake.fill
  dsimp only
  rw [if_pos e]

/-- Where a segment fills, one full segment waits after the line. -/
theorem Intake.fill_waiting_length (k : Intake) (cells : List Host.Cell)
    (h : segmentBytes ≤ k.filling.length + cells.length) : (k.fill cells).2.waiting.length = segmentBytes := by
  have pos : 0 < segmentBytes := by decide
  have full : 0 < (k.filling ++ cells).length / segmentBytes := Nat.div_pos (by rw [List.length_append]; exact h) pos
  have e : segmentBytes * ((k.filling ++ cells).length / segmentBytes - 1) + segmentBytes =
      segmentBytes * ((k.filling ++ cells).length / segmentBytes) := by
    rw [← Nat.mul_succ]
    congr 1
    omega
  have le : segmentBytes * ((k.filling ++ cells).length / segmentBytes) ≤ (k.filling ++ cells).length :=
    Nat.mul_div_le _ _
  unfold Intake.fill
  dsimp only
  rw [if_neg (Nat.pos_iff_ne_zero.mp full)]
  simp only [List.length_take, List.length_drop]
  omega

/-- What PI's grants of a step do where memory is there: it takes the cells, and `f` is applied. -/
theorem State.granted_next (s : State) (cells : List Host.Cell) (f : State → State) (h : s.memoryFits = true) :
    s.granted cells f = .next (f (s.writeMem cells)) := by
  cases cells with
  | nil => rfl
  | cons c cs => exact if_pos h

/-- Frame of PI's grants: a byte that is none of the cells reads as before. -/
theorem State.writeMem_read_other (s : State) (cells : List Host.Cell) (a : Nat) (h : ∀ c ∈ cells, c.1 ≠ a) :
    (s.writeMem cells).mem.read a = s.mem.read a := Memory.read_writeAll_other cells s.mem a h

end Sys2Proof.Machine
end

