-- ==== Sys2Proof/Laws/State.lean ====
section
/-! SUPPORT. What each update of State leaves as it was, one lemma per field. -/

namespace Sys2Proof.Machine

@[simp] theorem State.reply_geo (s : State) (r : Reply) : (s.reply r).geo = s.geo := rfl
@[simp] theorem State.reply_prm (s : State) (r : Reply) : (s.reply r).prm = s.prm := rfl
@[simp] theorem State.reply_mem (s : State) (r : Reply) : (s.reply r).mem = s.mem := rfl
@[simp] theorem State.reply_ma (s : State) (r : Reply) : (s.reply r).ma = s.ma := rfl
@[simp] theorem State.reply_pi (s : State) (r : Reply) : (s.reply r).pi = s.pi := rfl
@[simp] theorem State.reply_ltc (s : State) (r : Reply) : (s.reply r).ltc = s.ltc := rfl
@[simp] theorem State.reply_me (s : State) (r : Reply) : (s.reply r).me = s.me := rfl
@[simp] theorem State.reply_pw (s : State) (r : Reply) : (s.reply r).pw = s.pw := rfl
@[simp] theorem State.reply_bu (s : State) (r : Reply) : (s.reply r).bu = s.bu := rfl
@[simp] theorem State.reply_sc (s : State) (r : Reply) : (s.reply r).sc = s.sc := rfl
@[simp] theorem State.reply_dr (s : State) (r : Reply) : (s.reply r).dr = s.dr := rfl
@[simp] theorem State.reply_cx (s : State) (r : Reply) : (s.reply r).cx = s.cx := rfl
@[simp] theorem State.reply_eu (s : State) (r : Reply) : (s.reply r).eu = s.eu := rfl
@[simp] theorem State.reply_port (s : State) (r : Reply) : (s.reply r).port = s.port := rfl
@[simp] theorem State.reply_free (s : State) (r : Reply) : (s.reply r).free = s.free := rfl
@[simp] theorem State.reply_pending (s : State) (r : Reply) : (s.reply r).pending = s.pending := rfl

@[simp] theorem State.answer_geo (s : State) (d : List Byte) : (s.answer d).geo = s.geo := rfl
@[simp] theorem State.answer_prm (s : State) (d : List Byte) : (s.answer d).prm = s.prm := rfl
@[simp] theorem State.answer_mem (s : State) (d : List Byte) : (s.answer d).mem = s.mem := rfl
@[simp] theorem State.answer_ma (s : State) (d : List Byte) : (s.answer d).ma = s.ma := rfl
@[simp] theorem State.answer_pi (s : State) (d : List Byte) : (s.answer d).pi = s.pi := rfl
@[simp] theorem State.answer_ltc (s : State) (d : List Byte) : (s.answer d).ltc = s.ltc := rfl
@[simp] theorem State.answer_me (s : State) (d : List Byte) : (s.answer d).me = s.me := rfl
@[simp] theorem State.answer_pw (s : State) (d : List Byte) : (s.answer d).pw = s.pw := rfl
@[simp] theorem State.answer_bu (s : State) (d : List Byte) : (s.answer d).bu = s.bu := rfl
@[simp] theorem State.answer_sc (s : State) (d : List Byte) : (s.answer d).sc = s.sc := rfl
@[simp] theorem State.answer_dr (s : State) (d : List Byte) : (s.answer d).dr = s.dr := rfl
@[simp] theorem State.answer_cx (s : State) (d : List Byte) : (s.answer d).cx = s.cx := rfl
@[simp] theorem State.answer_eu (s : State) (d : List Byte) : (s.answer d).eu = s.eu := rfl
@[simp] theorem State.answer_port (s : State) (d : List Byte) : (s.answer d).port = s.port := rfl
@[simp] theorem State.answer_free (s : State) (d : List Byte) : (s.answer d).free = s.free := rfl
@[simp] theorem State.answer_pending (s : State) (d : List Byte) : (s.answer d).pending = s.pending := rfl

@[simp] theorem State.accept_geo (s : State) : s.accept.geo = s.geo := rfl
@[simp] theorem State.accept_prm (s : State) : s.accept.prm = s.prm := rfl
@[simp] theorem State.accept_mem (s : State) : s.accept.mem = s.mem := rfl
@[simp] theorem State.accept_ma (s : State) : s.accept.ma = s.ma := rfl
@[simp] theorem State.accept_pi (s : State) : s.accept.pi = s.pi := rfl
@[simp] theorem State.accept_ltc (s : State) : s.accept.ltc = s.ltc := rfl
@[simp] theorem State.accept_me (s : State) : s.accept.me = s.me := rfl
@[simp] theorem State.accept_pw (s : State) : s.accept.pw = s.pw := rfl
@[simp] theorem State.accept_bu (s : State) : s.accept.bu = s.bu := rfl
@[simp] theorem State.accept_sc (s : State) : s.accept.sc = s.sc := rfl
@[simp] theorem State.accept_dr (s : State) : s.accept.dr = s.dr := rfl
@[simp] theorem State.accept_cx (s : State) : s.accept.cx = s.cx := rfl
@[simp] theorem State.accept_eu (s : State) : s.accept.eu = s.eu := rfl
@[simp] theorem State.accept_port (s : State) : s.accept.port = s.port := rfl
@[simp] theorem State.accept_free (s : State) : s.accept.free = s.free := rfl
@[simp] theorem State.accept_pending (s : State) : s.accept.pending = s.pending := rfl

@[simp] theorem State.refuse_geo (s : State) (r : Reason) : (s.refuse r).geo = s.geo := rfl
@[simp] theorem State.refuse_prm (s : State) (r : Reason) : (s.refuse r).prm = s.prm := rfl
@[simp] theorem State.refuse_mem (s : State) (r : Reason) : (s.refuse r).mem = s.mem := rfl
@[simp] theorem State.refuse_ma (s : State) (r : Reason) : (s.refuse r).ma = s.ma := rfl
@[simp] theorem State.refuse_pi (s : State) (r : Reason) : (s.refuse r).pi = s.pi := rfl
@[simp] theorem State.refuse_ltc (s : State) (r : Reason) : (s.refuse r).ltc = s.ltc := rfl
@[simp] theorem State.refuse_me (s : State) (r : Reason) : (s.refuse r).me = s.me := rfl
@[simp] theorem State.refuse_pw (s : State) (r : Reason) : (s.refuse r).pw = s.pw := rfl
@[simp] theorem State.refuse_bu (s : State) (r : Reason) : (s.refuse r).bu = s.bu := rfl
@[simp] theorem State.refuse_sc (s : State) (r : Reason) : (s.refuse r).sc = s.sc := rfl
@[simp] theorem State.refuse_dr (s : State) (r : Reason) : (s.refuse r).dr = s.dr := rfl
@[simp] theorem State.refuse_cx (s : State) (r : Reason) : (s.refuse r).cx = s.cx := rfl
@[simp] theorem State.refuse_eu (s : State) (r : Reason) : (s.refuse r).eu = s.eu := rfl
@[simp] theorem State.refuse_port (s : State) (r : Reason) : (s.refuse r).port = s.port := rfl
@[simp] theorem State.refuse_free (s : State) (r : Reason) : (s.refuse r).free = s.free := rfl
@[simp] theorem State.refuse_pending (s : State) (r : Reason) : (s.refuse r).pending = s.pending := rfl

@[simp] theorem State.setProcessing_geo (s : State) (q : Processing) : (s.setProcessing q).geo = s.geo := rfl
@[simp] theorem State.setProcessing_prm (s : State) (q : Processing) : (s.setProcessing q).prm = s.prm := rfl
@[simp] theorem State.setProcessing_mem (s : State) (q : Processing) : (s.setProcessing q).mem = s.mem := rfl
@[simp] theorem State.setProcessing_ma (s : State) (q : Processing) : (s.setProcessing q).ma = s.ma := rfl
@[simp] theorem State.setProcessing_pi (s : State) (q : Processing) : (s.setProcessing q).pi = s.pi := rfl
@[simp] theorem State.setProcessing_ltc (s : State) (q : Processing) : (s.setProcessing q).ltc = s.ltc := rfl
@[simp] theorem State.setProcessing_me (s : State) (q : Processing) : (s.setProcessing q).me = s.me := rfl
@[simp] theorem State.setProcessing_pw (s : State) (q : Processing) : (s.setProcessing q).pw = s.pw := rfl
@[simp] theorem State.setProcessing_bu (s : State) (q : Processing) : (s.setProcessing q).bu = s.bu := rfl
@[simp] theorem State.setProcessing_sc (s : State) (q : Processing) : (s.setProcessing q).sc = s.sc := rfl
@[simp] theorem State.setProcessing_dr (s : State) (q : Processing) : (s.setProcessing q).dr = s.dr := rfl
@[simp] theorem State.setProcessing_cx (s : State) (q : Processing) : (s.setProcessing q).cx = s.cx := rfl
@[simp] theorem State.setProcessing_eu (s : State) (q : Processing) : (s.setProcessing q).eu = s.eu := rfl
@[simp] theorem State.setProcessing_port (s : State) (q : Processing) : (s.setProcessing q).port = s.port := rfl
@[simp] theorem State.setProcessing_free (s : State) (q : Processing) : (s.setProcessing q).free = s.free := rfl
@[simp] theorem State.setProcessing_pending (s : State) (q : Processing) :
    (s.setProcessing q).pending = s.pending := rfl

@[simp] theorem State.driveEvents_geo (s : State) (e n : BitVec 14) : (s.driveEvents e n).geo = s.geo := rfl
@[simp] theorem State.driveEvents_prm (s : State) (e n : BitVec 14) : (s.driveEvents e n).prm = s.prm := rfl
@[simp] theorem State.driveEvents_mem (s : State) (e n : BitVec 14) : (s.driveEvents e n).mem = s.mem := rfl
@[simp] theorem State.driveEvents_ma (s : State) (e n : BitVec 14) : (s.driveEvents e n).ma = s.ma := rfl
@[simp] theorem State.driveEvents_pi (s : State) (e n : BitVec 14) : (s.driveEvents e n).pi = s.pi := rfl
@[simp] theorem State.driveEvents_ltc (s : State) (e n : BitVec 14) : (s.driveEvents e n).ltc = s.ltc := rfl
@[simp] theorem State.driveEvents_me (s : State) (e n : BitVec 14) : (s.driveEvents e n).me = s.me := rfl
@[simp] theorem State.driveEvents_pw (s : State) (e n : BitVec 14) : (s.driveEvents e n).pw = s.pw := rfl
@[simp] theorem State.driveEvents_bu (s : State) (e n : BitVec 14) : (s.driveEvents e n).bu = s.bu := rfl
@[simp] theorem State.driveEvents_sc (s : State) (e n : BitVec 14) : (s.driveEvents e n).sc = s.sc := rfl
@[simp] theorem State.driveEvents_dr (s : State) (e n : BitVec 14) : (s.driveEvents e n).dr = s.dr := rfl
@[simp] theorem State.driveEvents_cx (s : State) (e n : BitVec 14) : (s.driveEvents e n).cx = s.cx := rfl
@[simp] theorem State.driveEvents_eu (s : State) (e n : BitVec 14) : (s.driveEvents e n).eu = s.eu := rfl
@[simp] theorem State.driveEvents_port (s : State) (e n : BitVec 14) : (s.driveEvents e n).port = s.port := rfl
@[simp] theorem State.driveEvents_free (s : State) (e n : BitVec 14) : (s.driveEvents e n).free = s.free := rfl
@[simp] theorem State.driveEvents_pending (s : State) (e n : BitVec 14) : (s.driveEvents e n).pending = s.pending := rfl

@[simp] theorem State.raise_geo (s : State) (e : Event) : (s.raise e).geo = s.geo := rfl
@[simp] theorem State.raise_prm (s : State) (e : Event) : (s.raise e).prm = s.prm := rfl
@[simp] theorem State.raise_mem (s : State) (e : Event) : (s.raise e).mem = s.mem := rfl
@[simp] theorem State.raise_ma (s : State) (e : Event) : (s.raise e).ma = s.ma := rfl
@[simp] theorem State.raise_pi (s : State) (e : Event) : (s.raise e).pi = s.pi := rfl
@[simp] theorem State.raise_ltc (s : State) (e : Event) : (s.raise e).ltc = s.ltc := rfl
@[simp] theorem State.raise_me (s : State) (e : Event) : (s.raise e).me = s.me := rfl
@[simp] theorem State.raise_pw (s : State) (e : Event) : (s.raise e).pw = s.pw := rfl
@[simp] theorem State.raise_bu (s : State) (e : Event) : (s.raise e).bu = s.bu := rfl
@[simp] theorem State.raise_sc (s : State) (e : Event) : (s.raise e).sc = s.sc := rfl
@[simp] theorem State.raise_dr (s : State) (e : Event) : (s.raise e).dr = s.dr := rfl
@[simp] theorem State.raise_cx (s : State) (e : Event) : (s.raise e).cx = s.cx := rfl
@[simp] theorem State.raise_eu (s : State) (e : Event) : (s.raise e).eu = s.eu := rfl
@[simp] theorem State.raise_port (s : State) (e : Event) : (s.raise e).port = s.port := rfl
@[simp] theorem State.raise_free (s : State) (e : Event) : (s.raise e).free = s.free := rfl
@[simp] theorem State.raise_pending (s : State) (e : Event) : (s.raise e).pending = s.pending := rfl

@[simp] theorem State.setBank_geo (s : State) (b : BankId) (k : Bank) : (s.setBank b k).geo = s.geo := rfl
@[simp] theorem State.setBank_prm (s : State) (b : BankId) (k : Bank) : (s.setBank b k).prm = s.prm := rfl
@[simp] theorem State.setBank_mem (s : State) (b : BankId) (k : Bank) : (s.setBank b k).mem = s.mem := rfl
@[simp] theorem State.setBank_ma (s : State) (b : BankId) (k : Bank) : (s.setBank b k).ma = s.ma := rfl
@[simp] theorem State.setBank_ltc (s : State) (b : BankId) (k : Bank) : (s.setBank b k).ltc = s.ltc := rfl
@[simp] theorem State.setBank_me (s : State) (b : BankId) (k : Bank) : (s.setBank b k).me = s.me := rfl
@[simp] theorem State.setBank_pw (s : State) (b : BankId) (k : Bank) : (s.setBank b k).pw = s.pw := rfl
@[simp] theorem State.setBank_bu (s : State) (b : BankId) (k : Bank) : (s.setBank b k).bu = s.bu := rfl
@[simp] theorem State.setBank_sc (s : State) (b : BankId) (k : Bank) : (s.setBank b k).sc = s.sc := rfl
@[simp] theorem State.setBank_dr (s : State) (b : BankId) (k : Bank) : (s.setBank b k).dr = s.dr := rfl
@[simp] theorem State.setBank_cx (s : State) (b : BankId) (k : Bank) : (s.setBank b k).cx = s.cx := rfl
@[simp] theorem State.setBank_eu (s : State) (b : BankId) (k : Bank) : (s.setBank b k).eu = s.eu := rfl
@[simp] theorem State.setBank_li (s : State) (b : BankId) (k : Bank) : (s.setBank b k).li = s.li := rfl
@[simp] theorem State.setBank_port (s : State) (b : BankId) (k : Bank) : (s.setBank b k).port = s.port := rfl
@[simp] theorem State.setBank_free (s : State) (b : BankId) (k : Bank) : (s.setBank b k).free = s.free := rfl
@[simp] theorem State.setBank_pending (s : State) (b : BankId) (k : Bank) : (s.setBank b k).pending = s.pending := rfl

@[simp] theorem State.setPort_geo (s : State) (b : Option BankId) : (s.setPort b).geo = s.geo := rfl
@[simp] theorem State.setPort_prm (s : State) (b : Option BankId) : (s.setPort b).prm = s.prm := rfl
@[simp] theorem State.setPort_mem (s : State) (b : Option BankId) : (s.setPort b).mem = s.mem := rfl
@[simp] theorem State.setPort_ma (s : State) (b : Option BankId) : (s.setPort b).ma = s.ma := rfl
@[simp] theorem State.setPort_ltc (s : State) (b : Option BankId) : (s.setPort b).ltc = s.ltc := rfl
@[simp] theorem State.setPort_me (s : State) (b : Option BankId) : (s.setPort b).me = s.me := rfl
@[simp] theorem State.setPort_pw (s : State) (b : Option BankId) : (s.setPort b).pw = s.pw := rfl
@[simp] theorem State.setPort_bu (s : State) (b : Option BankId) : (s.setPort b).bu = s.bu := rfl
@[simp] theorem State.setPort_sc (s : State) (b : Option BankId) : (s.setPort b).sc = s.sc := rfl
@[simp] theorem State.setPort_dr (s : State) (b : Option BankId) : (s.setPort b).dr = s.dr := rfl
@[simp] theorem State.setPort_cx (s : State) (b : Option BankId) : (s.setPort b).cx = s.cx := rfl
@[simp] theorem State.setPort_eu (s : State) (b : Option BankId) : (s.setPort b).eu = s.eu := rfl
@[simp] theorem State.setPort_li (s : State) (b : Option BankId) : (s.setPort b).li = s.li := rfl
@[simp] theorem State.setPort_port (s : State) (b : Option BankId) : (s.setPort b).port = s.port := rfl
@[simp] theorem State.setPort_free (s : State) (b : Option BankId) : (s.setPort b).free = s.free := rfl
@[simp] theorem State.setPort_pending (s : State) (b : Option BankId) : (s.setPort b).pending = s.pending := rfl

@[simp] theorem State.setPass_geo (s : State) (p : Option Pass) : (s.setPass p).geo = s.geo := rfl
@[simp] theorem State.setPass_prm (s : State) (p : Option Pass) : (s.setPass p).prm = s.prm := rfl
@[simp] theorem State.setPass_mem (s : State) (p : Option Pass) : (s.setPass p).mem = s.mem := rfl
@[simp] theorem State.setPass_ma (s : State) (p : Option Pass) : (s.setPass p).ma = s.ma := rfl
@[simp] theorem State.setPass_pi (s : State) (p : Option Pass) : (s.setPass p).pi = s.pi := rfl
@[simp] theorem State.setPass_ltc (s : State) (p : Option Pass) : (s.setPass p).ltc = s.ltc := rfl
@[simp] theorem State.setPass_pw (s : State) (p : Option Pass) : (s.setPass p).pw = s.pw := rfl
@[simp] theorem State.setPass_bu (s : State) (p : Option Pass) : (s.setPass p).bu = s.bu := rfl
@[simp] theorem State.setPass_sc (s : State) (p : Option Pass) : (s.setPass p).sc = s.sc := rfl
@[simp] theorem State.setPass_dr (s : State) (p : Option Pass) : (s.setPass p).dr = s.dr := rfl
@[simp] theorem State.setPass_cx (s : State) (p : Option Pass) : (s.setPass p).cx = s.cx := rfl
@[simp] theorem State.setPass_eu (s : State) (p : Option Pass) : (s.setPass p).eu = s.eu := rfl
@[simp] theorem State.setPass_li (s : State) (p : Option Pass) : (s.setPass p).li = s.li := rfl
@[simp] theorem State.setPass_port (s : State) (p : Option Pass) : (s.setPass p).port = s.port := rfl
@[simp] theorem State.setPass_free (s : State) (p : Option Pass) : (s.setPass p).free = s.free := rfl
@[simp] theorem State.setPass_pending (s : State) (p : Option Pass) : (s.setPass p).pending = s.pending := rfl

@[simp] theorem State.setMode_geo (s : State) (m : TrackMode) (n : Nat) : (s.setMode m n).geo = s.geo := rfl
@[simp] theorem State.setMode_prm (s : State) (m : TrackMode) (n : Nat) : (s.setMode m n).prm = s.prm := rfl
@[simp] theorem State.setMode_mem (s : State) (m : TrackMode) (n : Nat) : (s.setMode m n).mem = s.mem := rfl
@[simp] theorem State.setMode_ma (s : State) (m : TrackMode) (n : Nat) : (s.setMode m n).ma = s.ma := rfl
@[simp] theorem State.setMode_pi (s : State) (m : TrackMode) (n : Nat) : (s.setMode m n).pi = s.pi := rfl
@[simp] theorem State.setMode_ltc (s : State) (m : TrackMode) (n : Nat) : (s.setMode m n).ltc = s.ltc := rfl
@[simp] theorem State.setMode_pw (s : State) (m : TrackMode) (n : Nat) : (s.setMode m n).pw = s.pw := rfl
@[simp] theorem State.setMode_bu (s : State) (m : TrackMode) (n : Nat) : (s.setMode m n).bu = s.bu := rfl
@[simp] theorem State.setMode_sc (s : State) (m : TrackMode) (n : Nat) : (s.setMode m n).sc = s.sc := rfl
@[simp] theorem State.setMode_dr (s : State) (m : TrackMode) (n : Nat) : (s.setMode m n).dr = s.dr := rfl
@[simp] theorem State.setMode_cx (s : State) (m : TrackMode) (n : Nat) : (s.setMode m n).cx = s.cx := rfl
@[simp] theorem State.setMode_eu (s : State) (m : TrackMode) (n : Nat) : (s.setMode m n).eu = s.eu := rfl
@[simp] theorem State.setMode_li (s : State) (m : TrackMode) (n : Nat) : (s.setMode m n).li = s.li := rfl
@[simp] theorem State.setMode_port (s : State) (m : TrackMode) (n : Nat) : (s.setMode m n).port = s.port := rfl
@[simp] theorem State.setMode_free (s : State) (m : TrackMode) (n : Nat) : (s.setMode m n).free = s.free := rfl
@[simp] theorem State.setMode_pending (s : State) (m : TrackMode) (n : Nat) : (s.setMode m n).pending = s.pending := rfl

@[simp] theorem State.clearMatcher_geo (s : State) : s.clearMatcher.geo = s.geo := rfl
@[simp] theorem State.clearMatcher_prm (s : State) : s.clearMatcher.prm = s.prm := rfl
@[simp] theorem State.clearMatcher_mem (s : State) : s.clearMatcher.mem = s.mem := rfl
@[simp] theorem State.clearMatcher_ma (s : State) : s.clearMatcher.ma = s.ma := rfl
@[simp] theorem State.clearMatcher_pi (s : State) : s.clearMatcher.pi = s.pi := rfl
@[simp] theorem State.clearMatcher_ltc (s : State) : s.clearMatcher.ltc = s.ltc := rfl
@[simp] theorem State.clearMatcher_pw (s : State) : s.clearMatcher.pw = s.pw := rfl
@[simp] theorem State.clearMatcher_bu (s : State) : s.clearMatcher.bu = s.bu := rfl
@[simp] theorem State.clearMatcher_sc (s : State) : s.clearMatcher.sc = s.sc := rfl
@[simp] theorem State.clearMatcher_dr (s : State) : s.clearMatcher.dr = s.dr := rfl
@[simp] theorem State.clearMatcher_cx (s : State) : s.clearMatcher.cx = s.cx := rfl
@[simp] theorem State.clearMatcher_eu (s : State) : s.clearMatcher.eu = s.eu := rfl
@[simp] theorem State.clearMatcher_li (s : State) : s.clearMatcher.li = s.li := rfl
@[simp] theorem State.clearMatcher_port (s : State) : s.clearMatcher.port = s.port := rfl
@[simp] theorem State.clearMatcher_free (s : State) : s.clearMatcher.free = s.free := rfl
@[simp] theorem State.clearMatcher_pending (s : State) : s.clearMatcher.pending = s.pending := rfl

@[simp] theorem State.setBlend_geo (s : State) (b : Option BlendPass) : (s.setBlend b).geo = s.geo := rfl
@[simp] theorem State.setBlend_prm (s : State) (b : Option BlendPass) : (s.setBlend b).prm = s.prm := rfl
@[simp] theorem State.setBlend_mem (s : State) (b : Option BlendPass) : (s.setBlend b).mem = s.mem := rfl
@[simp] theorem State.setBlend_ma (s : State) (b : Option BlendPass) : (s.setBlend b).ma = s.ma := rfl
@[simp] theorem State.setBlend_pi (s : State) (b : Option BlendPass) : (s.setBlend b).pi = s.pi := rfl
@[simp] theorem State.setBlend_ltc (s : State) (b : Option BlendPass) : (s.setBlend b).ltc = s.ltc := rfl
@[simp] theorem State.setBlend_me (s : State) (b : Option BlendPass) : (s.setBlend b).me = s.me := rfl
@[simp] theorem State.setBlend_pw (s : State) (b : Option BlendPass) : (s.setBlend b).pw = s.pw := rfl
@[simp] theorem State.setBlend_sc (s : State) (b : Option BlendPass) : (s.setBlend b).sc = s.sc := rfl
@[simp] theorem State.setBlend_dr (s : State) (b : Option BlendPass) : (s.setBlend b).dr = s.dr := rfl
@[simp] theorem State.setBlend_cx (s : State) (b : Option BlendPass) : (s.setBlend b).cx = s.cx := rfl
@[simp] theorem State.setBlend_eu (s : State) (b : Option BlendPass) : (s.setBlend b).eu = s.eu := rfl
@[simp] theorem State.setBlend_li (s : State) (b : Option BlendPass) : (s.setBlend b).li = s.li := rfl
@[simp] theorem State.setBlend_port (s : State) (b : Option BlendPass) : (s.setBlend b).port = s.port := rfl
@[simp] theorem State.setBlend_free (s : State) (b : Option BlendPass) : (s.setBlend b).free = s.free := rfl
@[simp] theorem State.setBlend_pending (s : State) (b : Option BlendPass) : (s.setBlend b).pending = s.pending := rfl

@[simp] theorem State.clearBlender_geo (s : State) : s.clearBlender.geo = s.geo := rfl
@[simp] theorem State.clearBlender_prm (s : State) : s.clearBlender.prm = s.prm := rfl
@[simp] theorem State.clearBlender_mem (s : State) : s.clearBlender.mem = s.mem := rfl
@[simp] theorem State.clearBlender_ma (s : State) : s.clearBlender.ma = s.ma := rfl
@[simp] theorem State.clearBlender_pi (s : State) : s.clearBlender.pi = s.pi := rfl
@[simp] theorem State.clearBlender_ltc (s : State) : s.clearBlender.ltc = s.ltc := rfl
@[simp] theorem State.clearBlender_me (s : State) : s.clearBlender.me = s.me := rfl
@[simp] theorem State.clearBlender_pw (s : State) : s.clearBlender.pw = s.pw := rfl
@[simp] theorem State.clearBlender_sc (s : State) : s.clearBlender.sc = s.sc := rfl
@[simp] theorem State.clearBlender_dr (s : State) : s.clearBlender.dr = s.dr := rfl
@[simp] theorem State.clearBlender_cx (s : State) : s.clearBlender.cx = s.cx := rfl
@[simp] theorem State.clearBlender_eu (s : State) : s.clearBlender.eu = s.eu := rfl
@[simp] theorem State.clearBlender_li (s : State) : s.clearBlender.li = s.li := rfl
@[simp] theorem State.clearBlender_port (s : State) : s.clearBlender.port = s.port := rfl
@[simp] theorem State.clearBlender_free (s : State) : s.clearBlender.free = s.free := rfl
@[simp] theorem State.clearBlender_pending (s : State) : s.clearBlender.pending = s.pending := rfl

@[simp] theorem State.setOp_geo (s : State) (o : ContextOp) : (s.setOp o).geo = s.geo := rfl
@[simp] theorem State.setOp_prm (s : State) (o : ContextOp) : (s.setOp o).prm = s.prm := rfl
@[simp] theorem State.setOp_mem (s : State) (o : ContextOp) : (s.setOp o).mem = s.mem := rfl
@[simp] theorem State.setOp_ma (s : State) (o : ContextOp) : (s.setOp o).ma = s.ma := rfl
@[simp] theorem State.setOp_pi (s : State) (o : ContextOp) : (s.setOp o).pi = s.pi := rfl
@[simp] theorem State.setOp_ltc (s : State) (o : ContextOp) : (s.setOp o).ltc = s.ltc := rfl
@[simp] theorem State.setOp_me (s : State) (o : ContextOp) : (s.setOp o).me = s.me := rfl
@[simp] theorem State.setOp_pw (s : State) (o : ContextOp) : (s.setOp o).pw = s.pw := rfl
@[simp] theorem State.setOp_bu (s : State) (o : ContextOp) : (s.setOp o).bu = s.bu := rfl
@[simp] theorem State.setOp_sc (s : State) (o : ContextOp) : (s.setOp o).sc = s.sc := rfl
@[simp] theorem State.setOp_dr (s : State) (o : ContextOp) : (s.setOp o).dr = s.dr := rfl
@[simp] theorem State.setOp_eu (s : State) (o : ContextOp) : (s.setOp o).eu = s.eu := rfl
@[simp] theorem State.setOp_li (s : State) (o : ContextOp) : (s.setOp o).li = s.li := rfl
@[simp] theorem State.setOp_port (s : State) (o : ContextOp) : (s.setOp o).port = s.port := rfl
@[simp] theorem State.setOp_free (s : State) (o : ContextOp) : (s.setOp o).free = s.free := rfl
@[simp] theorem State.setOp_pending (s : State) (o : ContextOp) : (s.setOp o).pending = s.pending := rfl

@[simp] theorem State.writeMem_geo (s : State) (c : List Host.Cell) : (s.writeMem c).geo = s.geo := rfl
@[simp] theorem State.writeMem_prm (s : State) (c : List Host.Cell) : (s.writeMem c).prm = s.prm := rfl
@[simp] theorem State.writeMem_ma (s : State) (c : List Host.Cell) : (s.writeMem c).ma = s.ma := rfl
@[simp] theorem State.writeMem_pi (s : State) (c : List Host.Cell) : (s.writeMem c).pi = s.pi := rfl
@[simp] theorem State.writeMem_ltc (s : State) (c : List Host.Cell) : (s.writeMem c).ltc = s.ltc := rfl
@[simp] theorem State.writeMem_me (s : State) (c : List Host.Cell) : (s.writeMem c).me = s.me := rfl
@[simp] theorem State.writeMem_pw (s : State) (c : List Host.Cell) : (s.writeMem c).pw = s.pw := rfl
@[simp] theorem State.writeMem_bu (s : State) (c : List Host.Cell) : (s.writeMem c).bu = s.bu := rfl
@[simp] theorem State.writeMem_sc (s : State) (c : List Host.Cell) : (s.writeMem c).sc = s.sc := rfl
@[simp] theorem State.writeMem_dr (s : State) (c : List Host.Cell) : (s.writeMem c).dr = s.dr := rfl
@[simp] theorem State.writeMem_cx (s : State) (c : List Host.Cell) : (s.writeMem c).cx = s.cx := rfl
@[simp] theorem State.writeMem_eu (s : State) (c : List Host.Cell) : (s.writeMem c).eu = s.eu := rfl
@[simp] theorem State.writeMem_li (s : State) (c : List Host.Cell) : (s.writeMem c).li = s.li := rfl
@[simp] theorem State.writeMem_port (s : State) (c : List Host.Cell) : (s.writeMem c).port = s.port := rfl
@[simp] theorem State.writeMem_free (s : State) (c : List Host.Cell) : (s.writeMem c).free = s.free := rfl
@[simp] theorem State.writeMem_pending (s : State) (c : List Host.Cell) : (s.writeMem c).pending = s.pending := rfl

@[simp] theorem State.sendPort_geo (s : State) (e : PortEvent) : (s.sendPort e).geo = s.geo := rfl
@[simp] theorem State.sendPort_prm (s : State) (e : PortEvent) : (s.sendPort e).prm = s.prm := rfl
@[simp] theorem State.sendPort_mem (s : State) (e : PortEvent) : (s.sendPort e).mem = s.mem := rfl
@[simp] theorem State.sendPort_ma (s : State) (e : PortEvent) : (s.sendPort e).ma = s.ma := rfl
@[simp] theorem State.sendPort_pi (s : State) (e : PortEvent) : (s.sendPort e).pi = s.pi := rfl
@[simp] theorem State.sendPort_ltc (s : State) (e : PortEvent) : (s.sendPort e).ltc = s.ltc := rfl
@[simp] theorem State.sendPort_me (s : State) (e : PortEvent) : (s.sendPort e).me = s.me := rfl
@[simp] theorem State.sendPort_pw (s : State) (e : PortEvent) : (s.sendPort e).pw = s.pw := rfl
@[simp] theorem State.sendPort_bu (s : State) (e : PortEvent) : (s.sendPort e).bu = s.bu := rfl
@[simp] theorem State.sendPort_sc (s : State) (e : PortEvent) : (s.sendPort e).sc = s.sc := rfl
@[simp] theorem State.sendPort_dr (s : State) (e : PortEvent) : (s.sendPort e).dr = s.dr := rfl
@[simp] theorem State.sendPort_cx (s : State) (e : PortEvent) : (s.sendPort e).cx = s.cx := rfl
@[simp] theorem State.sendPort_eu (s : State) (e : PortEvent) : (s.sendPort e).eu = s.eu := rfl
@[simp] theorem State.sendPort_li (s : State) (e : PortEvent) : (s.sendPort e).li = s.li := rfl
@[simp] theorem State.sendPort_free (s : State) (e : PortEvent) : (s.sendPort e).free = s.free := rfl
@[simp] theorem State.sendPort_pending (s : State) (e : PortEvent) : (s.sendPort e).pending = s.pending := rfl

@[simp] theorem State.updateRecord_geo (s : State) (v : Serial) (f : Placement → Placement) :
    (s.updateRecord v f).geo = s.geo := rfl
@[simp] theorem State.updateRecord_prm (s : State) (v : Serial) (f : Placement → Placement) :
    (s.updateRecord v f).prm = s.prm := rfl
@[simp] theorem State.updateRecord_mem (s : State) (v : Serial) (f : Placement → Placement) :
    (s.updateRecord v f).mem = s.mem := rfl
@[simp] theorem State.updateRecord_ma (s : State) (v : Serial) (f : Placement → Placement) :
    (s.updateRecord v f).ma = s.ma := rfl
@[simp] theorem State.updateRecord_pi (s : State) (v : Serial) (f : Placement → Placement) :
    (s.updateRecord v f).pi = s.pi := rfl
@[simp] theorem State.updateRecord_ltc (s : State) (v : Serial) (f : Placement → Placement) :
    (s.updateRecord v f).ltc = s.ltc := rfl
@[simp] theorem State.updateRecord_me (s : State) (v : Serial) (f : Placement → Placement) :
    (s.updateRecord v f).me = s.me := rfl
@[simp] theorem State.updateRecord_bu (s : State) (v : Serial) (f : Placement → Placement) :
    (s.updateRecord v f).bu = s.bu := rfl
@[simp] theorem State.updateRecord_sc (s : State) (v : Serial) (f : Placement → Placement) :
    (s.updateRecord v f).sc = s.sc := rfl
@[simp] theorem State.updateRecord_dr (s : State) (v : Serial) (f : Placement → Placement) :
    (s.updateRecord v f).dr = s.dr := rfl
@[simp] theorem State.updateRecord_cx (s : State) (v : Serial) (f : Placement → Placement) :
    (s.updateRecord v f).cx = s.cx := rfl
@[simp] theorem State.updateRecord_eu (s : State) (v : Serial) (f : Placement → Placement) :
    (s.updateRecord v f).eu = s.eu := rfl
@[simp] theorem State.updateRecord_li (s : State) (v : Serial) (f : Placement → Placement) :
    (s.updateRecord v f).li = s.li := rfl
@[simp] theorem State.updateRecord_port (s : State) (v : Serial) (f : Placement → Placement) :
    (s.updateRecord v f).port = s.port := rfl
@[simp] theorem State.updateRecord_free (s : State) (v : Serial) (f : Placement → Placement) :
    (s.updateRecord v f).free = s.free := rfl
@[simp] theorem State.updateRecord_pending (s : State) (v : Serial) (f : Placement → Placement) :
    (s.updateRecord v f).pending = s.pending := rfl

@[simp] theorem State.commitBlocks_geo (s : State) (f : Nat → Serial → Bool) : (s.commitBlocks f).geo = s.geo := rfl
@[simp] theorem State.commitBlocks_prm (s : State) (f : Nat → Serial → Bool) : (s.commitBlocks f).prm = s.prm := rfl
@[simp] theorem State.commitBlocks_mem (s : State) (f : Nat → Serial → Bool) : (s.commitBlocks f).mem = s.mem := rfl
@[simp] theorem State.commitBlocks_ma (s : State) (f : Nat → Serial → Bool) : (s.commitBlocks f).ma = s.ma := rfl
@[simp] theorem State.commitBlocks_pi (s : State) (f : Nat → Serial → Bool) : (s.commitBlocks f).pi = s.pi := rfl
@[simp] theorem State.commitBlocks_ltc (s : State) (f : Nat → Serial → Bool) : (s.commitBlocks f).ltc = s.ltc := rfl
@[simp] theorem State.commitBlocks_me (s : State) (f : Nat → Serial → Bool) : (s.commitBlocks f).me = s.me := rfl
@[simp] theorem State.commitBlocks_sc (s : State) (f : Nat → Serial → Bool) : (s.commitBlocks f).sc = s.sc := rfl
@[simp] theorem State.commitBlocks_dr (s : State) (f : Nat → Serial → Bool) : (s.commitBlocks f).dr = s.dr := rfl
@[simp] theorem State.commitBlocks_cx (s : State) (f : Nat → Serial → Bool) : (s.commitBlocks f).cx = s.cx := rfl
@[simp] theorem State.commitBlocks_eu (s : State) (f : Nat → Serial → Bool) : (s.commitBlocks f).eu = s.eu := rfl
@[simp] theorem State.commitBlocks_li (s : State) (f : Nat → Serial → Bool) : (s.commitBlocks f).li = s.li := rfl
@[simp] theorem State.commitBlocks_port (s : State) (f : Nat → Serial → Bool) : (s.commitBlocks f).port = s.port := rfl
@[simp] theorem State.commitBlocks_free (s : State) (f : Nat → Serial → Bool) : (s.commitBlocks f).free = s.free := rfl
@[simp] theorem State.commitBlocks_pending (s : State) (f : Nat → Serial → Bool) :
    (s.commitBlocks f).pending = s.pending := rfl

@[simp] theorem State.openBlock_geo (s : State) (k : Nat) (v : Serial) : (s.openBlock k v).geo = s.geo := rfl
@[simp] theorem State.openBlock_prm (s : State) (k : Nat) (v : Serial) : (s.openBlock k v).prm = s.prm := rfl
@[simp] theorem State.openBlock_mem (s : State) (k : Nat) (v : Serial) : (s.openBlock k v).mem = s.mem := rfl
@[simp] theorem State.openBlock_ma (s : State) (k : Nat) (v : Serial) : (s.openBlock k v).ma = s.ma := rfl
@[simp] theorem State.openBlock_pi (s : State) (k : Nat) (v : Serial) : (s.openBlock k v).pi = s.pi := rfl
@[simp] theorem State.openBlock_ltc (s : State) (k : Nat) (v : Serial) : (s.openBlock k v).ltc = s.ltc := rfl
@[simp] theorem State.openBlock_me (s : State) (k : Nat) (v : Serial) : (s.openBlock k v).me = s.me := rfl
@[simp] theorem State.openBlock_sc (s : State) (k : Nat) (v : Serial) : (s.openBlock k v).sc = s.sc := rfl
@[simp] theorem State.openBlock_dr (s : State) (k : Nat) (v : Serial) : (s.openBlock k v).dr = s.dr := rfl
@[simp] theorem State.openBlock_cx (s : State) (k : Nat) (v : Serial) : (s.openBlock k v).cx = s.cx := rfl
@[simp] theorem State.openBlock_eu (s : State) (k : Nat) (v : Serial) : (s.openBlock k v).eu = s.eu := rfl
@[simp] theorem State.openBlock_li (s : State) (k : Nat) (v : Serial) : (s.openBlock k v).li = s.li := rfl
@[simp] theorem State.openBlock_port (s : State) (k : Nat) (v : Serial) : (s.openBlock k v).port = s.port := rfl
@[simp] theorem State.openBlock_free (s : State) (k : Nat) (v : Serial) : (s.openBlock k v).free = s.free := rfl
@[simp] theorem State.openBlock_pending (s : State) (k : Nat) (v : Serial) :
    (s.openBlock k v).pending = s.pending := rfl

@[simp] theorem State.forceRetire_geo (s : State) (v : Serial) : (s.forceRetire v).geo = s.geo := rfl
@[simp] theorem State.forceRetire_prm (s : State) (v : Serial) : (s.forceRetire v).prm = s.prm := rfl
@[simp] theorem State.forceRetire_mem (s : State) (v : Serial) : (s.forceRetire v).mem = s.mem := rfl
@[simp] theorem State.forceRetire_ma (s : State) (v : Serial) : (s.forceRetire v).ma = s.ma := rfl
@[simp] theorem State.forceRetire_pi (s : State) (v : Serial) : (s.forceRetire v).pi = s.pi := rfl
@[simp] theorem State.forceRetire_ltc (s : State) (v : Serial) : (s.forceRetire v).ltc = s.ltc := rfl
@[simp] theorem State.forceRetire_me (s : State) (v : Serial) : (s.forceRetire v).me = s.me := rfl
@[simp] theorem State.forceRetire_sc (s : State) (v : Serial) : (s.forceRetire v).sc = s.sc := rfl
@[simp] theorem State.forceRetire_dr (s : State) (v : Serial) : (s.forceRetire v).dr = s.dr := rfl
@[simp] theorem State.forceRetire_cx (s : State) (v : Serial) : (s.forceRetire v).cx = s.cx := rfl
@[simp] theorem State.forceRetire_eu (s : State) (v : Serial) : (s.forceRetire v).eu = s.eu := rfl
@[simp] theorem State.forceRetire_li (s : State) (v : Serial) : (s.forceRetire v).li = s.li := rfl
@[simp] theorem State.forceRetire_port (s : State) (v : Serial) : (s.forceRetire v).port = s.port := rfl
@[simp] theorem State.forceRetire_free (s : State) (v : Serial) : (s.forceRetire v).free = s.free := rfl
@[simp] theorem State.forceRetire_pending (s : State) (v : Serial) : (s.forceRetire v).pending = s.pending := rfl

@[simp] theorem State.setFlag_geo (s : State) (c : Condition) : (s.setFlag c).geo = s.geo := rfl
@[simp] theorem State.setFlag_prm (s : State) (c : Condition) : (s.setFlag c).prm = s.prm := rfl
@[simp] theorem State.setFlag_mem (s : State) (c : Condition) : (s.setFlag c).mem = s.mem := rfl
@[simp] theorem State.setFlag_ma (s : State) (c : Condition) : (s.setFlag c).ma = s.ma := rfl
@[simp] theorem State.setFlag_pi (s : State) (c : Condition) : (s.setFlag c).pi = s.pi := rfl
@[simp] theorem State.setFlag_ltc (s : State) (c : Condition) : (s.setFlag c).ltc = s.ltc := rfl
@[simp] theorem State.setFlag_me (s : State) (c : Condition) : (s.setFlag c).me = s.me := rfl
@[simp] theorem State.setFlag_pw (s : State) (c : Condition) : (s.setFlag c).pw = s.pw := rfl
@[simp] theorem State.setFlag_bu (s : State) (c : Condition) : (s.setFlag c).bu = s.bu := rfl
@[simp] theorem State.setFlag_dr (s : State) (c : Condition) : (s.setFlag c).dr = s.dr := rfl
@[simp] theorem State.setFlag_cx (s : State) (c : Condition) : (s.setFlag c).cx = s.cx := rfl
@[simp] theorem State.setFlag_eu (s : State) (c : Condition) : (s.setFlag c).eu = s.eu := rfl
@[simp] theorem State.setFlag_li (s : State) (c : Condition) : (s.setFlag c).li = s.li := rfl
@[simp] theorem State.setFlag_port (s : State) (c : Condition) : (s.setFlag c).port = s.port := rfl
@[simp] theorem State.setFlag_free (s : State) (c : Condition) : (s.setFlag c).free = s.free := rfl
@[simp] theorem State.setFlag_pending (s : State) (c : Condition) : (s.setFlag c).pending = s.pending := rfl

@[simp] theorem State.setMasks_geo (s : State) (m : BitVec 8) : (s.setMasks m).geo = s.geo := rfl
@[simp] theorem State.setMasks_prm (s : State) (m : BitVec 8) : (s.setMasks m).prm = s.prm := rfl
@[simp] theorem State.setMasks_mem (s : State) (m : BitVec 8) : (s.setMasks m).mem = s.mem := rfl
@[simp] theorem State.setMasks_ma (s : State) (m : BitVec 8) : (s.setMasks m).ma = s.ma := rfl
@[simp] theorem State.setMasks_pi (s : State) (m : BitVec 8) : (s.setMasks m).pi = s.pi := rfl
@[simp] theorem State.setMasks_ltc (s : State) (m : BitVec 8) : (s.setMasks m).ltc = s.ltc := rfl
@[simp] theorem State.setMasks_me (s : State) (m : BitVec 8) : (s.setMasks m).me = s.me := rfl
@[simp] theorem State.setMasks_pw (s : State) (m : BitVec 8) : (s.setMasks m).pw = s.pw := rfl
@[simp] theorem State.setMasks_bu (s : State) (m : BitVec 8) : (s.setMasks m).bu = s.bu := rfl
@[simp] theorem State.setMasks_dr (s : State) (m : BitVec 8) : (s.setMasks m).dr = s.dr := rfl
@[simp] theorem State.setMasks_cx (s : State) (m : BitVec 8) : (s.setMasks m).cx = s.cx := rfl
@[simp] theorem State.setMasks_eu (s : State) (m : BitVec 8) : (s.setMasks m).eu = s.eu := rfl
@[simp] theorem State.setMasks_li (s : State) (m : BitVec 8) : (s.setMasks m).li = s.li := rfl
@[simp] theorem State.setMasks_port (s : State) (m : BitVec 8) : (s.setMasks m).port = s.port := rfl
@[simp] theorem State.setMasks_free (s : State) (m : BitVec 8) : (s.setMasks m).free = s.free := rfl
@[simp] theorem State.setMasks_pending (s : State) (m : BitVec 8) : (s.setMasks m).pending = s.pending := rfl

@[simp] theorem State.setCue_geo (s : State) (b : Bool) : (s.setCue b).geo = s.geo := rfl
@[simp] theorem State.setCue_prm (s : State) (b : Bool) : (s.setCue b).prm = s.prm := rfl
@[simp] theorem State.setCue_mem (s : State) (b : Bool) : (s.setCue b).mem = s.mem := rfl
@[simp] theorem State.setCue_ma (s : State) (b : Bool) : (s.setCue b).ma = s.ma := rfl
@[simp] theorem State.setCue_pi (s : State) (b : Bool) : (s.setCue b).pi = s.pi := rfl
@[simp] theorem State.setCue_ltc (s : State) (b : Bool) : (s.setCue b).ltc = s.ltc := rfl
@[simp] theorem State.setCue_me (s : State) (b : Bool) : (s.setCue b).me = s.me := rfl
@[simp] theorem State.setCue_pw (s : State) (b : Bool) : (s.setCue b).pw = s.pw := rfl
@[simp] theorem State.setCue_bu (s : State) (b : Bool) : (s.setCue b).bu = s.bu := rfl
@[simp] theorem State.setCue_dr (s : State) (b : Bool) : (s.setCue b).dr = s.dr := rfl
@[simp] theorem State.setCue_cx (s : State) (b : Bool) : (s.setCue b).cx = s.cx := rfl
@[simp] theorem State.setCue_eu (s : State) (b : Bool) : (s.setCue b).eu = s.eu := rfl
@[simp] theorem State.setCue_li (s : State) (b : Bool) : (s.setCue b).li = s.li := rfl
@[simp] theorem State.setCue_port (s : State) (b : Bool) : (s.setCue b).port = s.port := rfl
@[simp] theorem State.setCue_free (s : State) (b : Bool) : (s.setCue b).free = s.free := rfl
@[simp] theorem State.setCue_pending (s : State) (b : Bool) : (s.setCue b).pending = s.pending := rfl

@[simp] theorem State.setProgress_geo (s : State) (x : Int) : (s.setProgress x).geo = s.geo := rfl
@[simp] theorem State.setProgress_prm (s : State) (x : Int) : (s.setProgress x).prm = s.prm := rfl
@[simp] theorem State.setProgress_mem (s : State) (x : Int) : (s.setProgress x).mem = s.mem := rfl
@[simp] theorem State.setProgress_ma (s : State) (x : Int) : (s.setProgress x).ma = s.ma := rfl
@[simp] theorem State.setProgress_pi (s : State) (x : Int) : (s.setProgress x).pi = s.pi := rfl
@[simp] theorem State.setProgress_ltc (s : State) (x : Int) : (s.setProgress x).ltc = s.ltc := rfl
@[simp] theorem State.setProgress_me (s : State) (x : Int) : (s.setProgress x).me = s.me := rfl
@[simp] theorem State.setProgress_pw (s : State) (x : Int) : (s.setProgress x).pw = s.pw := rfl
@[simp] theorem State.setProgress_bu (s : State) (x : Int) : (s.setProgress x).bu = s.bu := rfl
@[simp] theorem State.setProgress_dr (s : State) (x : Int) : (s.setProgress x).dr = s.dr := rfl
@[simp] theorem State.setProgress_cx (s : State) (x : Int) : (s.setProgress x).cx = s.cx := rfl
@[simp] theorem State.setProgress_eu (s : State) (x : Int) : (s.setProgress x).eu = s.eu := rfl
@[simp] theorem State.setProgress_li (s : State) (x : Int) : (s.setProgress x).li = s.li := rfl
@[simp] theorem State.setProgress_port (s : State) (x : Int) : (s.setProgress x).port = s.port := rfl
@[simp] theorem State.setProgress_free (s : State) (x : Int) : (s.setProgress x).free = s.free := rfl
@[simp] theorem State.setProgress_pending (s : State) (x : Int) : (s.setProgress x).pending = s.pending := rfl

@[simp] theorem State.drivePace_geo (s : State) (n : Int) : (s.drivePace n).geo = s.geo := rfl
@[simp] theorem State.drivePace_prm (s : State) (n : Int) : (s.drivePace n).prm = s.prm := rfl
@[simp] theorem State.drivePace_mem (s : State) (n : Int) : (s.drivePace n).mem = s.mem := rfl
@[simp] theorem State.drivePace_ma (s : State) (n : Int) : (s.drivePace n).ma = s.ma := rfl
@[simp] theorem State.drivePace_pi (s : State) (n : Int) : (s.drivePace n).pi = s.pi := rfl
@[simp] theorem State.drivePace_ltc (s : State) (n : Int) : (s.drivePace n).ltc = s.ltc := rfl
@[simp] theorem State.drivePace_me (s : State) (n : Int) : (s.drivePace n).me = s.me := rfl
@[simp] theorem State.drivePace_pw (s : State) (n : Int) : (s.drivePace n).pw = s.pw := rfl
@[simp] theorem State.drivePace_bu (s : State) (n : Int) : (s.drivePace n).bu = s.bu := rfl
@[simp] theorem State.drivePace_dr (s : State) (n : Int) : (s.drivePace n).dr = s.dr := rfl
@[simp] theorem State.drivePace_cx (s : State) (n : Int) : (s.drivePace n).cx = s.cx := rfl
@[simp] theorem State.drivePace_eu (s : State) (n : Int) : (s.drivePace n).eu = s.eu := rfl
@[simp] theorem State.drivePace_li (s : State) (n : Int) : (s.drivePace n).li = s.li := rfl
@[simp] theorem State.drivePace_port (s : State) (n : Int) : (s.drivePace n).port = s.port := rfl
@[simp] theorem State.drivePace_free (s : State) (n : Int) : (s.drivePace n).free = s.free := rfl
@[simp] theorem State.drivePace_pending (s : State) (n : Int) : (s.drivePace n).pending = s.pending := rfl

@[simp] theorem State.setClosureState_geo (s : State) (c : ClosureState) : (s.setClosureState c).geo = s.geo := rfl
@[simp] theorem State.setClosureState_prm (s : State) (c : ClosureState) : (s.setClosureState c).prm = s.prm := rfl
@[simp] theorem State.setClosureState_mem (s : State) (c : ClosureState) : (s.setClosureState c).mem = s.mem := rfl
@[simp] theorem State.setClosureState_ma (s : State) (c : ClosureState) : (s.setClosureState c).ma = s.ma := rfl
@[simp] theorem State.setClosureState_pi (s : State) (c : ClosureState) : (s.setClosureState c).pi = s.pi := rfl
@[simp] theorem State.setClosureState_ltc (s : State) (c : ClosureState) : (s.setClosureState c).ltc = s.ltc := rfl
@[simp] theorem State.setClosureState_me (s : State) (c : ClosureState) : (s.setClosureState c).me = s.me := rfl
@[simp] theorem State.setClosureState_pw (s : State) (c : ClosureState) : (s.setClosureState c).pw = s.pw := rfl
@[simp] theorem State.setClosureState_bu (s : State) (c : ClosureState) : (s.setClosureState c).bu = s.bu := rfl
@[simp] theorem State.setClosureState_dr (s : State) (c : ClosureState) : (s.setClosureState c).dr = s.dr := rfl
@[simp] theorem State.setClosureState_cx (s : State) (c : ClosureState) : (s.setClosureState c).cx = s.cx := rfl
@[simp] theorem State.setClosureState_eu (s : State) (c : ClosureState) : (s.setClosureState c).eu = s.eu := rfl
@[simp] theorem State.setClosureState_li (s : State) (c : ClosureState) : (s.setClosureState c).li = s.li := rfl
@[simp] theorem State.setClosureState_port (s : State) (c : ClosureState) : (s.setClosureState c).port = s.port := rfl
@[simp] theorem State.setClosureState_free (s : State) (c : ClosureState) : (s.setClosureState c).free = s.free := rfl
@[simp] theorem State.setClosureState_pending (s : State) (c : ClosureState) :
    (s.setClosureState c).pending = s.pending := rfl

@[simp] theorem State.setCaptureResult_geo (s : State) (r : CaptureResult) : (s.setCaptureResult r).geo = s.geo := rfl
@[simp] theorem State.setCaptureResult_prm (s : State) (r : CaptureResult) : (s.setCaptureResult r).prm = s.prm := rfl
@[simp] theorem State.setCaptureResult_mem (s : State) (r : CaptureResult) : (s.setCaptureResult r).mem = s.mem := rfl
@[simp] theorem State.setCaptureResult_ma (s : State) (r : CaptureResult) : (s.setCaptureResult r).ma = s.ma := rfl
@[simp] theorem State.setCaptureResult_pi (s : State) (r : CaptureResult) : (s.setCaptureResult r).pi = s.pi := rfl
@[simp] theorem State.setCaptureResult_ltc (s : State) (r : CaptureResult) : (s.setCaptureResult r).ltc = s.ltc := rfl
@[simp] theorem State.setCaptureResult_me (s : State) (r : CaptureResult) : (s.setCaptureResult r).me = s.me := rfl
@[simp] theorem State.setCaptureResult_pw (s : State) (r : CaptureResult) : (s.setCaptureResult r).pw = s.pw := rfl
@[simp] theorem State.setCaptureResult_bu (s : State) (r : CaptureResult) : (s.setCaptureResult r).bu = s.bu := rfl
@[simp] theorem State.setCaptureResult_dr (s : State) (r : CaptureResult) : (s.setCaptureResult r).dr = s.dr := rfl
@[simp] theorem State.setCaptureResult_cx (s : State) (r : CaptureResult) : (s.setCaptureResult r).cx = s.cx := rfl
@[simp] theorem State.setCaptureResult_eu (s : State) (r : CaptureResult) : (s.setCaptureResult r).eu = s.eu := rfl
@[simp] theorem State.setCaptureResult_li (s : State) (r : CaptureResult) : (s.setCaptureResult r).li = s.li := rfl
@[simp] theorem State.setCaptureResult_port (s : State) (r : CaptureResult) :
    (s.setCaptureResult r).port = s.port := rfl
@[simp] theorem State.setCaptureResult_free (s : State) (r : CaptureResult) :
    (s.setCaptureResult r).free = s.free := rfl
@[simp] theorem State.setCaptureResult_pending (s : State) (r : CaptureResult) :
    (s.setCaptureResult r).pending = s.pending := rfl

@[simp] theorem State.captureTook_geo (s : State) (r : CaptureResult) : (s.captureTook r).geo = s.geo := rfl
@[simp] theorem State.captureTook_prm (s : State) (r : CaptureResult) : (s.captureTook r).prm = s.prm := rfl
@[simp] theorem State.captureTook_mem (s : State) (r : CaptureResult) : (s.captureTook r).mem = s.mem := rfl
@[simp] theorem State.captureTook_ma (s : State) (r : CaptureResult) : (s.captureTook r).ma = s.ma := rfl
@[simp] theorem State.captureTook_pi (s : State) (r : CaptureResult) : (s.captureTook r).pi = s.pi := rfl
@[simp] theorem State.captureTook_ltc (s : State) (r : CaptureResult) : (s.captureTook r).ltc = s.ltc := rfl
@[simp] theorem State.captureTook_me (s : State) (r : CaptureResult) : (s.captureTook r).me = s.me := rfl
@[simp] theorem State.captureTook_pw (s : State) (r : CaptureResult) : (s.captureTook r).pw = s.pw := rfl
@[simp] theorem State.captureTook_bu (s : State) (r : CaptureResult) : (s.captureTook r).bu = s.bu := rfl
@[simp] theorem State.captureTook_dr (s : State) (r : CaptureResult) : (s.captureTook r).dr = s.dr := rfl
@[simp] theorem State.captureTook_cx (s : State) (r : CaptureResult) : (s.captureTook r).cx = s.cx := rfl
@[simp] theorem State.captureTook_eu (s : State) (r : CaptureResult) : (s.captureTook r).eu = s.eu := rfl
@[simp] theorem State.captureTook_li (s : State) (r : CaptureResult) : (s.captureTook r).li = s.li := rfl
@[simp] theorem State.captureTook_port (s : State) (r : CaptureResult) : (s.captureTook r).port = s.port := rfl
@[simp] theorem State.captureTook_free (s : State) (r : CaptureResult) : (s.captureTook r).free = s.free := rfl
@[simp] theorem State.captureTook_pending (s : State) (r : CaptureResult) : (s.captureTook r).pending = s.pending := rfl

@[simp] theorem State.leaveHeld_geo (s : State) : s.leaveHeld.geo = s.geo := rfl
@[simp] theorem State.leaveHeld_prm (s : State) : s.leaveHeld.prm = s.prm := rfl
@[simp] theorem State.leaveHeld_mem (s : State) : s.leaveHeld.mem = s.mem := rfl
@[simp] theorem State.leaveHeld_ma (s : State) : s.leaveHeld.ma = s.ma := rfl
@[simp] theorem State.leaveHeld_pi (s : State) : s.leaveHeld.pi = s.pi := rfl
@[simp] theorem State.leaveHeld_ltc (s : State) : s.leaveHeld.ltc = s.ltc := rfl
@[simp] theorem State.leaveHeld_me (s : State) : s.leaveHeld.me = s.me := rfl
@[simp] theorem State.leaveHeld_pw (s : State) : s.leaveHeld.pw = s.pw := rfl
@[simp] theorem State.leaveHeld_bu (s : State) : s.leaveHeld.bu = s.bu := rfl
@[simp] theorem State.leaveHeld_dr (s : State) : s.leaveHeld.dr = s.dr := rfl
@[simp] theorem State.leaveHeld_cx (s : State) : s.leaveHeld.cx = s.cx := rfl
@[simp] theorem State.leaveHeld_eu (s : State) : s.leaveHeld.eu = s.eu := rfl
@[simp] theorem State.leaveHeld_li (s : State) : s.leaveHeld.li = s.li := rfl
@[simp] theorem State.leaveHeld_port (s : State) : s.leaveHeld.port = s.port := rfl
@[simp] theorem State.leaveHeld_free (s : State) : s.leaveHeld.free = s.free := rfl
@[simp] theorem State.leaveHeld_pending (s : State) : s.leaveHeld.pending = s.pending := rfl

@[simp] theorem State.rejectClosure_geo (s : State) (v : Serial) (t : ClosureTest) (r : ClosureReason) :
    (s.rejectClosure v t r).geo = s.geo := rfl
@[simp] theorem State.rejectClosure_prm (s : State) (v : Serial) (t : ClosureTest) (r : ClosureReason) :
    (s.rejectClosure v t r).prm = s.prm := rfl
@[simp] theorem State.rejectClosure_mem (s : State) (v : Serial) (t : ClosureTest) (r : ClosureReason) :
    (s.rejectClosure v t r).mem = s.mem := rfl
@[simp] theorem State.rejectClosure_ma (s : State) (v : Serial) (t : ClosureTest) (r : ClosureReason) :
    (s.rejectClosure v t r).ma = s.ma := rfl
@[simp] theorem State.rejectClosure_pi (s : State) (v : Serial) (t : ClosureTest) (r : ClosureReason) :
    (s.rejectClosure v t r).pi = s.pi := rfl
@[simp] theorem State.rejectClosure_ltc (s : State) (v : Serial) (t : ClosureTest) (r : ClosureReason) :
    (s.rejectClosure v t r).ltc = s.ltc := rfl
@[simp] theorem State.rejectClosure_me (s : State) (v : Serial) (t : ClosureTest) (r : ClosureReason) :
    (s.rejectClosure v t r).me = s.me := rfl
@[simp] theorem State.rejectClosure_pw (s : State) (v : Serial) (t : ClosureTest) (r : ClosureReason) :
    (s.rejectClosure v t r).pw = s.pw := rfl
@[simp] theorem State.rejectClosure_bu (s : State) (v : Serial) (t : ClosureTest) (r : ClosureReason) :
    (s.rejectClosure v t r).bu = s.bu := rfl
@[simp] theorem State.rejectClosure_dr (s : State) (v : Serial) (t : ClosureTest) (r : ClosureReason) :
    (s.rejectClosure v t r).dr = s.dr := rfl
@[simp] theorem State.rejectClosure_cx (s : State) (v : Serial) (t : ClosureTest) (r : ClosureReason) :
    (s.rejectClosure v t r).cx = s.cx := rfl
@[simp] theorem State.rejectClosure_eu (s : State) (v : Serial) (t : ClosureTest) (r : ClosureReason) :
    (s.rejectClosure v t r).eu = s.eu := rfl
@[simp] theorem State.rejectClosure_li (s : State) (v : Serial) (t : ClosureTest) (r : ClosureReason) :
    (s.rejectClosure v t r).li = s.li := rfl
@[simp] theorem State.rejectClosure_port (s : State) (v : Serial) (t : ClosureTest) (r : ClosureReason) :
    (s.rejectClosure v t r).port = s.port := rfl
@[simp] theorem State.rejectClosure_free (s : State) (v : Serial) (t : ClosureTest) (r : ClosureReason) :
    (s.rejectClosure v t r).free = s.free := rfl
@[simp] theorem State.rejectClosure_pending (s : State) (v : Serial) (t : ClosureTest) (r : ClosureReason) :
    (s.rejectClosure v t r).pending = s.pending := rfl

@[simp] theorem State.setFeather_geo (s : State) (n : Nat) : (s.setFeather n).geo = s.geo := rfl
@[simp] theorem State.setFeather_mem (s : State) (n : Nat) : (s.setFeather n).mem = s.mem := rfl
@[simp] theorem State.setFeather_ma (s : State) (n : Nat) : (s.setFeather n).ma = s.ma := rfl
@[simp] theorem State.setFeather_pi (s : State) (n : Nat) : (s.setFeather n).pi = s.pi := rfl
@[simp] theorem State.setFeather_ltc (s : State) (n : Nat) : (s.setFeather n).ltc = s.ltc := rfl
@[simp] theorem State.setFeather_me (s : State) (n : Nat) : (s.setFeather n).me = s.me := rfl
@[simp] theorem State.setFeather_pw (s : State) (n : Nat) : (s.setFeather n).pw = s.pw := rfl
@[simp] theorem State.setFeather_bu (s : State) (n : Nat) : (s.setFeather n).bu = s.bu := rfl
@[simp] theorem State.setFeather_sc (s : State) (n : Nat) : (s.setFeather n).sc = s.sc := rfl
@[simp] theorem State.setFeather_dr (s : State) (n : Nat) : (s.setFeather n).dr = s.dr := rfl
@[simp] theorem State.setFeather_cx (s : State) (n : Nat) : (s.setFeather n).cx = s.cx := rfl
@[simp] theorem State.setFeather_eu (s : State) (n : Nat) : (s.setFeather n).eu = s.eu := rfl
@[simp] theorem State.setFeather_li (s : State) (n : Nat) : (s.setFeather n).li = s.li := rfl
@[simp] theorem State.setFeather_port (s : State) (n : Nat) : (s.setFeather n).port = s.port := rfl
@[simp] theorem State.setFeather_free (s : State) (n : Nat) : (s.setFeather n).free = s.free := rfl
@[simp] theorem State.setFeather_pending (s : State) (n : Nat) : (s.setFeather n).pending = s.pending := rfl

@[simp] theorem State.setStart_geo (s : State) (n : Nat) : (s.setStart n).geo = s.geo := rfl
@[simp] theorem State.setStart_prm (s : State) (n : Nat) : (s.setStart n).prm = s.prm := rfl
@[simp] theorem State.setStart_mem (s : State) (n : Nat) : (s.setStart n).mem = s.mem := rfl
@[simp] theorem State.setStart_ma (s : State) (n : Nat) : (s.setStart n).ma = s.ma := rfl
@[simp] theorem State.setStart_pi (s : State) (n : Nat) : (s.setStart n).pi = s.pi := rfl
@[simp] theorem State.setStart_ltc (s : State) (n : Nat) : (s.setStart n).ltc = s.ltc := rfl
@[simp] theorem State.setStart_me (s : State) (n : Nat) : (s.setStart n).me = s.me := rfl
@[simp] theorem State.setStart_pw (s : State) (n : Nat) : (s.setStart n).pw = s.pw := rfl
@[simp] theorem State.setStart_bu (s : State) (n : Nat) : (s.setStart n).bu = s.bu := rfl
@[simp] theorem State.setStart_sc (s : State) (n : Nat) : (s.setStart n).sc = s.sc := rfl
@[simp] theorem State.setStart_cx (s : State) (n : Nat) : (s.setStart n).cx = s.cx := rfl
@[simp] theorem State.setStart_eu (s : State) (n : Nat) : (s.setStart n).eu = s.eu := rfl
@[simp] theorem State.setStart_li (s : State) (n : Nat) : (s.setStart n).li = s.li := rfl
@[simp] theorem State.setStart_port (s : State) (n : Nat) : (s.setStart n).port = s.port := rfl
@[simp] theorem State.setStart_free (s : State) (n : Nat) : (s.setStart n).free = s.free := rfl
@[simp] theorem State.setStart_pending (s : State) (n : Nat) : (s.setStart n).pending = s.pending := rfl

@[simp] theorem State.dropGap_geo (s : State) : s.dropGap.geo = s.geo := rfl
@[simp] theorem State.dropGap_prm (s : State) : s.dropGap.prm = s.prm := rfl
@[simp] theorem State.dropGap_mem (s : State) : s.dropGap.mem = s.mem := rfl
@[simp] theorem State.dropGap_ma (s : State) : s.dropGap.ma = s.ma := rfl
@[simp] theorem State.dropGap_pi (s : State) : s.dropGap.pi = s.pi := rfl
@[simp] theorem State.dropGap_ltc (s : State) : s.dropGap.ltc = s.ltc := rfl
@[simp] theorem State.dropGap_me (s : State) : s.dropGap.me = s.me := rfl
@[simp] theorem State.dropGap_pw (s : State) : s.dropGap.pw = s.pw := rfl
@[simp] theorem State.dropGap_bu (s : State) : s.dropGap.bu = s.bu := rfl
@[simp] theorem State.dropGap_sc (s : State) : s.dropGap.sc = s.sc := rfl
@[simp] theorem State.dropGap_cx (s : State) : s.dropGap.cx = s.cx := rfl
@[simp] theorem State.dropGap_eu (s : State) : s.dropGap.eu = s.eu := rfl
@[simp] theorem State.dropGap_li (s : State) : s.dropGap.li = s.li := rfl
@[simp] theorem State.dropGap_port (s : State) : s.dropGap.port = s.port := rfl
@[simp] theorem State.dropGap_free (s : State) : s.dropGap.free = s.free := rfl
@[simp] theorem State.dropGap_pending (s : State) : s.dropGap.pending = s.pending := rfl

@[simp] theorem State.flow_geo (s : State) (n : Option Nat) : (s.flow n).geo = s.geo := rfl
@[simp] theorem State.flow_prm (s : State) (n : Option Nat) : (s.flow n).prm = s.prm := rfl
@[simp] theorem State.flow_mem (s : State) (n : Option Nat) : (s.flow n).mem = s.mem := rfl
@[simp] theorem State.flow_ma (s : State) (n : Option Nat) : (s.flow n).ma = s.ma := rfl
@[simp] theorem State.flow_pi (s : State) (n : Option Nat) : (s.flow n).pi = s.pi := rfl
@[simp] theorem State.flow_ltc (s : State) (n : Option Nat) : (s.flow n).ltc = s.ltc := rfl
@[simp] theorem State.flow_me (s : State) (n : Option Nat) : (s.flow n).me = s.me := rfl
@[simp] theorem State.flow_pw (s : State) (n : Option Nat) : (s.flow n).pw = s.pw := rfl
@[simp] theorem State.flow_bu (s : State) (n : Option Nat) : (s.flow n).bu = s.bu := rfl
@[simp] theorem State.flow_sc (s : State) (n : Option Nat) : (s.flow n).sc = s.sc := rfl
@[simp] theorem State.flow_cx (s : State) (n : Option Nat) : (s.flow n).cx = s.cx := rfl
@[simp] theorem State.flow_eu (s : State) (n : Option Nat) : (s.flow n).eu = s.eu := rfl
@[simp] theorem State.flow_li (s : State) (n : Option Nat) : (s.flow n).li = s.li := rfl
@[simp] theorem State.flow_port (s : State) (n : Option Nat) : (s.flow n).port = s.port := rfl
@[simp] theorem State.flow_free (s : State) (n : Option Nat) : (s.flow n).free = s.free := rfl
@[simp] theorem State.flow_pending (s : State) (n : Option Nat) : (s.flow n).pending = s.pending := rfl

@[simp] theorem State.readWord_geo (s : State) : s.readWord.geo = s.geo := rfl
@[simp] theorem State.readWord_prm (s : State) : s.readWord.prm = s.prm := rfl
@[simp] theorem State.readWord_mem (s : State) : s.readWord.mem = s.mem := rfl
@[simp] theorem State.readWord_ma (s : State) : s.readWord.ma = s.ma := rfl
@[simp] theorem State.readWord_pi (s : State) : s.readWord.pi = s.pi := rfl
@[simp] theorem State.readWord_ltc (s : State) : s.readWord.ltc = s.ltc := rfl
@[simp] theorem State.readWord_me (s : State) : s.readWord.me = s.me := rfl
@[simp] theorem State.readWord_pw (s : State) : s.readWord.pw = s.pw := rfl
@[simp] theorem State.readWord_bu (s : State) : s.readWord.bu = s.bu := rfl
@[simp] theorem State.readWord_sc (s : State) : s.readWord.sc = s.sc := rfl
@[simp] theorem State.readWord_cx (s : State) : s.readWord.cx = s.cx := rfl
@[simp] theorem State.readWord_eu (s : State) : s.readWord.eu = s.eu := rfl
@[simp] theorem State.readWord_li (s : State) : s.readWord.li = s.li := rfl
@[simp] theorem State.readWord_port (s : State) : s.readWord.port = s.port := rfl
@[simp] theorem State.readWord_free (s : State) : s.readWord.free = s.free := rfl
@[simp] theorem State.readWord_pending (s : State) : s.readWord.pending = s.pending := rfl

@[simp] theorem State.claimRegion_geo (s : State) (a n : Nat) : (s.claimRegion a n).geo = s.geo := rfl
@[simp] theorem State.claimRegion_prm (s : State) (a n : Nat) : (s.claimRegion a n).prm = s.prm := rfl
@[simp] theorem State.claimRegion_mem (s : State) (a n : Nat) : (s.claimRegion a n).mem = s.mem := rfl
@[simp] theorem State.claimRegion_ma (s : State) (a n : Nat) : (s.claimRegion a n).ma = s.ma := rfl
@[simp] theorem State.claimRegion_pi (s : State) (a n : Nat) : (s.claimRegion a n).pi = s.pi := rfl
@[simp] theorem State.claimRegion_me (s : State) (a n : Nat) : (s.claimRegion a n).me = s.me := rfl
@[simp] theorem State.claimRegion_pw (s : State) (a n : Nat) : (s.claimRegion a n).pw = s.pw := rfl
@[simp] theorem State.claimRegion_bu (s : State) (a n : Nat) : (s.claimRegion a n).bu = s.bu := rfl
@[simp] theorem State.claimRegion_sc (s : State) (a n : Nat) : (s.claimRegion a n).sc = s.sc := rfl
@[simp] theorem State.claimRegion_dr (s : State) (a n : Nat) : (s.claimRegion a n).dr = s.dr := rfl
@[simp] theorem State.claimRegion_cx (s : State) (a n : Nat) : (s.claimRegion a n).cx = s.cx := rfl
@[simp] theorem State.claimRegion_eu (s : State) (a n : Nat) : (s.claimRegion a n).eu = s.eu := rfl
@[simp] theorem State.claimRegion_li (s : State) (a n : Nat) : (s.claimRegion a n).li = s.li := rfl
@[simp] theorem State.claimRegion_port (s : State) (a n : Nat) : (s.claimRegion a n).port = s.port := rfl
@[simp] theorem State.claimRegion_free (s : State) (a n : Nat) : (s.claimRegion a n).free = s.free := rfl
@[simp] theorem State.claimRegion_pending (s : State) (a n : Nat) : (s.claimRegion a n).pending = s.pending := rfl

@[simp] theorem State.retireRegion_geo (s : State) (a n : Nat) : (s.retireRegion a n).geo = s.geo := rfl
@[simp] theorem State.retireRegion_prm (s : State) (a n : Nat) : (s.retireRegion a n).prm = s.prm := rfl
@[simp] theorem State.retireRegion_mem (s : State) (a n : Nat) : (s.retireRegion a n).mem = s.mem := rfl
@[simp] theorem State.retireRegion_ma (s : State) (a n : Nat) : (s.retireRegion a n).ma = s.ma := rfl
@[simp] theorem State.retireRegion_pi (s : State) (a n : Nat) : (s.retireRegion a n).pi = s.pi := rfl
@[simp] theorem State.retireRegion_me (s : State) (a n : Nat) : (s.retireRegion a n).me = s.me := rfl
@[simp] theorem State.retireRegion_pw (s : State) (a n : Nat) : (s.retireRegion a n).pw = s.pw := rfl
@[simp] theorem State.retireRegion_bu (s : State) (a n : Nat) : (s.retireRegion a n).bu = s.bu := rfl
@[simp] theorem State.retireRegion_sc (s : State) (a n : Nat) : (s.retireRegion a n).sc = s.sc := rfl
@[simp] theorem State.retireRegion_dr (s : State) (a n : Nat) : (s.retireRegion a n).dr = s.dr := rfl
@[simp] theorem State.retireRegion_cx (s : State) (a n : Nat) : (s.retireRegion a n).cx = s.cx := rfl
@[simp] theorem State.retireRegion_eu (s : State) (a n : Nat) : (s.retireRegion a n).eu = s.eu := rfl
@[simp] theorem State.retireRegion_li (s : State) (a n : Nat) : (s.retireRegion a n).li = s.li := rfl
@[simp] theorem State.retireRegion_port (s : State) (a n : Nat) : (s.retireRegion a n).port = s.port := rfl
@[simp] theorem State.retireRegion_free (s : State) (a n : Nat) : (s.retireRegion a n).free = s.free := rfl
@[simp] theorem State.retireRegion_pending (s : State) (a n : Nat) : (s.retireRegion a n).pending = s.pending := rfl

@[simp] theorem State.countFrame_geo (s : State) : s.countFrame.geo = s.geo := rfl
@[simp] theorem State.countFrame_prm (s : State) : s.countFrame.prm = s.prm := rfl
@[simp] theorem State.countFrame_mem (s : State) : s.countFrame.mem = s.mem := rfl
@[simp] theorem State.countFrame_ma (s : State) : s.countFrame.ma = s.ma := rfl
@[simp] theorem State.countFrame_ltc (s : State) : s.countFrame.ltc = s.ltc := rfl
@[simp] theorem State.countFrame_me (s : State) : s.countFrame.me = s.me := rfl
@[simp] theorem State.countFrame_pw (s : State) : s.countFrame.pw = s.pw := rfl
@[simp] theorem State.countFrame_bu (s : State) : s.countFrame.bu = s.bu := rfl
@[simp] theorem State.countFrame_dr (s : State) : s.countFrame.dr = s.dr := rfl
@[simp] theorem State.countFrame_cx (s : State) : s.countFrame.cx = s.cx := rfl
@[simp] theorem State.countFrame_eu (s : State) : s.countFrame.eu = s.eu := rfl
@[simp] theorem State.countFrame_li (s : State) : s.countFrame.li = s.li := rfl
@[simp] theorem State.countFrame_port (s : State) : s.countFrame.port = s.port := rfl
@[simp] theorem State.countFrame_free (s : State) : s.countFrame.free = s.free := rfl
@[simp] theorem State.countFrame_pending (s : State) : s.countFrame.pending = s.pending := rfl

@[simp] theorem State.solvedAt_geo (s : State) (p : Pass) (x y : Int) : (s.solvedAt p x y).geo = s.geo := rfl
@[simp] theorem State.solvedAt_prm (s : State) (p : Pass) (x y : Int) : (s.solvedAt p x y).prm = s.prm := rfl
@[simp] theorem State.solvedAt_mem (s : State) (p : Pass) (x y : Int) : (s.solvedAt p x y).mem = s.mem := rfl
@[simp] theorem State.solvedAt_ma (s : State) (p : Pass) (x y : Int) : (s.solvedAt p x y).ma = s.ma := rfl
@[simp] theorem State.solvedAt_pi (s : State) (p : Pass) (x y : Int) : (s.solvedAt p x y).pi = s.pi := rfl
@[simp] theorem State.solvedAt_ltc (s : State) (p : Pass) (x y : Int) : (s.solvedAt p x y).ltc = s.ltc := rfl
@[simp] theorem State.solvedAt_pw (s : State) (p : Pass) (x y : Int) : (s.solvedAt p x y).pw = s.pw := rfl
@[simp] theorem State.solvedAt_bu (s : State) (p : Pass) (x y : Int) : (s.solvedAt p x y).bu = s.bu := rfl
@[simp] theorem State.solvedAt_sc (s : State) (p : Pass) (x y : Int) : (s.solvedAt p x y).sc = s.sc := rfl
@[simp] theorem State.solvedAt_dr (s : State) (p : Pass) (x y : Int) : (s.solvedAt p x y).dr = s.dr := rfl
@[simp] theorem State.solvedAt_cx (s : State) (p : Pass) (x y : Int) : (s.solvedAt p x y).cx = s.cx := rfl
@[simp] theorem State.solvedAt_eu (s : State) (p : Pass) (x y : Int) : (s.solvedAt p x y).eu = s.eu := rfl
@[simp] theorem State.solvedAt_li (s : State) (p : Pass) (x y : Int) : (s.solvedAt p x y).li = s.li := rfl
@[simp] theorem State.solvedAt_port (s : State) (p : Pass) (x y : Int) : (s.solvedAt p x y).port = s.port := rfl
@[simp] theorem State.solvedAt_free (s : State) (p : Pass) (x y : Int) : (s.solvedAt p x y).free = s.free := rfl
@[simp] theorem State.solvedAt_pending (s : State) (p : Pass) (x y : Int) :
    (s.solvedAt p x y).pending = s.pending := rfl

@[simp] theorem State.takeQueued_geo (s : State) (b : BankId) (q : List BankId) : (s.takeQueued b q).geo = s.geo := rfl
@[simp] theorem State.takeQueued_prm (s : State) (b : BankId) (q : List BankId) : (s.takeQueued b q).prm = s.prm := rfl
@[simp] theorem State.takeQueued_mem (s : State) (b : BankId) (q : List BankId) : (s.takeQueued b q).mem = s.mem := rfl
@[simp] theorem State.takeQueued_ma (s : State) (b : BankId) (q : List BankId) : (s.takeQueued b q).ma = s.ma := rfl
@[simp] theorem State.takeQueued_ltc (s : State) (b : BankId) (q : List BankId) : (s.takeQueued b q).ltc = s.ltc := rfl
@[simp] theorem State.takeQueued_me (s : State) (b : BankId) (q : List BankId) : (s.takeQueued b q).me = s.me := rfl
@[simp] theorem State.takeQueued_pw (s : State) (b : BankId) (q : List BankId) : (s.takeQueued b q).pw = s.pw := rfl
@[simp] theorem State.takeQueued_bu (s : State) (b : BankId) (q : List BankId) : (s.takeQueued b q).bu = s.bu := rfl
@[simp] theorem State.takeQueued_sc (s : State) (b : BankId) (q : List BankId) : (s.takeQueued b q).sc = s.sc := rfl
@[simp] theorem State.takeQueued_dr (s : State) (b : BankId) (q : List BankId) : (s.takeQueued b q).dr = s.dr := rfl
@[simp] theorem State.takeQueued_cx (s : State) (b : BankId) (q : List BankId) : (s.takeQueued b q).cx = s.cx := rfl
@[simp] theorem State.takeQueued_eu (s : State) (b : BankId) (q : List BankId) : (s.takeQueued b q).eu = s.eu := rfl
@[simp] theorem State.takeQueued_li (s : State) (b : BankId) (q : List BankId) : (s.takeQueued b q).li = s.li := rfl
@[simp] theorem State.takeQueued_port (s : State) (b : BankId) (q : List BankId) :
    (s.takeQueued b q).port = s.port := rfl
@[simp] theorem State.takeQueued_free (s : State) (b : BankId) (q : List BankId) :
    (s.takeQueued b q).free = s.free := rfl
@[simp] theorem State.takeQueued_pending (s : State) (b : BankId) (q : List BankId) :
    (s.takeQueued b q).pending = s.pending := rfl

@[simp] theorem State.queueBank_geo (s : State) (b : BankId) : (s.queueBank b).geo = s.geo := rfl
@[simp] theorem State.queueBank_prm (s : State) (b : BankId) : (s.queueBank b).prm = s.prm := rfl
@[simp] theorem State.queueBank_mem (s : State) (b : BankId) : (s.queueBank b).mem = s.mem := rfl
@[simp] theorem State.queueBank_ma (s : State) (b : BankId) : (s.queueBank b).ma = s.ma := rfl
@[simp] theorem State.queueBank_ltc (s : State) (b : BankId) : (s.queueBank b).ltc = s.ltc := rfl
@[simp] theorem State.queueBank_me (s : State) (b : BankId) : (s.queueBank b).me = s.me := rfl
@[simp] theorem State.queueBank_pw (s : State) (b : BankId) : (s.queueBank b).pw = s.pw := rfl
@[simp] theorem State.queueBank_bu (s : State) (b : BankId) : (s.queueBank b).bu = s.bu := rfl
@[simp] theorem State.queueBank_sc (s : State) (b : BankId) : (s.queueBank b).sc = s.sc := rfl
@[simp] theorem State.queueBank_dr (s : State) (b : BankId) : (s.queueBank b).dr = s.dr := rfl
@[simp] theorem State.queueBank_cx (s : State) (b : BankId) : (s.queueBank b).cx = s.cx := rfl
@[simp] theorem State.queueBank_eu (s : State) (b : BankId) : (s.queueBank b).eu = s.eu := rfl
@[simp] theorem State.queueBank_li (s : State) (b : BankId) : (s.queueBank b).li = s.li := rfl
@[simp] theorem State.queueBank_port (s : State) (b : BankId) : (s.queueBank b).port = s.port := rfl
@[simp] theorem State.queueBank_free (s : State) (b : BankId) : (s.queueBank b).free = s.free := rfl
@[simp] theorem State.queueBank_pending (s : State) (b : BankId) : (s.queueBank b).pending = s.pending := rfl

@[simp] theorem State.writeSegment_geo (s : State) : s.writeSegment.geo = s.geo := rfl
@[simp] theorem State.writeSegment_prm (s : State) : s.writeSegment.prm = s.prm := rfl
@[simp] theorem State.writeSegment_ma (s : State) : s.writeSegment.ma = s.ma := rfl
@[simp] theorem State.writeSegment_ltc (s : State) : s.writeSegment.ltc = s.ltc := rfl
@[simp] theorem State.writeSegment_me (s : State) : s.writeSegment.me = s.me := rfl
@[simp] theorem State.writeSegment_pw (s : State) : s.writeSegment.pw = s.pw := rfl
@[simp] theorem State.writeSegment_bu (s : State) : s.writeSegment.bu = s.bu := rfl
@[simp] theorem State.writeSegment_sc (s : State) : s.writeSegment.sc = s.sc := rfl
@[simp] theorem State.writeSegment_dr (s : State) : s.writeSegment.dr = s.dr := rfl
@[simp] theorem State.writeSegment_cx (s : State) : s.writeSegment.cx = s.cx := rfl
@[simp] theorem State.writeSegment_eu (s : State) : s.writeSegment.eu = s.eu := rfl
@[simp] theorem State.writeSegment_li (s : State) : s.writeSegment.li = s.li := rfl
@[simp] theorem State.writeSegment_port (s : State) : s.writeSegment.port = s.port := rfl
@[simp] theorem State.writeSegment_free (s : State) : s.writeSegment.free = s.free := rfl
@[simp] theorem State.writeSegment_pending (s : State) : s.writeSegment.pending = s.pending := rfl

@[simp] theorem State.serveRefresh_geo (s : State) : s.serveRefresh.geo = s.geo := rfl
@[simp] theorem State.serveRefresh_prm (s : State) : s.serveRefresh.prm = s.prm := rfl
@[simp] theorem State.serveRefresh_mem (s : State) : s.serveRefresh.mem = s.mem := rfl
@[simp] theorem State.serveRefresh_pi (s : State) : s.serveRefresh.pi = s.pi := rfl
@[simp] theorem State.serveRefresh_ltc (s : State) : s.serveRefresh.ltc = s.ltc := rfl
@[simp] theorem State.serveRefresh_me (s : State) : s.serveRefresh.me = s.me := rfl
@[simp] theorem State.serveRefresh_pw (s : State) : s.serveRefresh.pw = s.pw := rfl
@[simp] theorem State.serveRefresh_bu (s : State) : s.serveRefresh.bu = s.bu := rfl
@[simp] theorem State.serveRefresh_sc (s : State) : s.serveRefresh.sc = s.sc := rfl
@[simp] theorem State.serveRefresh_dr (s : State) : s.serveRefresh.dr = s.dr := rfl
@[simp] theorem State.serveRefresh_cx (s : State) : s.serveRefresh.cx = s.cx := rfl
@[simp] theorem State.serveRefresh_eu (s : State) : s.serveRefresh.eu = s.eu := rfl
@[simp] theorem State.serveRefresh_li (s : State) : s.serveRefresh.li = s.li := rfl
@[simp] theorem State.serveRefresh_port (s : State) : s.serveRefresh.port = s.port := rfl
@[simp] theorem State.serveRefresh_free (s : State) : s.serveRefresh.free = s.free := rfl
@[simp] theorem State.serveRefresh_pending (s : State) : s.serveRefresh.pending = s.pending := rfl

@[simp] theorem State.fillCapture_geo (s : State) : s.fillCapture.geo = s.geo := rfl
@[simp] theorem State.fillCapture_prm (s : State) : s.fillCapture.prm = s.prm := rfl
@[simp] theorem State.fillCapture_mem (s : State) : s.fillCapture.mem = s.mem := rfl
@[simp] theorem State.fillCapture_ma (s : State) : s.fillCapture.ma = s.ma := rfl
@[simp] theorem State.fillCapture_pi (s : State) : s.fillCapture.pi = s.pi := rfl
@[simp] theorem State.fillCapture_ltc (s : State) : s.fillCapture.ltc = s.ltc := rfl
@[simp] theorem State.fillCapture_me (s : State) : s.fillCapture.me = s.me := rfl
@[simp] theorem State.fillCapture_pw (s : State) : s.fillCapture.pw = s.pw := rfl
@[simp] theorem State.fillCapture_bu (s : State) : s.fillCapture.bu = s.bu := rfl
@[simp] theorem State.fillCapture_dr (s : State) : s.fillCapture.dr = s.dr := rfl
@[simp] theorem State.fillCapture_cx (s : State) : s.fillCapture.cx = s.cx := rfl
@[simp] theorem State.fillCapture_eu (s : State) : s.fillCapture.eu = s.eu := rfl
@[simp] theorem State.fillCapture_port (s : State) : s.fillCapture.port = s.port := rfl
@[simp] theorem State.fillCapture_free (s : State) : s.fillCapture.free = s.free := rfl
@[simp] theorem State.fillCapture_pending (s : State) : s.fillCapture.pending = s.pending := rfl

@[simp] theorem State.configure_prm (s : State) (g : Geometry) : (s.configure g).prm = s.prm := rfl
@[simp] theorem State.configure_mem (s : State) (g : Geometry) : (s.configure g).mem = s.mem := rfl
@[simp] theorem State.configure_ma (s : State) (g : Geometry) : (s.configure g).ma = s.ma := rfl
@[simp] theorem State.configure_pi (s : State) (g : Geometry) : (s.configure g).pi = s.pi := rfl
@[simp] theorem State.configure_me (s : State) (g : Geometry) : (s.configure g).me = s.me := rfl
@[simp] theorem State.configure_pw (s : State) (g : Geometry) : (s.configure g).pw = s.pw := rfl
@[simp] theorem State.configure_sc (s : State) (g : Geometry) : (s.configure g).sc = s.sc := rfl
@[simp] theorem State.configure_dr (s : State) (g : Geometry) : (s.configure g).dr = s.dr := rfl
@[simp] theorem State.configure_cx (s : State) (g : Geometry) : (s.configure g).cx = s.cx := rfl
@[simp] theorem State.configure_eu (s : State) (g : Geometry) : (s.configure g).eu = s.eu := rfl
@[simp] theorem State.configure_li (s : State) (g : Geometry) : (s.configure g).li = s.li := rfl
@[simp] theorem State.configure_port (s : State) (g : Geometry) : (s.configure g).port = s.port := rfl
@[simp] theorem State.configure_free (s : State) (g : Geometry) : (s.configure g).free = s.free := rfl
@[simp] theorem State.configure_pending (s : State) (g : Geometry) : (s.configure g).pending = s.pending := rfl

@[simp] theorem State.endRollback_geo (s : State) (k : SlotId) (r : RollbackResult) :
    (s.endRollback k r).geo = s.geo := rfl
@[simp] theorem State.endRollback_prm (s : State) (k : SlotId) (r : RollbackResult) :
    (s.endRollback k r).prm = s.prm := rfl
@[simp] theorem State.endRollback_mem (s : State) (k : SlotId) (r : RollbackResult) :
    (s.endRollback k r).mem = s.mem := rfl
@[simp] theorem State.endRollback_ma (s : State) (k : SlotId) (r : RollbackResult) :
    (s.endRollback k r).ma = s.ma := rfl
@[simp] theorem State.endRollback_pi (s : State) (k : SlotId) (r : RollbackResult) :
    (s.endRollback k r).pi = s.pi := rfl
@[simp] theorem State.endRollback_ltc (s : State) (k : SlotId) (r : RollbackResult) :
    (s.endRollback k r).ltc = s.ltc := rfl
@[simp] theorem State.endRollback_me (s : State) (k : SlotId) (r : RollbackResult) :
    (s.endRollback k r).me = s.me := rfl
@[simp] theorem State.endRollback_pw (s : State) (k : SlotId) (r : RollbackResult) :
    (s.endRollback k r).pw = s.pw := rfl
@[simp] theorem State.endRollback_bu (s : State) (k : SlotId) (r : RollbackResult) :
    (s.endRollback k r).bu = s.bu := rfl
@[simp] theorem State.endRollback_sc (s : State) (k : SlotId) (r : RollbackResult) :
    (s.endRollback k r).sc = s.sc := rfl
@[simp] theorem State.endRollback_dr (s : State) (k : SlotId) (r : RollbackResult) :
    (s.endRollback k r).dr = s.dr := rfl
@[simp] theorem State.endRollback_eu (s : State) (k : SlotId) (r : RollbackResult) :
    (s.endRollback k r).eu = s.eu := rfl
@[simp] theorem State.endRollback_port (s : State) (k : SlotId) (r : RollbackResult) :
    (s.endRollback k r).port = s.port := rfl
@[simp] theorem State.endRollback_free (s : State) (k : SlotId) (r : RollbackResult) :
    (s.endRollback k r).free = s.free := rfl
@[simp] theorem State.endRollback_pending (s : State) (k : SlotId) (r : RollbackResult) :
    (s.endRollback k r).pending = s.pending := rfl

@[simp] theorem State.endJob_geo (s : State) (r : JobResult) : (s.endJob r).geo = s.geo := rfl
@[simp] theorem State.endJob_prm (s : State) (r : JobResult) : (s.endJob r).prm = s.prm := rfl
@[simp] theorem State.endJob_mem (s : State) (r : JobResult) : (s.endJob r).mem = s.mem := rfl
@[simp] theorem State.endJob_ma (s : State) (r : JobResult) : (s.endJob r).ma = s.ma := rfl
@[simp] theorem State.endJob_pi (s : State) (r : JobResult) : (s.endJob r).pi = s.pi := rfl
@[simp] theorem State.endJob_ltc (s : State) (r : JobResult) : (s.endJob r).ltc = s.ltc := rfl
@[simp] theorem State.endJob_me (s : State) (r : JobResult) : (s.endJob r).me = s.me := rfl
@[simp] theorem State.endJob_pw (s : State) (r : JobResult) : (s.endJob r).pw = s.pw := rfl
@[simp] theorem State.endJob_bu (s : State) (r : JobResult) : (s.endJob r).bu = s.bu := rfl
@[simp] theorem State.endJob_sc (s : State) (r : JobResult) : (s.endJob r).sc = s.sc := rfl
@[simp] theorem State.endJob_dr (s : State) (r : JobResult) : (s.endJob r).dr = s.dr := rfl
@[simp] theorem State.endJob_cx (s : State) (r : JobResult) : (s.endJob r).cx = s.cx := rfl
@[simp] theorem State.endJob_free (s : State) (r : JobResult) : (s.endJob r).free = s.free := rfl
@[simp] theorem State.endJob_pending (s : State) (r : JobResult) : (s.endJob r).pending = s.pending := rfl

@[simp] theorem State.directiveFault_geo (s : State) : s.directiveFault.geo = s.geo := rfl
@[simp] theorem State.directiveFault_prm (s : State) : s.directiveFault.prm = s.prm := rfl
@[simp] theorem State.directiveFault_mem (s : State) : s.directiveFault.mem = s.mem := rfl
@[simp] theorem State.directiveFault_ma (s : State) : s.directiveFault.ma = s.ma := rfl
@[simp] theorem State.directiveFault_pi (s : State) : s.directiveFault.pi = s.pi := rfl
@[simp] theorem State.directiveFault_ltc (s : State) : s.directiveFault.ltc = s.ltc := rfl
@[simp] theorem State.directiveFault_me (s : State) : s.directiveFault.me = s.me := rfl
@[simp] theorem State.directiveFault_pw (s : State) : s.directiveFault.pw = s.pw := rfl
@[simp] theorem State.directiveFault_bu (s : State) : s.directiveFault.bu = s.bu := rfl
@[simp] theorem State.directiveFault_sc (s : State) : s.directiveFault.sc = s.sc := rfl
@[simp] theorem State.directiveFault_cx (s : State) : s.directiveFault.cx = s.cx := rfl
@[simp] theorem State.directiveFault_eu (s : State) : s.directiveFault.eu = s.eu := rfl
@[simp] theorem State.directiveFault_port (s : State) : s.directiveFault.port = s.port := rfl
@[simp] theorem State.directiveFault_free (s : State) : s.directiveFault.free = s.free := rfl
@[simp] theorem State.directiveFault_pending (s : State) : s.directiveFault.pending = s.pending := rfl

@[simp] theorem State.leaveStore_geo (s : State) : s.leaveStore.geo = s.geo := rfl
@[simp] theorem State.leaveStore_prm (s : State) : s.leaveStore.prm = s.prm := rfl
@[simp] theorem State.leaveStore_mem (s : State) : s.leaveStore.mem = s.mem := rfl
@[simp] theorem State.leaveStore_ma (s : State) : s.leaveStore.ma = s.ma := rfl
@[simp] theorem State.leaveStore_ltc (s : State) : s.leaveStore.ltc = s.ltc := rfl
@[simp] theorem State.leaveStore_me (s : State) : s.leaveStore.me = s.me := rfl
@[simp] theorem State.leaveStore_pw (s : State) : s.leaveStore.pw = s.pw := rfl
@[simp] theorem State.leaveStore_bu (s : State) : s.leaveStore.bu = s.bu := rfl
@[simp] theorem State.leaveStore_sc (s : State) : s.leaveStore.sc = s.sc := rfl
@[simp] theorem State.leaveStore_dr (s : State) : s.leaveStore.dr = s.dr := rfl
@[simp] theorem State.leaveStore_cx (s : State) : s.leaveStore.cx = s.cx := rfl
@[simp] theorem State.leaveStore_eu (s : State) : s.leaveStore.eu = s.eu := rfl
@[simp] theorem State.leaveStore_li (s : State) : s.leaveStore.li = s.li := rfl
@[simp] theorem State.leaveStore_port (s : State) : s.leaveStore.port = s.port := rfl
@[simp] theorem State.leaveStore_free (s : State) : s.leaveStore.free = s.free := rfl
@[simp] theorem State.leaveStore_pending (s : State) : s.leaveStore.pending = s.pending := rfl

@[simp] theorem State.beginCopy_geo (s : State) (k : SlotId) : (s.beginCopy k).geo = s.geo := rfl
@[simp] theorem State.beginCopy_prm (s : State) (k : SlotId) : (s.beginCopy k).prm = s.prm := rfl
@[simp] theorem State.beginCopy_mem (s : State) (k : SlotId) : (s.beginCopy k).mem = s.mem := rfl
@[simp] theorem State.beginCopy_ma (s : State) (k : SlotId) : (s.beginCopy k).ma = s.ma := rfl
@[simp] theorem State.beginCopy_pi (s : State) (k : SlotId) : (s.beginCopy k).pi = s.pi := rfl
@[simp] theorem State.beginCopy_ltc (s : State) (k : SlotId) : (s.beginCopy k).ltc = s.ltc := rfl
@[simp] theorem State.beginCopy_me (s : State) (k : SlotId) : (s.beginCopy k).me = s.me := rfl
@[simp] theorem State.beginCopy_pw (s : State) (k : SlotId) : (s.beginCopy k).pw = s.pw := rfl
@[simp] theorem State.beginCopy_bu (s : State) (k : SlotId) : (s.beginCopy k).bu = s.bu := rfl
@[simp] theorem State.beginCopy_sc (s : State) (k : SlotId) : (s.beginCopy k).sc = s.sc := rfl
@[simp] theorem State.beginCopy_dr (s : State) (k : SlotId) : (s.beginCopy k).dr = s.dr := rfl
@[simp] theorem State.beginCopy_eu (s : State) (k : SlotId) : (s.beginCopy k).eu = s.eu := rfl
@[simp] theorem State.beginCopy_li (s : State) (k : SlotId) : (s.beginCopy k).li = s.li := rfl
@[simp] theorem State.beginCopy_port (s : State) (k : SlotId) : (s.beginCopy k).port = s.port := rfl
@[simp] theorem State.beginCopy_free (s : State) (k : SlotId) : (s.beginCopy k).free = s.free := rfl
@[simp] theorem State.beginCopy_pending (s : State) (k : SlotId) : (s.beginCopy k).pending = s.pending := rfl

@[simp] theorem State.beginWait_geo (s : State) (k : SlotId) : (s.beginWait k).geo = s.geo := rfl
@[simp] theorem State.beginWait_prm (s : State) (k : SlotId) : (s.beginWait k).prm = s.prm := rfl
@[simp] theorem State.beginWait_mem (s : State) (k : SlotId) : (s.beginWait k).mem = s.mem := rfl
@[simp] theorem State.beginWait_ma (s : State) (k : SlotId) : (s.beginWait k).ma = s.ma := rfl
@[simp] theorem State.beginWait_pi (s : State) (k : SlotId) : (s.beginWait k).pi = s.pi := rfl
@[simp] theorem State.beginWait_ltc (s : State) (k : SlotId) : (s.beginWait k).ltc = s.ltc := rfl
@[simp] theorem State.beginWait_me (s : State) (k : SlotId) : (s.beginWait k).me = s.me := rfl
@[simp] theorem State.beginWait_pw (s : State) (k : SlotId) : (s.beginWait k).pw = s.pw := rfl
@[simp] theorem State.beginWait_bu (s : State) (k : SlotId) : (s.beginWait k).bu = s.bu := rfl
@[simp] theorem State.beginWait_sc (s : State) (k : SlotId) : (s.beginWait k).sc = s.sc := rfl
@[simp] theorem State.beginWait_dr (s : State) (k : SlotId) : (s.beginWait k).dr = s.dr := rfl
@[simp] theorem State.beginWait_eu (s : State) (k : SlotId) : (s.beginWait k).eu = s.eu := rfl
@[simp] theorem State.beginWait_li (s : State) (k : SlotId) : (s.beginWait k).li = s.li := rfl
@[simp] theorem State.beginWait_port (s : State) (k : SlotId) : (s.beginWait k).port = s.port := rfl
@[simp] theorem State.beginWait_free (s : State) (k : SlotId) : (s.beginWait k).free = s.free := rfl
@[simp] theorem State.beginWait_pending (s : State) (k : SlotId) : (s.beginWait k).pending = s.pending := rfl

@[simp] theorem State.completeSave_geo (s : State) (k : SlotId) (v : Serial) : (s.completeSave k v).geo = s.geo := rfl
@[simp] theorem State.completeSave_prm (s : State) (k : SlotId) (v : Serial) : (s.completeSave k v).prm = s.prm := rfl
@[simp] theorem State.completeSave_mem (s : State) (k : SlotId) (v : Serial) : (s.completeSave k v).mem = s.mem := rfl
@[simp] theorem State.completeSave_ma (s : State) (k : SlotId) (v : Serial) : (s.completeSave k v).ma = s.ma := rfl
@[simp] theorem State.completeSave_pi (s : State) (k : SlotId) (v : Serial) : (s.completeSave k v).pi = s.pi := rfl
@[simp] theorem State.completeSave_ltc (s : State) (k : SlotId) (v : Serial) : (s.completeSave k v).ltc = s.ltc := rfl
@[simp] theorem State.completeSave_pw (s : State) (k : SlotId) (v : Serial) : (s.completeSave k v).pw = s.pw := rfl
@[simp] theorem State.completeSave_bu (s : State) (k : SlotId) (v : Serial) : (s.completeSave k v).bu = s.bu := rfl
@[simp] theorem State.completeSave_sc (s : State) (k : SlotId) (v : Serial) : (s.completeSave k v).sc = s.sc := rfl
@[simp] theorem State.completeSave_dr (s : State) (k : SlotId) (v : Serial) : (s.completeSave k v).dr = s.dr := rfl
@[simp] theorem State.completeSave_eu (s : State) (k : SlotId) (v : Serial) : (s.completeSave k v).eu = s.eu := rfl
@[simp] theorem State.completeSave_port (s : State) (k : SlotId) (v : Serial) :
    (s.completeSave k v).port = s.port := rfl
@[simp] theorem State.completeSave_free (s : State) (k : SlotId) (v : Serial) :
    (s.completeSave k v).free = s.free := rfl
@[simp] theorem State.completeSave_pending (s : State) (k : SlotId) (v : Serial) :
    (s.completeSave k v).pending = s.pending := rfl

@[simp] theorem State.beginVerify_geo (s : State) (k : SlotId) : (s.beginVerify k).geo = s.geo := rfl
@[simp] theorem State.beginVerify_prm (s : State) (k : SlotId) : (s.beginVerify k).prm = s.prm := rfl
@[simp] theorem State.beginVerify_mem (s : State) (k : SlotId) : (s.beginVerify k).mem = s.mem := rfl
@[simp] theorem State.beginVerify_ma (s : State) (k : SlotId) : (s.beginVerify k).ma = s.ma := rfl
@[simp] theorem State.beginVerify_pi (s : State) (k : SlotId) : (s.beginVerify k).pi = s.pi := rfl
@[simp] theorem State.beginVerify_ltc (s : State) (k : SlotId) : (s.beginVerify k).ltc = s.ltc := rfl
@[simp] theorem State.beginVerify_me (s : State) (k : SlotId) : (s.beginVerify k).me = s.me := rfl
@[simp] theorem State.beginVerify_pw (s : State) (k : SlotId) : (s.beginVerify k).pw = s.pw := rfl
@[simp] theorem State.beginVerify_bu (s : State) (k : SlotId) : (s.beginVerify k).bu = s.bu := rfl
@[simp] theorem State.beginVerify_sc (s : State) (k : SlotId) : (s.beginVerify k).sc = s.sc := rfl
@[simp] theorem State.beginVerify_dr (s : State) (k : SlotId) : (s.beginVerify k).dr = s.dr := rfl
@[simp] theorem State.beginVerify_eu (s : State) (k : SlotId) : (s.beginVerify k).eu = s.eu := rfl
@[simp] theorem State.beginVerify_li (s : State) (k : SlotId) : (s.beginVerify k).li = s.li := rfl
@[simp] theorem State.beginVerify_port (s : State) (k : SlotId) : (s.beginVerify k).port = s.port := rfl
@[simp] theorem State.beginVerify_free (s : State) (k : SlotId) : (s.beginVerify k).free = s.free := rfl
@[simp] theorem State.beginVerify_pending (s : State) (k : SlotId) : (s.beginVerify k).pending = s.pending := rfl

@[simp] theorem State.contextBurst_geo (s : State) : s.contextBurst.geo = s.geo := rfl
@[simp] theorem State.contextBurst_prm (s : State) : s.contextBurst.prm = s.prm := rfl
@[simp] theorem State.contextBurst_mem (s : State) : s.contextBurst.mem = s.mem := rfl
@[simp] theorem State.contextBurst_ma (s : State) : s.contextBurst.ma = s.ma := rfl
@[simp] theorem State.contextBurst_pi (s : State) : s.contextBurst.pi = s.pi := rfl
@[simp] theorem State.contextBurst_ltc (s : State) : s.contextBurst.ltc = s.ltc := rfl
@[simp] theorem State.contextBurst_me (s : State) : s.contextBurst.me = s.me := rfl
@[simp] theorem State.contextBurst_pw (s : State) : s.contextBurst.pw = s.pw := rfl
@[simp] theorem State.contextBurst_bu (s : State) : s.contextBurst.bu = s.bu := rfl
@[simp] theorem State.contextBurst_sc (s : State) : s.contextBurst.sc = s.sc := rfl
@[simp] theorem State.contextBurst_dr (s : State) : s.contextBurst.dr = s.dr := rfl
@[simp] theorem State.contextBurst_eu (s : State) : s.contextBurst.eu = s.eu := rfl
@[simp] theorem State.contextBurst_li (s : State) : s.contextBurst.li = s.li := rfl
@[simp] theorem State.contextBurst_port (s : State) : s.contextBurst.port = s.port := rfl
@[simp] theorem State.contextBurst_free (s : State) : s.contextBurst.free = s.free := rfl
@[simp] theorem State.contextBurst_pending (s : State) : s.contextBurst.pending = s.pending := rfl

@[simp] theorem State.fetchBurst_geo (s : State) : s.fetchBurst.geo = s.geo := rfl
@[simp] theorem State.fetchBurst_prm (s : State) : s.fetchBurst.prm = s.prm := rfl
@[simp] theorem State.fetchBurst_mem (s : State) : s.fetchBurst.mem = s.mem := rfl
@[simp] theorem State.fetchBurst_ma (s : State) : s.fetchBurst.ma = s.ma := rfl
@[simp] theorem State.fetchBurst_pi (s : State) : s.fetchBurst.pi = s.pi := rfl
@[simp] theorem State.fetchBurst_ltc (s : State) : s.fetchBurst.ltc = s.ltc := rfl
@[simp] theorem State.fetchBurst_me (s : State) : s.fetchBurst.me = s.me := rfl
@[simp] theorem State.fetchBurst_pw (s : State) : s.fetchBurst.pw = s.pw := rfl
@[simp] theorem State.fetchBurst_bu (s : State) : s.fetchBurst.bu = s.bu := rfl
@[simp] theorem State.fetchBurst_sc (s : State) : s.fetchBurst.sc = s.sc := rfl
@[simp] theorem State.fetchBurst_dr (s : State) : s.fetchBurst.dr = s.dr := rfl
@[simp] theorem State.fetchBurst_cx (s : State) : s.fetchBurst.cx = s.cx := rfl
@[simp] theorem State.fetchBurst_li (s : State) : s.fetchBurst.li = s.li := rfl
@[simp] theorem State.fetchBurst_port (s : State) : s.fetchBurst.port = s.port := rfl
@[simp] theorem State.fetchBurst_free (s : State) : s.fetchBurst.free = s.free := rfl
@[simp] theorem State.fetchBurst_pending (s : State) : s.fetchBurst.pending = s.pending := rfl

@[simp] theorem State.burstJoin_geo (s : State) (j : Join) : (s.burstJoin j).geo = s.geo := rfl
@[simp] theorem State.burstJoin_prm (s : State) (j : Join) : (s.burstJoin j).prm = s.prm := rfl
@[simp] theorem State.burstJoin_ma (s : State) (j : Join) : (s.burstJoin j).ma = s.ma := rfl
@[simp] theorem State.burstJoin_pi (s : State) (j : Join) : (s.burstJoin j).pi = s.pi := rfl
@[simp] theorem State.burstJoin_ltc (s : State) (j : Join) : (s.burstJoin j).ltc = s.ltc := rfl
@[simp] theorem State.burstJoin_me (s : State) (j : Join) : (s.burstJoin j).me = s.me := rfl
@[simp] theorem State.burstJoin_pw (s : State) (j : Join) : (s.burstJoin j).pw = s.pw := rfl
@[simp] theorem State.burstJoin_sc (s : State) (j : Join) : (s.burstJoin j).sc = s.sc := rfl
@[simp] theorem State.burstJoin_dr (s : State) (j : Join) : (s.burstJoin j).dr = s.dr := rfl
@[simp] theorem State.burstJoin_cx (s : State) (j : Join) : (s.burstJoin j).cx = s.cx := rfl
@[simp] theorem State.burstJoin_eu (s : State) (j : Join) : (s.burstJoin j).eu = s.eu := rfl
@[simp] theorem State.burstJoin_li (s : State) (j : Join) : (s.burstJoin j).li = s.li := rfl
@[simp] theorem State.burstJoin_port (s : State) (j : Join) : (s.burstJoin j).port = s.port := rfl
@[simp] theorem State.burstJoin_free (s : State) (j : Join) : (s.burstJoin j).free = s.free := rfl
@[simp] theorem State.burstJoin_pending (s : State) (j : Join) : (s.burstJoin j).pending = s.pending := rfl

@[simp] theorem State.burstBlock_geo (s : State) (b : BlendPass) (a : Nat) (rest : List Nat) (t : Transfer) :
    (s.burstBlock b a rest t).geo = s.geo := rfl
@[simp] theorem State.burstBlock_prm (s : State) (b : BlendPass) (a : Nat) (rest : List Nat) (t : Transfer) :
    (s.burstBlock b a rest t).prm = s.prm := rfl
@[simp] theorem State.burstBlock_ma (s : State) (b : BlendPass) (a : Nat) (rest : List Nat) (t : Transfer) :
    (s.burstBlock b a rest t).ma = s.ma := rfl
@[simp] theorem State.burstBlock_pi (s : State) (b : BlendPass) (a : Nat) (rest : List Nat) (t : Transfer) :
    (s.burstBlock b a rest t).pi = s.pi := rfl
@[simp] theorem State.burstBlock_ltc (s : State) (b : BlendPass) (a : Nat) (rest : List Nat) (t : Transfer) :
    (s.burstBlock b a rest t).ltc = s.ltc := rfl
@[simp] theorem State.burstBlock_me (s : State) (b : BlendPass) (a : Nat) (rest : List Nat) (t : Transfer) :
    (s.burstBlock b a rest t).me = s.me := rfl
@[simp] theorem State.burstBlock_pw (s : State) (b : BlendPass) (a : Nat) (rest : List Nat) (t : Transfer) :
    (s.burstBlock b a rest t).pw = s.pw := rfl
@[simp] theorem State.burstBlock_sc (s : State) (b : BlendPass) (a : Nat) (rest : List Nat) (t : Transfer) :
    (s.burstBlock b a rest t).sc = s.sc := rfl
@[simp] theorem State.burstBlock_dr (s : State) (b : BlendPass) (a : Nat) (rest : List Nat) (t : Transfer) :
    (s.burstBlock b a rest t).dr = s.dr := rfl
@[simp] theorem State.burstBlock_cx (s : State) (b : BlendPass) (a : Nat) (rest : List Nat) (t : Transfer) :
    (s.burstBlock b a rest t).cx = s.cx := rfl
@[simp] theorem State.burstBlock_eu (s : State) (b : BlendPass) (a : Nat) (rest : List Nat) (t : Transfer) :
    (s.burstBlock b a rest t).eu = s.eu := rfl
@[simp] theorem State.burstBlock_li (s : State) (b : BlendPass) (a : Nat) (rest : List Nat) (t : Transfer) :
    (s.burstBlock b a rest t).li = s.li := rfl
@[simp] theorem State.burstBlock_port (s : State) (b : BlendPass) (a : Nat) (rest : List Nat) (t : Transfer) :
    (s.burstBlock b a rest t).port = s.port := rfl
@[simp] theorem State.burstBlock_free (s : State) (b : BlendPass) (a : Nat) (rest : List Nat) (t : Transfer) :
    (s.burstBlock b a rest t).free = s.free := rfl
@[simp] theorem State.burstBlock_pending (s : State) (b : BlendPass) (a : Nat) (rest : List Nat) (t : Transfer) :
    (s.burstBlock b a rest t).pending = s.pending := rfl

@[simp] theorem State.endBlock_geo (s : State) (b : BlendPass) (a : Nat) (rest : List Nat) :
    (s.endBlock b a rest).geo = s.geo := rfl
@[simp] theorem State.endBlock_prm (s : State) (b : BlendPass) (a : Nat) (rest : List Nat) :
    (s.endBlock b a rest).prm = s.prm := rfl
@[simp] theorem State.endBlock_mem (s : State) (b : BlendPass) (a : Nat) (rest : List Nat) :
    (s.endBlock b a rest).mem = s.mem := rfl
@[simp] theorem State.endBlock_ma (s : State) (b : BlendPass) (a : Nat) (rest : List Nat) :
    (s.endBlock b a rest).ma = s.ma := rfl
@[simp] theorem State.endBlock_pi (s : State) (b : BlendPass) (a : Nat) (rest : List Nat) :
    (s.endBlock b a rest).pi = s.pi := rfl
@[simp] theorem State.endBlock_ltc (s : State) (b : BlendPass) (a : Nat) (rest : List Nat) :
    (s.endBlock b a rest).ltc = s.ltc := rfl
@[simp] theorem State.endBlock_me (s : State) (b : BlendPass) (a : Nat) (rest : List Nat) :
    (s.endBlock b a rest).me = s.me := rfl
@[simp] theorem State.endBlock_sc (s : State) (b : BlendPass) (a : Nat) (rest : List Nat) :
    (s.endBlock b a rest).sc = s.sc := rfl
@[simp] theorem State.endBlock_dr (s : State) (b : BlendPass) (a : Nat) (rest : List Nat) :
    (s.endBlock b a rest).dr = s.dr := rfl
@[simp] theorem State.endBlock_cx (s : State) (b : BlendPass) (a : Nat) (rest : List Nat) :
    (s.endBlock b a rest).cx = s.cx := rfl
@[simp] theorem State.endBlock_eu (s : State) (b : BlendPass) (a : Nat) (rest : List Nat) :
    (s.endBlock b a rest).eu = s.eu := rfl
@[simp] theorem State.endBlock_li (s : State) (b : BlendPass) (a : Nat) (rest : List Nat) :
    (s.endBlock b a rest).li = s.li := rfl
@[simp] theorem State.endBlock_port (s : State) (b : BlendPass) (a : Nat) (rest : List Nat) :
    (s.endBlock b a rest).port = s.port := rfl
@[simp] theorem State.endBlock_free (s : State) (b : BlendPass) (a : Nat) (rest : List Nat) :
    (s.endBlock b a rest).free = s.free := rfl
@[simp] theorem State.endBlock_pending (s : State) (b : BlendPass) (a : Nat) (rest : List Nat) :
    (s.endBlock b a rest).pending = s.pending := rfl

end Sys2Proof.Machine
end

