-- ==== Sys2Proof/Laws/Ops.lean ====
section
/-! SUPPORT. What the shared operations leave as it was: one lemma per operation, its conjuncts simp rules. -/

namespace Sys2Proof.Machine

/-- A fold of steps that keep a view of the state keeps it. -/
theorem foldl_keeps {α β : Type} (g : State → α) (f : State → β → State) (h : ∀ s b, g (f s b) = g s) (l : List β)
    (s : State) : g (l.foldl f s) = g s := by
  induction l generalizing s with
  | nil => rfl
  | cons b l ih => rw [List.foldl_cons, ih, h]

/-- A judge's report keeps a view of the state that the report, the pass record and the default keep. -/
theorem judgeReport_keeps {α : Type} (g : State → α) (s : State) (p : Pass) (c : Condition) (f : State → State)
    (hr : ∀ s c, g (State.report s c).1 = g s) (hp : ∀ s q, g (State.setPass s q) = g s) (hf : ∀ s, g (f s) = g s) :
    g (s.judgeReport p c f) = g s := by
  unfold State.judgeReport
  split
  · rw [hp, hr]
  · rw [hf, hr]

@[simp] theorem State.recordOutcome_keeps (s : State) (lf : LastFrame) :
    (s.recordOutcome lf).geo = s.geo ∧ (s.recordOutcome lf).prm = s.prm ∧ (s.recordOutcome lf).mem = s.mem ∧
    (s.recordOutcome lf).ma = s.ma ∧ (s.recordOutcome lf).pi = s.pi ∧ (s.recordOutcome lf).ltc = s.ltc ∧
    (s.recordOutcome lf).me = s.me ∧ (s.recordOutcome lf).pw = s.pw ∧ (s.recordOutcome lf).bu = s.bu ∧
    (s.recordOutcome lf).dr = s.dr ∧ (s.recordOutcome lf).cx = s.cx ∧ (s.recordOutcome lf).eu = s.eu ∧
    (s.recordOutcome lf).port = s.port ∧ (s.recordOutcome lf).free = s.free ∧ (s.recordOutcome lf).pending = s.pending := by
  unfold State.recordOutcome
  try dsimp only
  (repeat' split) <;> simp

@[simp] theorem State.settle_keeps (s : State) (b : BankId) (lf : LastFrame) :
    (s.settle b lf).geo = s.geo ∧ (s.settle b lf).prm = s.prm ∧ (s.settle b lf).mem = s.mem ∧
    (s.settle b lf).ma = s.ma ∧ (s.settle b lf).ltc = s.ltc ∧ (s.settle b lf).me = s.me ∧ (s.settle b lf).pw = s.pw ∧
    (s.settle b lf).bu = s.bu ∧ (s.settle b lf).dr = s.dr ∧ (s.settle b lf).cx = s.cx ∧ (s.settle b lf).eu = s.eu ∧
    (s.settle b lf).port = s.port ∧ (s.settle b lf).free = s.free ∧ (s.settle b lf).pending = s.pending := by
  unfold State.settle
  try dsimp only
  (repeat' split) <;> simp

@[simp] theorem State.clearHint_keeps (s : State) (v : Serial) :
    (s.clearHint v).geo = s.geo ∧ (s.clearHint v).prm = s.prm ∧ (s.clearHint v).mem = s.mem ∧
    (s.clearHint v).ma = s.ma ∧ (s.clearHint v).pi = s.pi ∧ (s.clearHint v).ltc = s.ltc ∧ (s.clearHint v).pw = s.pw ∧
    (s.clearHint v).bu = s.bu ∧ (s.clearHint v).sc = s.sc ∧ (s.clearHint v).dr = s.dr ∧ (s.clearHint v).cx = s.cx ∧
    (s.clearHint v).eu = s.eu ∧ (s.clearHint v).li = s.li ∧ (s.clearHint v).port = s.port ∧
    (s.clearHint v).free = s.free ∧ (s.clearHint v).pending = s.pending := by
  unfold State.clearHint
  try dsimp only
  (repeat' split) <;> simp

@[simp] theorem State.settleIntake_keeps (s : State) (b : BankId) (o : FrameOutcome) :
    (s.settleIntake b o).geo = s.geo ∧ (s.settleIntake b o).prm = s.prm ∧ (s.settleIntake b o).mem = s.mem ∧
    (s.settleIntake b o).ma = s.ma ∧ (s.settleIntake b o).ltc = s.ltc ∧ (s.settleIntake b o).pw = s.pw ∧
    (s.settleIntake b o).bu = s.bu ∧ (s.settleIntake b o).dr = s.dr ∧ (s.settleIntake b o).cx = s.cx ∧
    (s.settleIntake b o).eu = s.eu ∧ (s.settleIntake b o).port = s.port ∧ (s.settleIntake b o).free = s.free ∧
    (s.settleIntake b o).pending = s.pending := by
  unfold State.settleIntake
  try dsimp only
  simp

@[simp] theorem State.markStoring_keeps (s : State) (m : DropMark) :
    (s.markStoring m).geo = s.geo ∧ (s.markStoring m).prm = s.prm ∧ (s.markStoring m).mem = s.mem ∧
    (s.markStoring m).ma = s.ma ∧ (s.markStoring m).ltc = s.ltc ∧ (s.markStoring m).me = s.me ∧
    (s.markStoring m).pw = s.pw ∧ (s.markStoring m).bu = s.bu ∧ (s.markStoring m).sc = s.sc ∧
    (s.markStoring m).dr = s.dr ∧ (s.markStoring m).cx = s.cx ∧ (s.markStoring m).eu = s.eu ∧
    (s.markStoring m).li = s.li ∧ (s.markStoring m).port = s.port ∧ (s.markStoring m).free = s.free ∧
    (s.markStoring m).pending = s.pending := by
  unfold State.markStoring
  try dsimp only
  (repeat' split) <;> simp

/-- Settling several banks. -/
@[simp] theorem State.foldl_settleIntake_keeps (s : State) (l : List BankId) (o : FrameOutcome) :
    (l.foldl (fun s b => s.settleIntake b o) s).geo = s.geo ∧
    (l.foldl (fun s b => s.settleIntake b o) s).prm = s.prm ∧
    (l.foldl (fun s b => s.settleIntake b o) s).mem = s.mem ∧ (l.foldl (fun s b => s.settleIntake b o) s).ma = s.ma ∧
    (l.foldl (fun s b => s.settleIntake b o) s).ltc = s.ltc ∧ (l.foldl (fun s b => s.settleIntake b o) s).pw = s.pw ∧
    (l.foldl (fun s b => s.settleIntake b o) s).bu = s.bu ∧ (l.foldl (fun s b => s.settleIntake b o) s).dr = s.dr ∧
    (l.foldl (fun s b => s.settleIntake b o) s).cx = s.cx ∧ (l.foldl (fun s b => s.settleIntake b o) s).eu = s.eu ∧
    (l.foldl (fun s b => s.settleIntake b o) s).port = s.port ∧
    (l.foldl (fun s b => s.settleIntake b o) s).free = s.free ∧
    (l.foldl (fun s b => s.settleIntake b o) s).pending = s.pending := by
  refine ⟨?_, ?_, ?_, ?_, ?_, ?_, ?_, ?_, ?_, ?_, ?_, ?_, ?_⟩ <;> exact foldl_keeps _ _ (fun s b => by simp) _ _

@[simp] theorem State.releaseQueue_keeps (s : State) :
    s.releaseQueue.geo = s.geo ∧ s.releaseQueue.prm = s.prm ∧ s.releaseQueue.mem = s.mem ∧ s.releaseQueue.ma = s.ma ∧
    s.releaseQueue.ltc = s.ltc ∧ s.releaseQueue.pw = s.pw ∧ s.releaseQueue.bu = s.bu ∧ s.releaseQueue.dr = s.dr ∧
    s.releaseQueue.cx = s.cx ∧ s.releaseQueue.eu = s.eu ∧ s.releaseQueue.port = s.port ∧
    s.releaseQueue.free = s.free ∧ s.releaseQueue.pending = s.pending := by
  unfold State.releaseQueue
  simp

@[simp] theorem State.abandonBanks_keeps (s : State) :
    s.abandonBanks.geo = s.geo ∧ s.abandonBanks.prm = s.prm ∧ s.abandonBanks.mem = s.mem ∧ s.abandonBanks.ma = s.ma ∧
    s.abandonBanks.ltc = s.ltc ∧ s.abandonBanks.pw = s.pw ∧ s.abandonBanks.bu = s.bu ∧ s.abandonBanks.dr = s.dr ∧
    s.abandonBanks.cx = s.cx ∧ s.abandonBanks.eu = s.eu ∧ s.abandonBanks.port = s.port ∧
    s.abandonBanks.free = s.free ∧ s.abandonBanks.pending = s.pending := by
  unfold State.abandonBanks
  (repeat' split) <;> simp

@[simp] theorem State.hold_keeps (s : State) (c : Condition) :
    (s.hold c).geo = s.geo ∧ (s.hold c).prm = s.prm ∧ (s.hold c).mem = s.mem ∧ (s.hold c).ma = s.ma ∧
    (s.hold c).ltc = s.ltc ∧ (s.hold c).me = s.me ∧ (s.hold c).pw = s.pw ∧ (s.hold c).bu = s.bu ∧
    (s.hold c).dr = s.dr ∧ (s.hold c).cx = s.cx ∧ (s.hold c).eu = s.eu ∧ (s.hold c).port = s.port ∧
    (s.hold c).free = s.free ∧ (s.hold c).pending = s.pending := by
  unfold State.hold
  try dsimp only
  simp

@[simp] theorem State.report_keeps (s : State) (c : Condition) :
    (s.report c).1.geo = s.geo ∧ (s.report c).1.prm = s.prm ∧ (s.report c).1.mem = s.mem ∧ (s.report c).1.ma = s.ma ∧
    (s.report c).1.ltc = s.ltc ∧ (s.report c).1.me = s.me ∧ (s.report c).1.pw = s.pw ∧ (s.report c).1.bu = s.bu ∧
    (s.report c).1.dr = s.dr ∧ (s.report c).1.cx = s.cx ∧ (s.report c).1.eu = s.eu ∧ (s.report c).1.port = s.port ∧
    (s.report c).1.free = s.free ∧ (s.report c).1.pending = s.pending := by
  unfold State.report
  try dsimp only
  (repeat' split) <;> simp

@[simp] theorem State.enterClosing_keeps (s : State) :
    s.enterClosing.geo = s.geo ∧ s.enterClosing.prm = s.prm ∧ s.enterClosing.mem = s.mem ∧ s.enterClosing.ma = s.ma ∧
    s.enterClosing.ltc = s.ltc ∧ s.enterClosing.pw = s.pw ∧ s.enterClosing.bu = s.bu ∧ s.enterClosing.dr = s.dr ∧
    s.enterClosing.cx = s.cx ∧ s.enterClosing.eu = s.eu ∧ s.enterClosing.port = s.port ∧
    s.enterClosing.free = s.free ∧ s.enterClosing.pending = s.pending := by
  unfold State.enterClosing
  try dsimp only
  simp

@[simp] theorem State.settlePass_keeps (s : State) (p : Pass) (lf : LastFrame) :
    (s.settlePass p lf).geo = s.geo ∧ (s.settlePass p lf).prm = s.prm ∧ (s.settlePass p lf).mem = s.mem ∧
    (s.settlePass p lf).ma = s.ma ∧ (s.settlePass p lf).ltc = s.ltc ∧ (s.settlePass p lf).me = s.me ∧
    (s.settlePass p lf).pw = s.pw ∧ (s.settlePass p lf).bu = s.bu ∧ (s.settlePass p lf).dr = s.dr ∧
    (s.settlePass p lf).cx = s.cx ∧ (s.settlePass p lf).eu = s.eu ∧ (s.settlePass p lf).port = s.port ∧
    (s.settlePass p lf).free = s.free ∧ (s.settlePass p lf).pending = s.pending := by
  unfold State.settlePass
  try dsimp only
  (repeat' split) <;> simp

@[simp] theorem State.endPassWith_keeps (s : State) (p : Pass) (o : FrameOutcome) :
    (s.endPassWith p o).geo = s.geo ∧ (s.endPassWith p o).prm = s.prm ∧ (s.endPassWith p o).mem = s.mem ∧
    (s.endPassWith p o).ma = s.ma ∧ (s.endPassWith p o).ltc = s.ltc ∧ (s.endPassWith p o).pw = s.pw ∧
    (s.endPassWith p o).bu = s.bu ∧ (s.endPassWith p o).dr = s.dr ∧ (s.endPassWith p o).cx = s.cx ∧
    (s.endPassWith p o).eu = s.eu ∧ (s.endPassWith p o).port = s.port ∧ (s.endPassWith p o).free = s.free ∧
    (s.endPassWith p o).pending = s.pending := by
  unfold State.endPassWith
  try dsimp only
  simp

@[simp] theorem State.stopPass_keeps (s : State) :
    s.stopPass.geo = s.geo ∧ s.stopPass.prm = s.prm ∧ s.stopPass.mem = s.mem ∧ s.stopPass.ma = s.ma ∧
    s.stopPass.ltc = s.ltc ∧ s.stopPass.pw = s.pw ∧ s.stopPass.bu = s.bu ∧ s.stopPass.dr = s.dr ∧
    s.stopPass.cx = s.cx ∧ s.stopPass.eu = s.eu ∧ s.stopPass.port = s.port ∧ s.stopPass.free = s.free ∧
    s.stopPass.pending = s.pending := by
  unfold State.stopPass
  try dsimp only
  (repeat' split) <;> simp

@[simp] theorem State.meetStop_keeps (s : State) :
    s.meetStop.geo = s.geo ∧ s.meetStop.prm = s.prm ∧ s.meetStop.mem = s.mem ∧ s.meetStop.ma = s.ma ∧
    s.meetStop.ltc = s.ltc ∧ s.meetStop.pw = s.pw ∧ s.meetStop.bu = s.bu ∧ s.meetStop.dr = s.dr ∧
    s.meetStop.cx = s.cx ∧ s.meetStop.eu = s.eu ∧ s.meetStop.port = s.port ∧ s.meetStop.free = s.free ∧
    s.meetStop.pending = s.pending := by
  unfold State.meetStop
  split <;> simp

@[simp] theorem State.giveUpHeld_keeps (s : State) :
    s.giveUpHeld.geo = s.geo ∧ s.giveUpHeld.prm = s.prm ∧ s.giveUpHeld.mem = s.mem ∧ s.giveUpHeld.ma = s.ma ∧
    s.giveUpHeld.ltc = s.ltc ∧ s.giveUpHeld.pw = s.pw ∧ s.giveUpHeld.bu = s.bu ∧ s.giveUpHeld.dr = s.dr ∧
    s.giveUpHeld.cx = s.cx ∧ s.giveUpHeld.eu = s.eu ∧ s.giveUpHeld.port = s.port ∧ s.giveUpHeld.free = s.free ∧
    s.giveUpHeld.pending = s.pending := by
  unfold State.giveUpHeld
  try dsimp only
  (repeat' split) <;> simp

@[simp] theorem State.finishArmed_keeps (s : State) :
    s.finishArmed.geo = s.geo ∧ s.finishArmed.prm = s.prm ∧ s.finishArmed.mem = s.mem ∧ s.finishArmed.ma = s.ma ∧
    s.finishArmed.ltc = s.ltc ∧ s.finishArmed.pw = s.pw ∧ s.finishArmed.bu = s.bu ∧ s.finishArmed.dr = s.dr ∧
    s.finishArmed.cx = s.cx ∧ s.finishArmed.eu = s.eu ∧ s.finishArmed.port = s.port ∧ s.finishArmed.free = s.free ∧
    s.finishArmed.pending = s.pending := by
  unfold State.finishArmed
  try dsimp only
  (repeat' split) <;> simp

@[simp] theorem State.finishSweep_keeps (s : State) :
    s.finishSweep.geo = s.geo ∧ s.finishSweep.prm = s.prm ∧ s.finishSweep.mem = s.mem ∧ s.finishSweep.ma = s.ma ∧
    s.finishSweep.ltc = s.ltc ∧ s.finishSweep.pw = s.pw ∧ s.finishSweep.bu = s.bu ∧ s.finishSweep.dr = s.dr ∧
    s.finishSweep.cx = s.cx ∧ s.finishSweep.eu = s.eu ∧ s.finishSweep.port = s.port ∧ s.finishSweep.free = s.free ∧
    s.finishSweep.pending = s.pending := by
  unfold State.finishSweep
  try dsimp only
  (repeat' split) <;> simp

@[simp] theorem State.takeWaitingFinish_keeps (s : State) :
    s.takeWaitingFinish.geo = s.geo ∧ s.takeWaitingFinish.prm = s.prm ∧ s.takeWaitingFinish.mem = s.mem ∧
    s.takeWaitingFinish.ma = s.ma ∧ s.takeWaitingFinish.ltc = s.ltc ∧ s.takeWaitingFinish.pw = s.pw ∧
    s.takeWaitingFinish.bu = s.bu ∧ s.takeWaitingFinish.dr = s.dr ∧ s.takeWaitingFinish.cx = s.cx ∧
    s.takeWaitingFinish.eu = s.eu ∧ s.takeWaitingFinish.port = s.port ∧ s.takeWaitingFinish.free = s.free ∧
    s.takeWaitingFinish.pending = s.pending := by
  unfold State.takeWaitingFinish
  try dsimp only
  (repeat' split) <;> simp

@[simp] theorem State.dropWaitingFinish_keeps (s : State) :
    s.dropWaitingFinish.geo = s.geo ∧ s.dropWaitingFinish.prm = s.prm ∧ s.dropWaitingFinish.mem = s.mem ∧
    s.dropWaitingFinish.ma = s.ma ∧ s.dropWaitingFinish.pi = s.pi ∧ s.dropWaitingFinish.ltc = s.ltc ∧
    s.dropWaitingFinish.me = s.me ∧ s.dropWaitingFinish.pw = s.pw ∧ s.dropWaitingFinish.bu = s.bu ∧
    s.dropWaitingFinish.dr = s.dr ∧ s.dropWaitingFinish.cx = s.cx ∧ s.dropWaitingFinish.eu = s.eu ∧
    s.dropWaitingFinish.li = s.li ∧ s.dropWaitingFinish.port = s.port ∧ s.dropWaitingFinish.free = s.free ∧
    s.dropWaitingFinish.pending = s.pending := by
  unfold State.dropWaitingFinish
  try dsimp only
  (repeat' split) <;> simp

@[simp] theorem State.stopJob_keeps (s : State) :
    s.stopJob.geo = s.geo ∧ s.stopJob.prm = s.prm ∧ s.stopJob.mem = s.mem ∧ s.stopJob.ma = s.ma ∧
    s.stopJob.pi = s.pi ∧ s.stopJob.ltc = s.ltc ∧ s.stopJob.me = s.me ∧ s.stopJob.pw = s.pw ∧ s.stopJob.bu = s.bu ∧
    s.stopJob.sc = s.sc ∧ s.stopJob.dr = s.dr ∧ s.stopJob.cx = s.cx ∧ s.stopJob.free = s.free ∧
    s.stopJob.pending = s.pending := by
  unfold State.stopJob
  try dsimp only
  (repeat' split) <;> simp

@[simp] theorem State.stopContext_keeps (s : State) :
    s.stopContext.geo = s.geo ∧ s.stopContext.prm = s.prm ∧ s.stopContext.mem = s.mem ∧ s.stopContext.ma = s.ma ∧
    s.stopContext.pi = s.pi ∧ s.stopContext.ltc = s.ltc ∧ s.stopContext.me = s.me ∧ s.stopContext.pw = s.pw ∧
    s.stopContext.bu = s.bu ∧ s.stopContext.dr = s.dr ∧ s.stopContext.eu = s.eu ∧ s.stopContext.port = s.port ∧
    s.stopContext.free = s.free ∧ s.stopContext.pending = s.pending := by
  unfold State.stopContext
  try dsimp only
  (repeat' split) <;> simp

@[simp] theorem State.hintFor_keeps (s : State) (v : Serial) (x y : Int) :
    (s.hintFor v x y).geo = s.geo ∧ (s.hintFor v x y).prm = s.prm ∧ (s.hintFor v x y).mem = s.mem ∧
    (s.hintFor v x y).ma = s.ma ∧ (s.hintFor v x y).pi = s.pi ∧ (s.hintFor v x y).ltc = s.ltc ∧
    (s.hintFor v x y).pw = s.pw ∧ (s.hintFor v x y).bu = s.bu ∧ (s.hintFor v x y).sc = s.sc ∧
    (s.hintFor v x y).dr = s.dr ∧ (s.hintFor v x y).cx = s.cx ∧ (s.hintFor v x y).eu = s.eu ∧
    (s.hintFor v x y).li = s.li ∧ (s.hintFor v x y).port = s.port ∧ (s.hintFor v x y).free = s.free ∧
    (s.hintFor v x y).pending = s.pending := by
  unfold State.hintFor
  try dsimp only
  (repeat' split) <;> simp

@[simp] theorem State.loadMark_keeps (s : State) (u : Bool) (a : MarkAction) (n : Nat) :
    (s.loadMark u a n).geo = s.geo ∧ (s.loadMark u a n).prm = s.prm ∧ (s.loadMark u a n).mem = s.mem ∧
    (s.loadMark u a n).ma = s.ma ∧ (s.loadMark u a n).pi = s.pi ∧ (s.loadMark u a n).ltc = s.ltc ∧
    (s.loadMark u a n).me = s.me ∧ (s.loadMark u a n).pw = s.pw ∧ (s.loadMark u a n).bu = s.bu ∧
    (s.loadMark u a n).dr = s.dr ∧ (s.loadMark u a n).cx = s.cx ∧ (s.loadMark u a n).eu = s.eu ∧
    (s.loadMark u a n).li = s.li ∧ (s.loadMark u a n).port = s.port ∧ (s.loadMark u a n).free = s.free ∧
    (s.loadMark u a n).pending = s.pending := by
  unfold State.loadMark
  try dsimp only
  (repeat' split) <;> simp

@[simp] theorem State.applyDirective_keeps (s : State) (v : Serial) (d : Directive) :
    (s.applyDirective v d).geo = s.geo ∧ (s.applyDirective v d).mem = s.mem ∧ (s.applyDirective v d).ma = s.ma ∧
    (s.applyDirective v d).pi = s.pi ∧ (s.applyDirective v d).pw = s.pw ∧ (s.applyDirective v d).bu = s.bu ∧
    (s.applyDirective v d).cx = s.cx ∧ (s.applyDirective v d).eu = s.eu ∧ (s.applyDirective v d).port = s.port ∧
    (s.applyDirective v d).free = s.free ∧ (s.applyDirective v d).pending = s.pending := by
  unfold State.applyDirective
  try dsimp only
  (repeat' split) <;> simp

@[simp] theorem State.applyWord_keeps (s : State) (v : Serial) (w : ReadWord) :
    (s.applyWord v w).geo = s.geo ∧ (s.applyWord v w).mem = s.mem ∧ (s.applyWord v w).ma = s.ma ∧
    (s.applyWord v w).pi = s.pi ∧ (s.applyWord v w).pw = s.pw ∧ (s.applyWord v w).bu = s.bu ∧
    (s.applyWord v w).cx = s.cx ∧ (s.applyWord v w).eu = s.eu ∧ (s.applyWord v w).port = s.port ∧
    (s.applyWord v w).free = s.free ∧ (s.applyWord v w).pending = s.pending := by
  unfold State.applyWord
  try dsimp only
  (repeat' split) <;> simp

@[simp] theorem State.closeGap_keeps (s : State) :
    s.closeGap.geo = s.geo ∧ s.closeGap.mem = s.mem ∧ s.closeGap.ma = s.ma ∧ s.closeGap.pi = s.pi ∧
    s.closeGap.pw = s.pw ∧ s.closeGap.bu = s.bu ∧ s.closeGap.cx = s.cx ∧ s.closeGap.eu = s.eu ∧
    s.closeGap.port = s.port ∧ s.closeGap.free = s.free ∧ s.closeGap.pending = s.pending := by
  unfold State.closeGap
  try dsimp only
  (repeat' split) <;> simp

@[simp] theorem State.openGap_keeps (s : State) (v : Serial) :
    (s.openGap v).geo = s.geo ∧ (s.openGap v).mem = s.mem ∧ (s.openGap v).ma = s.ma ∧ (s.openGap v).pi = s.pi ∧
    (s.openGap v).pw = s.pw ∧ (s.openGap v).bu = s.bu ∧ (s.openGap v).cx = s.cx ∧ (s.openGap v).eu = s.eu ∧
    (s.openGap v).port = s.port ∧ (s.openGap v).free = s.free ∧ (s.openGap v).pending = s.pending := by
  unfold State.openGap
  try dsimp only
  (repeat' split) <;> simp

@[simp] theorem State.dropAtStart_keeps (s : State) (o : FrameOutcome) :
    (s.dropAtStart o).geo = s.geo ∧ (s.dropAtStart o).prm = s.prm ∧ (s.dropAtStart o).mem = s.mem ∧
    (s.dropAtStart o).ma = s.ma ∧ (s.dropAtStart o).pi = s.pi ∧ (s.dropAtStart o).ltc = s.ltc ∧
    (s.dropAtStart o).pw = s.pw ∧ (s.dropAtStart o).bu = s.bu ∧ (s.dropAtStart o).dr = s.dr ∧
    (s.dropAtStart o).cx = s.cx ∧ (s.dropAtStart o).eu = s.eu ∧ (s.dropAtStart o).port = s.port ∧
    (s.dropAtStart o).free = s.free ∧ (s.dropAtStart o).pending = s.pending := by
  unfold State.dropAtStart
  try dsimp only
  simp

@[simp] theorem State.takeBank_keeps (s : State) :
    s.takeBank.geo = s.geo ∧ s.takeBank.prm = s.prm ∧ s.takeBank.mem = s.mem ∧ s.takeBank.ma = s.ma ∧
    s.takeBank.ltc = s.ltc ∧ s.takeBank.pw = s.pw ∧ s.takeBank.bu = s.bu ∧ s.takeBank.dr = s.dr ∧
    s.takeBank.cx = s.cx ∧ s.takeBank.eu = s.eu ∧ s.takeBank.port = s.port ∧ s.takeBank.free = s.free ∧
    s.takeBank.pending = s.pending := by
  unfold State.takeBank
  try dsimp only
  (repeat' split) <;> simp

@[simp] theorem State.frameStart_keeps (s : State) :
    s.frameStart.geo = s.geo ∧ s.frameStart.mem = s.mem ∧ s.frameStart.ma = s.ma ∧ s.frameStart.pw = s.pw ∧
    s.frameStart.bu = s.bu ∧ s.frameStart.cx = s.cx ∧ s.frameStart.eu = s.eu ∧ s.frameStart.port = s.port ∧
    s.frameStart.free = s.free ∧ s.frameStart.pending = s.pending := by
  unfold State.frameStart
  try dsimp only
  (repeat' split) <;> simp

@[simp] theorem State.closeUnended_keeps (s : State) :
    s.closeUnended.geo = s.geo ∧ s.closeUnended.prm = s.prm ∧ s.closeUnended.mem = s.mem ∧ s.closeUnended.ma = s.ma ∧
    s.closeUnended.ltc = s.ltc ∧ s.closeUnended.pw = s.pw ∧ s.closeUnended.bu = s.bu ∧ s.closeUnended.dr = s.dr ∧
    s.closeUnended.cx = s.cx ∧ s.closeUnended.eu = s.eu ∧ s.closeUnended.port = s.port ∧
    s.closeUnended.free = s.free ∧ s.closeUnended.pending = s.pending := by
  unfold State.closeUnended
  try dsimp only
  (repeat' split) <;> simp

@[simp] theorem State.closeFrame_keeps (s : State) (b : BankId) :
    (s.closeFrame b).geo = s.geo ∧ (s.closeFrame b).prm = s.prm ∧ (s.closeFrame b).mem = s.mem ∧
    (s.closeFrame b).ma = s.ma ∧ (s.closeFrame b).ltc = s.ltc ∧ (s.closeFrame b).pw = s.pw ∧
    (s.closeFrame b).bu = s.bu ∧ (s.closeFrame b).dr = s.dr ∧ (s.closeFrame b).cx = s.cx ∧
    (s.closeFrame b).eu = s.eu ∧ (s.closeFrame b).port = s.port ∧ (s.closeFrame b).free = s.free ∧
    (s.closeFrame b).pending = s.pending := by
  unfold State.closeFrame
  try dsimp only
  (repeat' split) <;> simp

@[simp] theorem State.beginOrigin_keeps (s : State) (b : BankId) :
    (s.beginOrigin b).geo = s.geo ∧ (s.beginOrigin b).prm = s.prm ∧ (s.beginOrigin b).mem = s.mem ∧
    (s.beginOrigin b).ma = s.ma ∧ (s.beginOrigin b).pi = s.pi ∧ (s.beginOrigin b).ltc = s.ltc ∧
    (s.beginOrigin b).pw = s.pw ∧ (s.beginOrigin b).bu = s.bu ∧ (s.beginOrigin b).sc = s.sc ∧
    (s.beginOrigin b).dr = s.dr ∧ (s.beginOrigin b).cx = s.cx ∧ (s.beginOrigin b).eu = s.eu ∧
    (s.beginOrigin b).li = s.li ∧ (s.beginOrigin b).port = s.port ∧ (s.beginOrigin b).free = s.free ∧
    (s.beginOrigin b).pending = s.pending := by
  unfold State.beginOrigin
  try dsimp only
  simp

@[simp] theorem State.beginMatch_keeps (s : State) (b : BankId) :
    (s.beginMatch b).geo = s.geo ∧ (s.beginMatch b).prm = s.prm ∧ (s.beginMatch b).mem = s.mem ∧
    (s.beginMatch b).ma = s.ma ∧ (s.beginMatch b).pi = s.pi ∧ (s.beginMatch b).ltc = s.ltc ∧
    (s.beginMatch b).pw = s.pw ∧ (s.beginMatch b).bu = s.bu ∧ (s.beginMatch b).sc = s.sc ∧
    (s.beginMatch b).dr = s.dr ∧ (s.beginMatch b).cx = s.cx ∧ (s.beginMatch b).eu = s.eu ∧
    (s.beginMatch b).li = s.li ∧ (s.beginMatch b).port = s.port ∧ (s.beginMatch b).free = s.free ∧
    (s.beginMatch b).pending = s.pending := by
  unfold State.beginMatch
  try dsimp only
  simp

@[simp] theorem State.canvasEnd_keeps (s : State) (p : Pass) :
    (s.canvasEnd p).geo = s.geo ∧ (s.canvasEnd p).prm = s.prm ∧ (s.canvasEnd p).mem = s.mem ∧
    (s.canvasEnd p).ma = s.ma ∧ (s.canvasEnd p).ltc = s.ltc ∧ (s.canvasEnd p).pw = s.pw ∧ (s.canvasEnd p).bu = s.bu ∧
    (s.canvasEnd p).dr = s.dr ∧ (s.canvasEnd p).cx = s.cx ∧ (s.canvasEnd p).eu = s.eu ∧
    (s.canvasEnd p).port = s.port ∧ (s.canvasEnd p).free = s.free ∧ (s.canvasEnd p).pending = s.pending := by
  unfold State.canvasEnd
  try dsimp only
  (repeat' split) <;> simp

@[simp] theorem State.check5_keeps (s : State) (p : Pass) :
    (s.check5 p).geo = s.geo ∧ (s.check5 p).prm = s.prm ∧ (s.check5 p).mem = s.mem ∧ (s.check5 p).ma = s.ma ∧
    (s.check5 p).ltc = s.ltc ∧ (s.check5 p).pw = s.pw ∧ (s.check5 p).bu = s.bu ∧ (s.check5 p).dr = s.dr ∧
    (s.check5 p).cx = s.cx ∧ (s.check5 p).eu = s.eu ∧ (s.check5 p).port = s.port ∧ (s.check5 p).free = s.free ∧
    (s.check5 p).pending = s.pending := by
  unfold State.check5
  try dsimp only
  refine ⟨?_, ?_, ?_, ?_, ?_, ?_, ?_, ?_, ?_, ?_, ?_, ?_, ?_⟩ <;> (repeat' split) <;>
    first
    | simp
    | (refine (judgeReport_keeps _ _ _ _ _ (fun s c => by simp) (fun s q => by simp) (fun s => by simp)).trans ?_; simp)

@[simp] theorem State.speedDefault_keeps (s : State) (p : Pass) :
    (s.speedDefault p).geo = s.geo ∧ (s.speedDefault p).prm = s.prm ∧ (s.speedDefault p).mem = s.mem ∧
    (s.speedDefault p).ma = s.ma ∧ (s.speedDefault p).ltc = s.ltc ∧ (s.speedDefault p).pw = s.pw ∧
    (s.speedDefault p).bu = s.bu ∧ (s.speedDefault p).dr = s.dr ∧ (s.speedDefault p).cx = s.cx ∧
    (s.speedDefault p).eu = s.eu ∧ (s.speedDefault p).port = s.port ∧ (s.speedDefault p).free = s.free ∧
    (s.speedDefault p).pending = s.pending := by
  unfold State.speedDefault
  try dsimp only
  simp

@[simp] theorem State.check4_keeps (s : State) (p : Pass) :
    (s.check4 p).geo = s.geo ∧ (s.check4 p).prm = s.prm ∧ (s.check4 p).mem = s.mem ∧ (s.check4 p).ma = s.ma ∧
    (s.check4 p).ltc = s.ltc ∧ (s.check4 p).pw = s.pw ∧ (s.check4 p).bu = s.bu ∧ (s.check4 p).dr = s.dr ∧
    (s.check4 p).cx = s.cx ∧ (s.check4 p).eu = s.eu ∧ (s.check4 p).port = s.port ∧ (s.check4 p).free = s.free ∧
    (s.check4 p).pending = s.pending := by
  unfold State.check4
  try dsimp only
  refine ⟨?_, ?_, ?_, ?_, ?_, ?_, ?_, ?_, ?_, ?_, ?_, ?_, ?_⟩ <;> (repeat' split) <;>
    first
    | simp
    | (refine (judgeReport_keeps _ _ _ _ _ (fun s c => by simp) (fun s q => by simp) (fun s => by simp)).trans ?_; simp)

@[simp] theorem State.verticalDefault_keeps (s : State) (p : Pass) :
    (s.verticalDefault p).geo = s.geo ∧ (s.verticalDefault p).prm = s.prm ∧ (s.verticalDefault p).mem = s.mem ∧
    (s.verticalDefault p).ma = s.ma ∧ (s.verticalDefault p).ltc = s.ltc ∧ (s.verticalDefault p).pw = s.pw ∧
    (s.verticalDefault p).bu = s.bu ∧ (s.verticalDefault p).dr = s.dr ∧ (s.verticalDefault p).cx = s.cx ∧
    (s.verticalDefault p).eu = s.eu ∧ (s.verticalDefault p).port = s.port ∧ (s.verticalDefault p).free = s.free ∧
    (s.verticalDefault p).pending = s.pending := by
  unfold State.verticalDefault
  try dsimp only
  simp

@[simp] theorem State.check3_keeps (s : State) (p : Pass) :
    (s.check3 p).geo = s.geo ∧ (s.check3 p).prm = s.prm ∧ (s.check3 p).mem = s.mem ∧ (s.check3 p).ma = s.ma ∧
    (s.check3 p).ltc = s.ltc ∧ (s.check3 p).pw = s.pw ∧ (s.check3 p).bu = s.bu ∧ (s.check3 p).dr = s.dr ∧
    (s.check3 p).cx = s.cx ∧ (s.check3 p).eu = s.eu ∧ (s.check3 p).port = s.port ∧ (s.check3 p).free = s.free ∧
    (s.check3 p).pending = s.pending := by
  unfold State.check3
  try dsimp only
  refine ⟨?_, ?_, ?_, ?_, ?_, ?_, ?_, ?_, ?_, ?_, ?_, ?_, ?_⟩ <;> (repeat' split) <;>
    first
    | simp
    | (refine (judgeReport_keeps _ _ _ _ _ (fun s c => by simp) (fun s q => by simp) (fun s => by simp)).trans ?_; simp)

@[simp] theorem State.dwell_keeps (s : State) (p : Pass) :
    (s.dwell p).geo = s.geo ∧ (s.dwell p).prm = s.prm ∧ (s.dwell p).mem = s.mem ∧ (s.dwell p).ma = s.ma ∧
    (s.dwell p).ltc = s.ltc ∧ (s.dwell p).pw = s.pw ∧ (s.dwell p).bu = s.bu ∧ (s.dwell p).dr = s.dr ∧
    (s.dwell p).cx = s.cx ∧ (s.dwell p).eu = s.eu ∧ (s.dwell p).port = s.port ∧ (s.dwell p).free = s.free ∧
    (s.dwell p).pending = s.pending := by
  unfold State.dwell
  try dsimp only
  (repeat' split) <;> simp

@[simp] theorem State.check2_keeps (s : State) (p : Pass) :
    (s.check2 p).geo = s.geo ∧ (s.check2 p).prm = s.prm ∧ (s.check2 p).mem = s.mem ∧ (s.check2 p).ma = s.ma ∧
    (s.check2 p).ltc = s.ltc ∧ (s.check2 p).pw = s.pw ∧ (s.check2 p).bu = s.bu ∧ (s.check2 p).dr = s.dr ∧
    (s.check2 p).cx = s.cx ∧ (s.check2 p).eu = s.eu ∧ (s.check2 p).port = s.port ∧ (s.check2 p).free = s.free ∧
    (s.check2 p).pending = s.pending := by
  unfold State.check2
  try dsimp only
  refine ⟨?_, ?_, ?_, ?_, ?_, ?_, ?_, ?_, ?_, ?_, ?_, ?_, ?_⟩ <;> (repeat' split) <;>
    first
    | simp
    | (refine (judgeReport_keeps _ _ _ _ _ (fun s c => by simp) (fun s q => by simp) (fun s => by simp)).trans ?_; simp)

@[simp] theorem State.unplaced_keeps (s : State) (p : Pass) :
    (s.unplaced p).geo = s.geo ∧ (s.unplaced p).prm = s.prm ∧ (s.unplaced p).mem = s.mem ∧ (s.unplaced p).ma = s.ma ∧
    (s.unplaced p).ltc = s.ltc ∧ (s.unplaced p).pw = s.pw ∧ (s.unplaced p).bu = s.bu ∧ (s.unplaced p).dr = s.dr ∧
    (s.unplaced p).cx = s.cx ∧ (s.unplaced p).eu = s.eu ∧ (s.unplaced p).port = s.port ∧
    (s.unplaced p).free = s.free ∧ (s.unplaced p).pending = s.pending := by
  unfold State.unplaced
  try dsimp only
  simp

@[simp] theorem State.lostDefault_keeps (s : State) (p : Pass) :
    (s.lostDefault p).geo = s.geo ∧ (s.lostDefault p).prm = s.prm ∧ (s.lostDefault p).mem = s.mem ∧
    (s.lostDefault p).ma = s.ma ∧ (s.lostDefault p).ltc = s.ltc ∧ (s.lostDefault p).pw = s.pw ∧
    (s.lostDefault p).bu = s.bu ∧ (s.lostDefault p).dr = s.dr ∧ (s.lostDefault p).cx = s.cx ∧
    (s.lostDefault p).eu = s.eu ∧ (s.lostDefault p).port = s.port ∧ (s.lostDefault p).free = s.free ∧
    (s.lostDefault p).pending = s.pending := by
  unfold State.lostDefault
  try dsimp only
  simp

@[simp] theorem State.lowMatchDefault_keeps (s : State) (p : Pass) :
    (s.lowMatchDefault p).geo = s.geo ∧ (s.lowMatchDefault p).prm = s.prm ∧ (s.lowMatchDefault p).mem = s.mem ∧
    (s.lowMatchDefault p).ma = s.ma ∧ (s.lowMatchDefault p).ltc = s.ltc ∧ (s.lowMatchDefault p).pw = s.pw ∧
    (s.lowMatchDefault p).bu = s.bu ∧ (s.lowMatchDefault p).dr = s.dr ∧ (s.lowMatchDefault p).cx = s.cx ∧
    (s.lowMatchDefault p).eu = s.eu ∧ (s.lowMatchDefault p).port = s.port ∧ (s.lowMatchDefault p).free = s.free ∧
    (s.lowMatchDefault p).pending = s.pending := by
  unfold State.lowMatchDefault
  try dsimp only
  refine ⟨?_, ?_, ?_, ?_, ?_, ?_, ?_, ?_, ?_, ?_, ?_, ?_, ?_⟩ <;> (repeat' split) <;>
    first
    | simp
    | (refine (judgeReport_keeps _ _ _ _ _ (fun s c => by simp) (fun s q => by simp) (fun s => by simp)).trans ?_; simp)

@[simp] theorem State.check1_keeps (s : State) (p : Pass) :
    (s.check1 p).geo = s.geo ∧ (s.check1 p).prm = s.prm ∧ (s.check1 p).mem = s.mem ∧ (s.check1 p).ma = s.ma ∧
    (s.check1 p).ltc = s.ltc ∧ (s.check1 p).pw = s.pw ∧ (s.check1 p).bu = s.bu ∧ (s.check1 p).dr = s.dr ∧
    (s.check1 p).cx = s.cx ∧ (s.check1 p).eu = s.eu ∧ (s.check1 p).port = s.port ∧ (s.check1 p).free = s.free ∧
    (s.check1 p).pending = s.pending := by
  unfold State.check1
  try dsimp only
  refine ⟨?_, ?_, ?_, ?_, ?_, ?_, ?_, ?_, ?_, ?_, ?_, ?_, ?_⟩ <;> (repeat' split) <;>
    first
    | simp
    | (refine (judgeReport_keeps _ _ _ _ _ (fun s c => by simp) (fun s q => by simp) (fun s => by simp)).trans ?_; simp)

@[simp] theorem State.disarmMark_keeps (s : State) (u : Bool) :
    (s.disarmMark u).geo = s.geo ∧ (s.disarmMark u).prm = s.prm ∧ (s.disarmMark u).mem = s.mem ∧
    (s.disarmMark u).ma = s.ma ∧ (s.disarmMark u).pi = s.pi ∧ (s.disarmMark u).ltc = s.ltc ∧
    (s.disarmMark u).me = s.me ∧ (s.disarmMark u).pw = s.pw ∧ (s.disarmMark u).bu = s.bu ∧
    (s.disarmMark u).dr = s.dr ∧ (s.disarmMark u).cx = s.cx ∧ (s.disarmMark u).eu = s.eu ∧
    (s.disarmMark u).li = s.li ∧ (s.disarmMark u).port = s.port ∧ (s.disarmMark u).free = s.free ∧
    (s.disarmMark u).pending = s.pending := by
  unfold State.disarmMark
  try dsimp only
  (repeat' split) <;> simp

@[simp] theorem State.markFinish_keeps (s : State) :
    s.markFinish.geo = s.geo ∧ s.markFinish.prm = s.prm ∧ s.markFinish.mem = s.mem ∧ s.markFinish.ma = s.ma ∧
    s.markFinish.ltc = s.ltc ∧ s.markFinish.pw = s.pw ∧ s.markFinish.bu = s.bu ∧ s.markFinish.dr = s.dr ∧
    s.markFinish.cx = s.cx ∧ s.markFinish.eu = s.eu ∧ s.markFinish.port = s.port ∧ s.markFinish.free = s.free ∧
    s.markFinish.pending = s.pending := by
  unfold State.markFinish
  try dsimp only
  (repeat' split) <;> simp

@[simp] theorem State.markAction_keeps (s : State) (a : MarkAction) :
    (s.markAction a).geo = s.geo ∧ (s.markAction a).prm = s.prm ∧ (s.markAction a).mem = s.mem ∧
    (s.markAction a).ma = s.ma ∧ (s.markAction a).ltc = s.ltc ∧ (s.markAction a).pw = s.pw ∧
    (s.markAction a).bu = s.bu ∧ (s.markAction a).dr = s.dr ∧ (s.markAction a).cx = s.cx ∧
    (s.markAction a).eu = s.eu ∧ (s.markAction a).port = s.port ∧ (s.markAction a).free = s.free ∧
    (s.markAction a).pending = s.pending := by
  unfold State.markAction
  try dsimp only
  (repeat' split) <;> simp

@[simp] theorem State.evalMark_keeps (s : State) (u : Bool) :
    (s.evalMark u).geo = s.geo ∧ (s.evalMark u).prm = s.prm ∧ (s.evalMark u).mem = s.mem ∧ (s.evalMark u).ma = s.ma ∧
    (s.evalMark u).ltc = s.ltc ∧ (s.evalMark u).pw = s.pw ∧ (s.evalMark u).bu = s.bu ∧ (s.evalMark u).dr = s.dr ∧
    (s.evalMark u).cx = s.cx ∧ (s.evalMark u).eu = s.eu ∧ (s.evalMark u).port = s.port ∧
    (s.evalMark u).free = s.free ∧ (s.evalMark u).pending = s.pending := by
  unfold State.evalMark
  try dsimp only
  (repeat' split) <;> simp

@[simp] theorem State.detectClosure_keeps (s : State) (v : Serial) (t : ClosureTest) :
    (s.detectClosure v t).geo = s.geo ∧ (s.detectClosure v t).prm = s.prm ∧ (s.detectClosure v t).mem = s.mem ∧
    (s.detectClosure v t).ma = s.ma ∧ (s.detectClosure v t).ltc = s.ltc ∧ (s.detectClosure v t).pw = s.pw ∧
    (s.detectClosure v t).bu = s.bu ∧ (s.detectClosure v t).dr = s.dr ∧ (s.detectClosure v t).cx = s.cx ∧
    (s.detectClosure v t).eu = s.eu ∧ (s.detectClosure v t).port = s.port ∧ (s.detectClosure v t).free = s.free ∧
    (s.detectClosure v t).pending = s.pending := by
  unfold State.detectClosure
  try dsimp only
  (repeat' split) <;> simp

@[simp] theorem State.closureResult_keeps (s : State) (p : Pass) :
    (s.closureResult p).geo = s.geo ∧ (s.closureResult p).prm = s.prm ∧ (s.closureResult p).mem = s.mem ∧
    (s.closureResult p).ma = s.ma ∧ (s.closureResult p).ltc = s.ltc ∧ (s.closureResult p).pw = s.pw ∧
    (s.closureResult p).bu = s.bu ∧ (s.closureResult p).dr = s.dr ∧ (s.closureResult p).cx = s.cx ∧
    (s.closureResult p).eu = s.eu ∧ (s.closureResult p).port = s.port ∧ (s.closureResult p).free = s.free ∧
    (s.closureResult p).pending = s.pending := by
  unfold State.closureResult
  try dsimp only
  (repeat' split) <;> simp

@[simp] theorem State.pushReport_keeps (s : State) (p : Pass) :
    (s.pushReport p).geo = s.geo ∧ (s.pushReport p).prm = s.prm ∧ (s.pushReport p).mem = s.mem ∧
    (s.pushReport p).ma = s.ma ∧ (s.pushReport p).ltc = s.ltc ∧ (s.pushReport p).pw = s.pw ∧
    (s.pushReport p).bu = s.bu ∧ (s.pushReport p).dr = s.dr ∧ (s.pushReport p).cx = s.cx ∧
    (s.pushReport p).eu = s.eu ∧ (s.pushReport p).port = s.port ∧ (s.pushReport p).free = s.free ∧
    (s.pushReport p).pending = s.pending := by
  unfold State.pushReport
  try dsimp only
  simp

@[simp] theorem State.originSweeping_keeps (s : State) (p : Pass) :
    (s.originSweeping p).geo = s.geo ∧ (s.originSweeping p).prm = s.prm ∧ (s.originSweeping p).mem = s.mem ∧
    (s.originSweeping p).ma = s.ma ∧ (s.originSweeping p).pi = s.pi ∧ (s.originSweeping p).ltc = s.ltc ∧
    (s.originSweeping p).me = s.me ∧ (s.originSweeping p).pw = s.pw ∧ (s.originSweeping p).bu = s.bu ∧
    (s.originSweeping p).dr = s.dr ∧ (s.originSweeping p).cx = s.cx ∧ (s.originSweeping p).eu = s.eu ∧
    (s.originSweeping p).li = s.li ∧ (s.originSweeping p).port = s.port ∧ (s.originSweeping p).free = s.free ∧
    (s.originSweeping p).pending = s.pending := by
  unfold State.originSweeping
  try dsimp only
  (repeat' split) <;> simp

@[simp] theorem State.enterPush_keeps (s : State) (p : Pass) (b : BankId) :
    (s.enterPush p b).geo = s.geo ∧ (s.enterPush p b).prm = s.prm ∧ (s.enterPush p b).mem = s.mem ∧
    (s.enterPush p b).ma = s.ma ∧ (s.enterPush p b).ltc = s.ltc ∧ (s.enterPush p b).bu = s.bu ∧
    (s.enterPush p b).dr = s.dr ∧ (s.enterPush p b).cx = s.cx ∧ (s.enterPush p b).eu = s.eu ∧
    (s.enterPush p b).port = s.port ∧ (s.enterPush p b).free = s.free ∧ (s.enterPush p b).pending = s.pending := by
  unfold State.enterPush
  try dsimp only
  (repeat' split) <;> simp

@[simp] theorem State.forceVictim_keeps (s : State) (v : Serial) :
    (s.forceVictim v).geo = s.geo ∧ (s.forceVictim v).prm = s.prm ∧ (s.forceVictim v).mem = s.mem ∧
    (s.forceVictim v).ma = s.ma ∧ (s.forceVictim v).pi = s.pi ∧ (s.forceVictim v).ltc = s.ltc ∧
    (s.forceVictim v).me = s.me ∧ (s.forceVictim v).sc = s.sc ∧ (s.forceVictim v).dr = s.dr ∧
    (s.forceVictim v).cx = s.cx ∧ (s.forceVictim v).eu = s.eu ∧ (s.forceVictim v).li = s.li ∧
    (s.forceVictim v).port = s.port ∧ (s.forceVictim v).free = s.free ∧ (s.forceVictim v).pending = s.pending := by
  unfold State.forceVictim
  try dsimp only
  (repeat' split) <;> simp

@[simp] theorem State.takePush_keeps (s : State) (p : Pass) (b : BankId) (a : Bool) :
    (s.takePush p b a).geo = s.geo ∧ (s.takePush p b a).prm = s.prm ∧ (s.takePush p b a).mem = s.mem ∧
    (s.takePush p b a).ma = s.ma ∧ (s.takePush p b a).ltc = s.ltc ∧ (s.takePush p b a).dr = s.dr ∧
    (s.takePush p b a).cx = s.cx ∧ (s.takePush p b a).eu = s.eu ∧ (s.takePush p b a).port = s.port ∧
    (s.takePush p b a).free = s.free ∧ (s.takePush p b a).pending = s.pending := by
  unfold State.takePush
  try dsimp only
  (repeat' split) <;> simp

@[simp] theorem State.pushMatching_keeps (s : State) (p : Pass) (a : Bool) :
    (s.pushMatching p a).geo = s.geo ∧ (s.pushMatching p a).prm = s.prm ∧ (s.pushMatching p a).mem = s.mem ∧
    (s.pushMatching p a).ma = s.ma ∧ (s.pushMatching p a).ltc = s.ltc ∧ (s.pushMatching p a).dr = s.dr ∧
    (s.pushMatching p a).cx = s.cx ∧ (s.pushMatching p a).eu = s.eu ∧ (s.pushMatching p a).port = s.port ∧
    (s.pushMatching p a).free = s.free ∧ (s.pushMatching p a).pending = s.pending := by
  unfold State.pushMatching
  try dsimp only
  (repeat' split) <;> simp

@[simp] theorem State.takeClaim_keeps (s : State) (p : Pass) (c : UpdateClaim) (f : Landmark → Table) :
    (s.takeClaim p c f).geo = s.geo ∧ (s.takeClaim p c f).prm = s.prm ∧ (s.takeClaim p c f).mem = s.mem ∧
    (s.takeClaim p c f).ma = s.ma ∧ (s.takeClaim p c f).pi = s.pi ∧ (s.takeClaim p c f).pw = s.pw ∧
    (s.takeClaim p c f).bu = s.bu ∧ (s.takeClaim p c f).sc = s.sc ∧ (s.takeClaim p c f).dr = s.dr ∧
    (s.takeClaim p c f).cx = s.cx ∧ (s.takeClaim p c f).eu = s.eu ∧ (s.takeClaim p c f).li = s.li ∧
    (s.takeClaim p c f).port = s.port ∧ (s.takeClaim p c f).free = s.free ∧ (s.takeClaim p c f).pending = s.pending := by
  unfold State.takeClaim
  try dsimp only
  (repeat' split) <;> simp

@[simp] theorem State.admissionAnswered_keeps (s : State) (p : Pass) (t : Table × Bool) :
    (s.admissionAnswered p t).geo = s.geo ∧ (s.admissionAnswered p t).prm = s.prm ∧
    (s.admissionAnswered p t).mem = s.mem ∧ (s.admissionAnswered p t).ma = s.ma ∧
    (s.admissionAnswered p t).pi = s.pi ∧ (s.admissionAnswered p t).pw = s.pw ∧ (s.admissionAnswered p t).bu = s.bu ∧
    (s.admissionAnswered p t).sc = s.sc ∧ (s.admissionAnswered p t).dr = s.dr ∧ (s.admissionAnswered p t).cx = s.cx ∧
    (s.admissionAnswered p t).eu = s.eu ∧ (s.admissionAnswered p t).li = s.li ∧
    (s.admissionAnswered p t).port = s.port ∧ (s.admissionAnswered p t).free = s.free ∧
    (s.admissionAnswered p t).pending = s.pending := by
  unfold State.admissionAnswered
  try dsimp only
  simp

@[simp] theorem State.takeAdmission_keeps (s : State) (p : Pass) (a : Admission) (b : Bool) :
    (s.takeAdmission p a b).geo = s.geo ∧ (s.takeAdmission p a b).prm = s.prm ∧ (s.takeAdmission p a b).mem = s.mem ∧
    (s.takeAdmission p a b).ma = s.ma ∧ (s.takeAdmission p a b).pw = s.pw ∧ (s.takeAdmission p a b).bu = s.bu ∧
    (s.takeAdmission p a b).dr = s.dr ∧ (s.takeAdmission p a b).cx = s.cx ∧ (s.takeAdmission p a b).eu = s.eu ∧
    (s.takeAdmission p a b).port = s.port ∧ (s.takeAdmission p a b).free = s.free ∧
    (s.takeAdmission p a b).pending = s.pending := by
  unfold State.takeAdmission
  try dsimp only
  (repeat' split) <;> simp

@[simp] theorem State.takeBlend_keeps (s : State) (r : Placement) (b : BankId) :
    (s.takeBlend r b).geo = s.geo ∧ (s.takeBlend r b).prm = s.prm ∧ (s.takeBlend r b).mem = s.mem ∧
    (s.takeBlend r b).ma = s.ma ∧ (s.takeBlend r b).ltc = s.ltc ∧ (s.takeBlend r b).me = s.me ∧
    (s.takeBlend r b).sc = s.sc ∧ (s.takeBlend r b).dr = s.dr ∧ (s.takeBlend r b).cx = s.cx ∧
    (s.takeBlend r b).eu = s.eu ∧ (s.takeBlend r b).li = s.li ∧ (s.takeBlend r b).port = s.port ∧
    (s.takeBlend r b).free = s.free ∧ (s.takeBlend r b).pending = s.pending := by
  unfold State.takeBlend
  try dsimp only
  simp

@[simp] theorem State.fixSeam_keeps (s : State) (b : BlendPass) (m : SeamPart) :
    (s.fixSeam b m).geo = s.geo ∧ (s.fixSeam b m).prm = s.prm ∧ (s.fixSeam b m).mem = s.mem ∧
    (s.fixSeam b m).ma = s.ma ∧ (s.fixSeam b m).pi = s.pi ∧ (s.fixSeam b m).ltc = s.ltc ∧ (s.fixSeam b m).me = s.me ∧
    (s.fixSeam b m).sc = s.sc ∧ (s.fixSeam b m).dr = s.dr ∧ (s.fixSeam b m).cx = s.cx ∧ (s.fixSeam b m).eu = s.eu ∧
    (s.fixSeam b m).li = s.li ∧ (s.fixSeam b m).port = s.port ∧ (s.fixSeam b m).free = s.free ∧
    (s.fixSeam b m).pending = s.pending := by
  unfold State.fixSeam
  try dsimp only
  simp

@[simp] theorem State.endBlend_keeps (s : State) (b : BlendPass) :
    (s.endBlend b).geo = s.geo ∧ (s.endBlend b).prm = s.prm ∧ (s.endBlend b).mem = s.mem ∧ (s.endBlend b).ma = s.ma ∧
    (s.endBlend b).pi = s.pi ∧ (s.endBlend b).ltc = s.ltc ∧ (s.endBlend b).me = s.me ∧ (s.endBlend b).sc = s.sc ∧
    (s.endBlend b).dr = s.dr ∧ (s.endBlend b).cx = s.cx ∧ (s.endBlend b).eu = s.eu ∧ (s.endBlend b).li = s.li ∧
    (s.endBlend b).port = s.port ∧ (s.endBlend b).free = s.free ∧ (s.endBlend b).pending = s.pending := by
  unfold State.endBlend
  try dsimp only
  simp

@[simp] theorem State.finishBlend_keeps (s : State) (b : BlendPass) :
    (s.finishBlend b).geo = s.geo ∧ (s.finishBlend b).prm = s.prm ∧ (s.finishBlend b).mem = s.mem ∧
    (s.finishBlend b).ma = s.ma ∧ (s.finishBlend b).ltc = s.ltc ∧ (s.finishBlend b).me = s.me ∧
    (s.finishBlend b).sc = s.sc ∧ (s.finishBlend b).dr = s.dr ∧ (s.finishBlend b).cx = s.cx ∧
    (s.finishBlend b).eu = s.eu ∧ (s.finishBlend b).li = s.li ∧ (s.finishBlend b).port = s.port ∧
    (s.finishBlend b).free = s.free ∧ (s.finishBlend b).pending = s.pending := by
  unfold State.finishBlend
  try dsimp only
  (repeat' split) <;> simp

@[simp] theorem State.joinAdvance_keeps (s : State) (j : Join) :
    (s.joinAdvance j).geo = s.geo ∧ (s.joinAdvance j).prm = s.prm ∧ (s.joinAdvance j).mem = s.mem ∧
    (s.joinAdvance j).ma = s.ma ∧ (s.joinAdvance j).pi = s.pi ∧ (s.joinAdvance j).ltc = s.ltc ∧
    (s.joinAdvance j).me = s.me ∧ (s.joinAdvance j).pw = s.pw ∧ (s.joinAdvance j).dr = s.dr ∧
    (s.joinAdvance j).cx = s.cx ∧ (s.joinAdvance j).eu = s.eu ∧ (s.joinAdvance j).li = s.li ∧
    (s.joinAdvance j).port = s.port ∧ (s.joinAdvance j).free = s.free ∧ (s.joinAdvance j).pending = s.pending := by
  unfold State.joinAdvance
  try dsimp only
  (repeat' split) <;> simp

@[simp] theorem State.finishClosing_keeps (s : State) :
    s.finishClosing.geo = s.geo ∧ s.finishClosing.prm = s.prm ∧ s.finishClosing.mem = s.mem ∧
    s.finishClosing.ma = s.ma ∧ s.finishClosing.pi = s.pi ∧ s.finishClosing.ltc = s.ltc ∧ s.finishClosing.me = s.me ∧
    s.finishClosing.dr = s.dr ∧ s.finishClosing.cx = s.cx ∧ s.finishClosing.eu = s.eu ∧
    s.finishClosing.port = s.port ∧ s.finishClosing.free = s.free ∧ s.finishClosing.pending = s.pending := by
  unfold State.finishClosing
  try dsimp only
  simp

@[simp] theorem State.toIdle_keeps (s : State) :
    s.toIdle.geo = s.geo ∧ s.toIdle.prm = s.prm ∧ s.toIdle.mem = s.mem ∧ s.toIdle.ma = s.ma ∧ s.toIdle.pi = s.pi ∧
    s.toIdle.dr = s.dr ∧ s.toIdle.cx = s.cx ∧ s.toIdle.eu = s.eu ∧ s.toIdle.li = s.li ∧ s.toIdle.port = s.port ∧
    s.toIdle.free = s.free ∧ s.toIdle.pending = s.pending := by
  unfold State.toIdle
  try dsimp only
  simp

@[simp] theorem State.verifyFails_keeps (s : State) (k : SlotId) (r : RollbackResult) :
    (s.verifyFails k r).geo = s.geo ∧ (s.verifyFails k r).prm = s.prm ∧ (s.verifyFails k r).mem = s.mem ∧
    (s.verifyFails k r).ma = s.ma ∧ (s.verifyFails k r).ltc = s.ltc ∧ (s.verifyFails k r).pw = s.pw ∧
    (s.verifyFails k r).bu = s.bu ∧ (s.verifyFails k r).dr = s.dr ∧ (s.verifyFails k r).eu = s.eu ∧
    (s.verifyFails k r).port = s.port ∧ (s.verifyFails k r).free = s.free ∧ (s.verifyFails k r).pending = s.pending := by
  unfold State.verifyFails
  try dsimp only
  simp

@[simp] theorem State.replaceWith_keeps (s : State) (k : SlotId) (m : Image) :
    (s.replaceWith k m).geo = s.geo ∧ (s.replaceWith k m).prm = s.prm ∧ (s.replaceWith k m).mem = s.mem ∧
    (s.replaceWith k m).ma = s.ma ∧ (s.replaceWith k m).dr = s.dr ∧ (s.replaceWith k m).eu = s.eu ∧
    (s.replaceWith k m).port = s.port ∧ (s.replaceWith k m).free = s.free ∧ (s.replaceWith k m).pending = s.pending := by
  unfold State.replaceWith
  try dsimp only
  simp

@[simp] theorem State.linkBurst_keeps (s : State) :
    s.linkBurst.geo = s.geo ∧ s.linkBurst.prm = s.prm ∧ s.linkBurst.ma = s.ma ∧ s.linkBurst.pi = s.pi ∧
    s.linkBurst.ltc = s.ltc ∧ s.linkBurst.me = s.me ∧ s.linkBurst.pw = s.pw ∧ s.linkBurst.bu = s.bu ∧
    s.linkBurst.sc = s.sc ∧ s.linkBurst.dr = s.dr ∧ s.linkBurst.cx = s.cx ∧ s.linkBurst.eu = s.eu ∧
    s.linkBurst.port = s.port ∧ s.linkBurst.free = s.free ∧ s.linkBurst.pending = s.pending := by
  unfold State.linkBurst
  try dsimp only
  (repeat' split) <;> simp

@[simp] theorem State.burstMeasure_keeps (s : State) (b : BlendPass) (read : List Byte) :
    (s.burstMeasure b read).geo = s.geo ∧ (s.burstMeasure b read).prm = s.prm ∧ (s.burstMeasure b read).mem = s.mem ∧
    (s.burstMeasure b read).ma = s.ma ∧ (s.burstMeasure b read).pi = s.pi ∧ (s.burstMeasure b read).ltc = s.ltc ∧
    (s.burstMeasure b read).me = s.me ∧ (s.burstMeasure b read).pw = s.pw ∧ (s.burstMeasure b read).sc = s.sc ∧
    (s.burstMeasure b read).dr = s.dr ∧ (s.burstMeasure b read).cx = s.cx ∧ (s.burstMeasure b read).eu = s.eu ∧
    (s.burstMeasure b read).li = s.li ∧ (s.burstMeasure b read).port = s.port ∧
    (s.burstMeasure b read).free = s.free ∧ (s.burstMeasure b read).pending = s.pending := by
  unfold State.burstMeasure
  split <;> simp

@[simp] theorem State.blendBurst_keeps (s : State) :
    s.blendBurst.geo = s.geo ∧ s.blendBurst.prm = s.prm ∧ s.blendBurst.ma = s.ma ∧ s.blendBurst.pi = s.pi ∧
    s.blendBurst.ltc = s.ltc ∧ s.blendBurst.me = s.me ∧ s.blendBurst.pw = s.pw ∧ s.blendBurst.sc = s.sc ∧
    s.blendBurst.dr = s.dr ∧ s.blendBurst.cx = s.cx ∧ s.blendBurst.eu = s.eu ∧ s.blendBurst.li = s.li ∧
    s.blendBurst.port = s.port ∧ s.blendBurst.free = s.free ∧ s.blendBurst.pending = s.pending := by
  unfold State.blendBurst
  (repeat' split) <;> simp

@[simp] theorem State.grantRing_keeps (s : State) (r : Ring) :
    (s.grantRing r).geo = s.geo ∧ (s.grantRing r).prm = s.prm ∧ (s.grantRing r).pi = s.pi ∧
    (s.grantRing r).ltc = s.ltc ∧ (s.grantRing r).me = s.me ∧ (s.grantRing r).pw = s.pw ∧
    (s.grantRing r).sc = s.sc ∧ (s.grantRing r).dr = s.dr ∧ (s.grantRing r).port = s.port ∧
    (s.grantRing r).free = s.free ∧ (s.grantRing r).pending = s.pending := by
  unfold State.grantRing
  (repeat' split) <;> simp

@[simp] theorem State.captureAct_keeps (s : State) :
    s.captureAct.geo = s.geo ∧ s.captureAct.prm = s.prm ∧ s.captureAct.mem = s.mem ∧ s.captureAct.ma = s.ma ∧
    s.captureAct.ltc = s.ltc ∧ s.captureAct.pw = s.pw ∧ s.captureAct.bu = s.bu ∧ s.captureAct.dr = s.dr ∧
    s.captureAct.cx = s.cx ∧ s.captureAct.eu = s.eu ∧ s.captureAct.port = s.port ∧ s.captureAct.free = s.free ∧
    s.captureAct.pending = s.pending := by
  unfold State.captureAct
  try dsimp only
  (repeat' split) <;> simp

@[simp] theorem State.closeAtRelease_keeps (s : State) :
    s.closeAtRelease.geo = s.geo ∧ s.closeAtRelease.prm = s.prm ∧ s.closeAtRelease.mem = s.mem ∧
    s.closeAtRelease.ma = s.ma ∧ s.closeAtRelease.ltc = s.ltc ∧ s.closeAtRelease.pw = s.pw ∧
    s.closeAtRelease.bu = s.bu ∧ s.closeAtRelease.dr = s.dr ∧ s.closeAtRelease.cx = s.cx ∧
    s.closeAtRelease.eu = s.eu ∧ s.closeAtRelease.port = s.port ∧ s.closeAtRelease.free = s.free ∧
    s.closeAtRelease.pending = s.pending := by
  unfold State.closeAtRelease
  try dsimp only
  (repeat' split) <;> simp

@[simp] theorem State.arm_keeps (s : State) (d : Direction) (c r : Nat) :
    (s.arm d c r).mem = s.mem ∧ (s.arm d c r).ma = s.ma ∧ (s.arm d c r).pw = s.pw ∧ (s.arm d c r).cx = s.cx ∧
    (s.arm d c r).eu = s.eu ∧ (s.arm d c r).port = s.port ∧ (s.arm d c r).free = s.free ∧
    (s.arm d c r).pending = s.pending := by
  unfold State.arm
  try dsimp only
  simp

@[simp] theorem State.release_keeps (s : State) :
    s.release.geo = s.geo ∧ s.release.mem = s.mem ∧ s.release.ma = s.ma ∧ s.release.cx = s.cx ∧ s.release.eu = s.eu ∧
    s.release.port = s.port ∧ s.release.free = s.free ∧ s.release.pending = s.pending := by
  unfold State.release
  try dsimp only
  simp

@[simp] theorem State.runFinish_keeps (s : State) :
    s.runFinish.geo = s.geo ∧ s.runFinish.prm = s.prm ∧ s.runFinish.mem = s.mem ∧ s.runFinish.ma = s.ma ∧
    s.runFinish.ltc = s.ltc ∧ s.runFinish.pw = s.pw ∧ s.runFinish.bu = s.bu ∧ s.runFinish.dr = s.dr ∧
    s.runFinish.cx = s.cx ∧ s.runFinish.eu = s.eu ∧ s.runFinish.port = s.port ∧ s.runFinish.free = s.free ∧
    s.runFinish.pending = s.pending := by
  unfold State.runFinish
  try dsimp only
  (repeat' split) <;> simp

@[simp] theorem State.abortStop_keeps (s : State) :
    s.abortStop.geo = s.geo ∧ s.abortStop.prm = s.prm ∧ s.abortStop.mem = s.mem ∧ s.abortStop.ma = s.ma ∧
    s.abortStop.ltc = s.ltc ∧ s.abortStop.pw = s.pw ∧ s.abortStop.bu = s.bu ∧ s.abortStop.dr = s.dr ∧
    s.abortStop.free = s.free ∧ s.abortStop.pending = s.pending := by
  unfold State.abortStop
  try dsimp only
  simp

@[simp] theorem State.acceptParked_keeps (s : State) (p : Pass) :
    (s.acceptParked p).geo = s.geo ∧ (s.acceptParked p).prm = s.prm ∧ (s.acceptParked p).mem = s.mem ∧
    (s.acceptParked p).ma = s.ma ∧ (s.acceptParked p).pw = s.pw ∧ (s.acceptParked p).bu = s.bu ∧
    (s.acceptParked p).dr = s.dr ∧ (s.acceptParked p).cx = s.cx ∧ (s.acceptParked p).eu = s.eu ∧
    (s.acceptParked p).port = s.port ∧ (s.acceptParked p).free = s.free ∧ (s.acceptParked p).pending = s.pending := by
  unfold State.acceptParked
  try dsimp only
  (repeat' split) <;> simp

@[simp] theorem State.acceptPush_keeps (s : State) (p : Pass) :
    (s.acceptPush p).geo = s.geo ∧ (s.acceptPush p).prm = s.prm ∧ (s.acceptPush p).mem = s.mem ∧
    (s.acceptPush p).ma = s.ma ∧ (s.acceptPush p).ltc = s.ltc ∧ (s.acceptPush p).dr = s.dr ∧
    (s.acceptPush p).cx = s.cx ∧ (s.acceptPush p).eu = s.eu ∧ (s.acceptPush p).port = s.port ∧
    (s.acceptPush p).free = s.free ∧ (s.acceptPush p).pending = s.pending := by
  unfold State.acceptPush
  try dsimp only
  (repeat' split) <;> simp

@[simp] theorem State.acceptDefault_keeps (s : State) (p : Pass) (c : Condition) :
    (s.acceptDefault p c).geo = s.geo ∧ (s.acceptDefault p c).prm = s.prm ∧ (s.acceptDefault p c).mem = s.mem ∧
    (s.acceptDefault p c).ma = s.ma ∧ (s.acceptDefault p c).dr = s.dr ∧ (s.acceptDefault p c).cx = s.cx ∧
    (s.acceptDefault p c).eu = s.eu ∧ (s.acceptDefault p c).port = s.port ∧ (s.acceptDefault p c).free = s.free ∧
    (s.acceptDefault p c).pending = s.pending := by
  unfold State.acceptDefault
  try dsimp only
  (repeat' split) <;> simp

@[simp] theorem State.skipHeld_keeps (s : State) (p : Pass) (c : Condition) :
    (s.skipHeld p c).geo = s.geo ∧ (s.skipHeld p c).prm = s.prm ∧ (s.skipHeld p c).mem = s.mem ∧
    (s.skipHeld p c).ma = s.ma ∧ (s.skipHeld p c).ltc = s.ltc ∧ (s.skipHeld p c).pw = s.pw ∧
    (s.skipHeld p c).bu = s.bu ∧ (s.skipHeld p c).dr = s.dr ∧ (s.skipHeld p c).cx = s.cx ∧
    (s.skipHeld p c).eu = s.eu ∧ (s.skipHeld p c).port = s.port ∧ (s.skipHeld p c).free = s.free ∧
    (s.skipHeld p c).pending = s.pending := by
  unfold State.skipHeld
  try dsimp only
  (repeat' split) <;> simp

@[simp] theorem State.placeHeld_keeps (s : State) (p : Pass) (x y : Int) :
    (s.placeHeld p x y).geo = s.geo ∧ (s.placeHeld p x y).prm = s.prm ∧ (s.placeHeld p x y).mem = s.mem ∧
    (s.placeHeld p x y).ma = s.ma ∧ (s.placeHeld p x y).ltc = s.ltc ∧ (s.placeHeld p x y).pw = s.pw ∧
    (s.placeHeld p x y).bu = s.bu ∧ (s.placeHeld p x y).dr = s.dr ∧ (s.placeHeld p x y).cx = s.cx ∧
    (s.placeHeld p x y).eu = s.eu ∧ (s.placeHeld p x y).port = s.port ∧ (s.placeHeld p x y).free = s.free ∧
    (s.placeHeld p x y).pending = s.pending := by
  unfold State.placeHeld
  try dsimp only
  simp

@[simp] theorem State.setList_keeps (s : State) (n : Nat) (e : Bool) :
    (s.setList n e).geo = s.geo ∧ (s.setList n e).mem = s.mem ∧ (s.setList n e).ma = s.ma ∧
    (s.setList n e).pi = s.pi ∧ (s.setList n e).pw = s.pw ∧ (s.setList n e).bu = s.bu ∧ (s.setList n e).cx = s.cx ∧
    (s.setList n e).eu = s.eu ∧ (s.setList n e).port = s.port ∧ (s.setList n e).free = s.free ∧
    (s.setList n e).pending = s.pending := by
  unfold State.setList
  try dsimp only
  (repeat' split) <;> simp

@[simp] theorem State.beginSave_keeps (s : State) (k : SlotId) :
    (s.beginSave k).geo = s.geo ∧ (s.beginSave k).prm = s.prm ∧ (s.beginSave k).mem = s.mem ∧
    (s.beginSave k).ma = s.ma ∧ (s.beginSave k).pi = s.pi ∧ (s.beginSave k).ltc = s.ltc ∧ (s.beginSave k).me = s.me ∧
    (s.beginSave k).pw = s.pw ∧ (s.beginSave k).bu = s.bu ∧ (s.beginSave k).sc = s.sc ∧ (s.beginSave k).dr = s.dr ∧
    (s.beginSave k).eu = s.eu ∧ (s.beginSave k).li = s.li ∧ (s.beginSave k).port = s.port ∧
    (s.beginSave k).free = s.free ∧ (s.beginSave k).pending = s.pending := by
  unfold State.beginSave
  try dsimp only
  (repeat' split) <;> simp

@[simp] theorem State.startJob_keeps (s : State) (q p : Bool) (c : List (Nat × Int)) (r n : Nat) :
    (s.startJob q p c r n).geo = s.geo ∧ (s.startJob q p c r n).prm = s.prm ∧ (s.startJob q p c r n).mem = s.mem ∧
    (s.startJob q p c r n).ma = s.ma ∧ (s.startJob q p c r n).pi = s.pi ∧ (s.startJob q p c r n).ltc = s.ltc ∧
    (s.startJob q p c r n).me = s.me ∧ (s.startJob q p c r n).pw = s.pw ∧ (s.startJob q p c r n).bu = s.bu ∧
    (s.startJob q p c r n).sc = s.sc ∧ (s.startJob q p c r n).dr = s.dr ∧ (s.startJob q p c r n).cx = s.cx ∧
    (s.startJob q p c r n).li = s.li ∧ (s.startJob q p c r n).free = s.free ∧
    (s.startJob q p c r n).pending = s.pending := by
  unfold State.startJob
  try dsimp only
  simp

@[simp] theorem State.runExport_keeps (s : State) (p : List Byte) :
    (s.runExport p).geo = s.geo ∧ (s.runExport p).prm = s.prm ∧ (s.runExport p).mem = s.mem ∧
    (s.runExport p).ma = s.ma ∧ (s.runExport p).pi = s.pi ∧ (s.runExport p).ltc = s.ltc ∧ (s.runExport p).me = s.me ∧
    (s.runExport p).pw = s.pw ∧ (s.runExport p).bu = s.bu ∧ (s.runExport p).sc = s.sc ∧ (s.runExport p).dr = s.dr ∧
    (s.runExport p).cx = s.cx ∧ (s.runExport p).free = s.free ∧ (s.runExport p).pending = s.pending := by
  unfold State.runExport
  try dsimp only
  (repeat' split) <;> simp

@[simp] theorem State.sendLine_keeps (s : State) :
    s.sendLine.geo = s.geo ∧ s.sendLine.prm = s.prm ∧ s.sendLine.mem = s.mem ∧ s.sendLine.ma = s.ma ∧
    s.sendLine.pi = s.pi ∧ s.sendLine.ltc = s.ltc ∧ s.sendLine.me = s.me ∧ s.sendLine.pw = s.pw ∧
    s.sendLine.bu = s.bu ∧ s.sendLine.sc = s.sc ∧ s.sendLine.dr = s.dr ∧ s.sendLine.cx = s.cx ∧
    s.sendLine.li = s.li ∧ s.sendLine.free = s.free ∧ s.sendLine.pending = s.pending := by
  unfold State.sendLine
  try dsimp only
  simp

@[simp] theorem State.afterLine_keeps (s : State) :
    s.afterLine.geo = s.geo ∧ s.afterLine.prm = s.prm ∧ s.afterLine.mem = s.mem ∧ s.afterLine.ma = s.ma ∧
    s.afterLine.pi = s.pi ∧ s.afterLine.ltc = s.ltc ∧ s.afterLine.me = s.me ∧ s.afterLine.pw = s.pw ∧
    s.afterLine.bu = s.bu ∧ s.afterLine.sc = s.sc ∧ s.afterLine.dr = s.dr ∧ s.afterLine.cx = s.cx ∧
    s.afterLine.pending = s.pending := by
  unfold State.afterLine
  try dsimp only
  (repeat' split) <;> simp

end Sys2Proof.Machine
end

