-- ==== Sys2Proof/Laws/Parts.lean ====
section
/-! SUPPORT. Which parts of SC, PI, ME and LI the bookkeeping operations leave as they were. -/

namespace Sys2Proof.Machine

@[simp] theorem State.setFlag_parts (s : State) (c : Condition) :
    (s.setFlag c).sc.sweep = s.sc.sweep ∧ (s.setFlag c).sc.masks = s.sc.masks ∧
    (s.setFlag c).sc.progress = s.sc.progress ∧ (s.setFlag c).sc.mark0 = s.sc.mark0 ∧
    (s.setFlag c).sc.mark1 = s.sc.mark1 ∧ (s.setFlag c).sc.markFinishWaits = s.sc.markFinishWaits ∧
    (s.setFlag c).sc.capture = s.sc.capture ∧ (s.setFlag c).sc.captureFinish = s.sc.captureFinish ∧
    (s.setFlag c).sc.captureFinishWaits = s.sc.captureFinishWaits ∧ (s.setFlag c).sc.pace = s.sc.pace ∧
    (s.setFlag c).sc.cue = s.sc.cue ∧ (s.setFlag c).sc.closure = s.sc.closure ∧
    (s.setFlag c).sc.started = s.sc.started ∧ (s.setFlag c).sc.placed = s.sc.placed ∧
    (s.setFlag c).sc.dropped = s.sc.dropped ∧ (s.setFlag c).sc.setAside = s.sc.setAside ∧
    (s.setFlag c).sc.last = s.sc.last := by
  refine ⟨?_, ?_, ?_, ?_, ?_, ?_, ?_, ?_, ?_, ?_, ?_, ?_, ?_, ?_, ?_, ?_, ?_⟩ <;> rfl

@[simp] theorem State.setCue_parts (s : State) (v : Bool) :
    (s.setCue v).sc.sweep = s.sc.sweep ∧ (s.setCue v).sc.flags = s.sc.flags ∧ (s.setCue v).sc.masks = s.sc.masks ∧
    (s.setCue v).sc.progress = s.sc.progress ∧ (s.setCue v).sc.mark0 = s.sc.mark0 ∧
    (s.setCue v).sc.mark1 = s.sc.mark1 ∧ (s.setCue v).sc.markFinishWaits = s.sc.markFinishWaits ∧
    (s.setCue v).sc.capture = s.sc.capture ∧ (s.setCue v).sc.captureFinish = s.sc.captureFinish ∧
    (s.setCue v).sc.captureFinishWaits = s.sc.captureFinishWaits ∧ (s.setCue v).sc.pace = s.sc.pace ∧
    (s.setCue v).sc.closure = s.sc.closure ∧ (s.setCue v).sc.started = s.sc.started ∧
    (s.setCue v).sc.placed = s.sc.placed ∧ (s.setCue v).sc.dropped = s.sc.dropped ∧
    (s.setCue v).sc.setAside = s.sc.setAside ∧ (s.setCue v).sc.last = s.sc.last := by
  refine ⟨?_, ?_, ?_, ?_, ?_, ?_, ?_, ?_, ?_, ?_, ?_, ?_, ?_, ?_, ?_, ?_, ?_⟩ <;> rfl

@[simp] theorem State.setProgress_parts (s : State) (x : Int) :
    (s.setProgress x).sc.sweep = s.sc.sweep ∧ (s.setProgress x).sc.flags = s.sc.flags ∧
    (s.setProgress x).sc.masks = s.sc.masks ∧ (s.setProgress x).sc.mark0 = s.sc.mark0 ∧
    (s.setProgress x).sc.mark1 = s.sc.mark1 ∧ (s.setProgress x).sc.markFinishWaits = s.sc.markFinishWaits ∧
    (s.setProgress x).sc.capture = s.sc.capture ∧ (s.setProgress x).sc.captureFinish = s.sc.captureFinish ∧
    (s.setProgress x).sc.captureFinishWaits = s.sc.captureFinishWaits ∧ (s.setProgress x).sc.pace = s.sc.pace ∧
    (s.setProgress x).sc.cue = s.sc.cue ∧ (s.setProgress x).sc.closure = s.sc.closure ∧
    (s.setProgress x).sc.started = s.sc.started ∧ (s.setProgress x).sc.placed = s.sc.placed ∧
    (s.setProgress x).sc.dropped = s.sc.dropped ∧ (s.setProgress x).sc.setAside = s.sc.setAside ∧
    (s.setProgress x).sc.last = s.sc.last := by
  refine ⟨?_, ?_, ?_, ?_, ?_, ?_, ?_, ?_, ?_, ?_, ?_, ?_, ?_, ?_, ?_, ?_, ?_⟩ <;> rfl

@[simp] theorem State.drivePace_parts (s : State) (d : Int) :
    (s.drivePace d).sc.sweep = s.sc.sweep ∧ (s.drivePace d).sc.flags = s.sc.flags ∧
    (s.drivePace d).sc.masks = s.sc.masks ∧ (s.drivePace d).sc.progress = s.sc.progress ∧
    (s.drivePace d).sc.mark0 = s.sc.mark0 ∧ (s.drivePace d).sc.mark1 = s.sc.mark1 ∧
    (s.drivePace d).sc.markFinishWaits = s.sc.markFinishWaits ∧ (s.drivePace d).sc.capture = s.sc.capture ∧
    (s.drivePace d).sc.captureFinish = s.sc.captureFinish ∧
    (s.drivePace d).sc.captureFinishWaits = s.sc.captureFinishWaits ∧ (s.drivePace d).sc.cue = s.sc.cue ∧
    (s.drivePace d).sc.closure = s.sc.closure ∧ (s.drivePace d).sc.started = s.sc.started ∧
    (s.drivePace d).sc.placed = s.sc.placed ∧ (s.drivePace d).sc.dropped = s.sc.dropped ∧
    (s.drivePace d).sc.setAside = s.sc.setAside ∧ (s.drivePace d).sc.last = s.sc.last := by
  refine ⟨?_, ?_, ?_, ?_, ?_, ?_, ?_, ?_, ?_, ?_, ?_, ?_, ?_, ?_, ?_, ?_, ?_⟩ <;> rfl

@[simp] theorem State.rejectClosure_parts (s : State) (v : Serial) (t : ClosureTest) (r : ClosureReason) :
    (s.rejectClosure v t r).sc.sweep = s.sc.sweep ∧ (s.rejectClosure v t r).sc.flags = s.sc.flags ∧
    (s.rejectClosure v t r).sc.masks = s.sc.masks ∧ (s.rejectClosure v t r).sc.progress = s.sc.progress ∧
    (s.rejectClosure v t r).sc.mark0 = s.sc.mark0 ∧ (s.rejectClosure v t r).sc.mark1 = s.sc.mark1 ∧
    (s.rejectClosure v t r).sc.markFinishWaits = s.sc.markFinishWaits ∧
    (s.rejectClosure v t r).sc.capture = s.sc.capture ∧
    (s.rejectClosure v t r).sc.captureFinish = s.sc.captureFinish ∧
    (s.rejectClosure v t r).sc.captureFinishWaits = s.sc.captureFinishWaits ∧
    (s.rejectClosure v t r).sc.pace = s.sc.pace ∧ (s.rejectClosure v t r).sc.cue = s.sc.cue ∧
    (s.rejectClosure v t r).sc.started = s.sc.started ∧ (s.rejectClosure v t r).sc.placed = s.sc.placed ∧
    (s.rejectClosure v t r).sc.dropped = s.sc.dropped ∧ (s.rejectClosure v t r).sc.setAside = s.sc.setAside ∧
    (s.rejectClosure v t r).sc.last = s.sc.last := by
  refine ⟨?_, ?_, ?_, ?_, ?_, ?_, ?_, ?_, ?_, ?_, ?_, ?_, ?_, ?_, ?_, ?_, ?_⟩ <;> rfl

@[simp] theorem State.setCaptureResult_parts (s : State) (r : CaptureResult) :
    (s.setCaptureResult r).sc.sweep = s.sc.sweep ∧ (s.setCaptureResult r).sc.flags = s.sc.flags ∧
    (s.setCaptureResult r).sc.masks = s.sc.masks ∧ (s.setCaptureResult r).sc.progress = s.sc.progress ∧
    (s.setCaptureResult r).sc.mark0 = s.sc.mark0 ∧ (s.setCaptureResult r).sc.mark1 = s.sc.mark1 ∧
    (s.setCaptureResult r).sc.markFinishWaits = s.sc.markFinishWaits ∧
    (s.setCaptureResult r).sc.captureFinish = s.sc.captureFinish ∧ (s.setCaptureResult r).sc.pace = s.sc.pace ∧
    (s.setCaptureResult r).sc.cue = s.sc.cue ∧ (s.setCaptureResult r).sc.closure = s.sc.closure ∧
    (s.setCaptureResult r).sc.started = s.sc.started ∧ (s.setCaptureResult r).sc.placed = s.sc.placed ∧
    (s.setCaptureResult r).sc.dropped = s.sc.dropped ∧ (s.setCaptureResult r).sc.setAside = s.sc.setAside ∧
    (s.setCaptureResult r).sc.last = s.sc.last := by
  refine ⟨?_, ?_, ?_, ?_, ?_, ?_, ?_, ?_, ?_, ?_, ?_, ?_, ?_, ?_, ?_, ?_⟩ <;> rfl

@[simp] theorem State.disarmMark_parts (s : State) (u : Bool) :
    (s.disarmMark u).sc.sweep = s.sc.sweep ∧ (s.disarmMark u).sc.flags = s.sc.flags ∧
    (s.disarmMark u).sc.masks = s.sc.masks ∧ (s.disarmMark u).sc.progress = s.sc.progress ∧
    (s.disarmMark u).sc.markFinishWaits = s.sc.markFinishWaits ∧ (s.disarmMark u).sc.capture = s.sc.capture ∧
    (s.disarmMark u).sc.captureFinish = s.sc.captureFinish ∧
    (s.disarmMark u).sc.captureFinishWaits = s.sc.captureFinishWaits ∧ (s.disarmMark u).sc.pace = s.sc.pace ∧
    (s.disarmMark u).sc.cue = s.sc.cue ∧ (s.disarmMark u).sc.closure = s.sc.closure ∧
    (s.disarmMark u).sc.started = s.sc.started ∧ (s.disarmMark u).sc.placed = s.sc.placed ∧
    (s.disarmMark u).sc.dropped = s.sc.dropped ∧ (s.disarmMark u).sc.setAside = s.sc.setAside ∧
    (s.disarmMark u).sc.last = s.sc.last := by
  unfold State.disarmMark
  try dsimp only
  (repeat' split) <;> simp

@[simp] theorem State.raise_parts (s : State) (e : Event) :
    (s.raise e).li.reply = s.li.reply ∧ (s.raise e).li.processing = s.li.processing ∧
    (s.raise e).li.transaction = s.li.transaction ∧ (s.raise e).li.enables = s.li.enables := by
  refine ⟨?_, ?_, ?_, ?_⟩ <;> rfl

@[simp] theorem State.setBank_parts (s : State) (b : BankId) (k : Bank) :
    (s.setBank b k).pi.port = s.pi.port ∧ (s.setBank b k).pi.waiting = s.pi.waiting ∧
    (s.setBank b k).pi.filling = s.pi.filling ∧ (s.setBank b k).pi.serial = s.pi.serial ∧
    (s.setBank b k).pi.queue = s.pi.queue := by
  refine ⟨?_, ?_, ?_, ?_, ?_⟩ <;> rfl

@[simp] theorem State.setPass_parts (s : State) (p : Option Pass) :
    (s.setPass p).me.motion = s.me.motion ∧ (s.setPass p).me.hint = s.me.hint ∧ (s.setPass p).me.mode = s.me.mode ∧
    (s.setPass p).me.predicted = s.me.predicted := by
  refine ⟨?_, ?_, ?_, ?_⟩ <;> rfl

@[simp] theorem State.recordOutcome_parts (s : State) (lf : LastFrame) :
    (s.recordOutcome lf).sc.sweep = s.sc.sweep ∧ (s.recordOutcome lf).sc.flags = s.sc.flags ∧
    (s.recordOutcome lf).sc.masks = s.sc.masks ∧ (s.recordOutcome lf).sc.progress = s.sc.progress ∧
    (s.recordOutcome lf).sc.mark0 = s.sc.mark0 ∧ (s.recordOutcome lf).sc.mark1 = s.sc.mark1 ∧
    (s.recordOutcome lf).sc.markFinishWaits = s.sc.markFinishWaits ∧ (s.recordOutcome lf).sc.capture = s.sc.capture ∧
    (s.recordOutcome lf).sc.captureFinish = s.sc.captureFinish ∧
    (s.recordOutcome lf).sc.captureFinishWaits = s.sc.captureFinishWaits ∧ (s.recordOutcome lf).sc.pace = s.sc.pace ∧
    (s.recordOutcome lf).sc.cue = s.sc.cue ∧ (s.recordOutcome lf).sc.closure = s.sc.closure ∧
    (s.recordOutcome lf).sc.started = s.sc.started ∧ (s.recordOutcome lf).li.reply = s.li.reply ∧
    (s.recordOutcome lf).li.processing = s.li.processing ∧ (s.recordOutcome lf).li.transaction = s.li.transaction ∧
    (s.recordOutcome lf).li.enables = s.li.enables := by
  unfold State.recordOutcome
  try dsimp only
  (repeat' split) <;> simp

@[simp] theorem State.settle_parts (s : State) (b : BankId) (lf : LastFrame) :
    (s.settle b lf).sc.sweep = s.sc.sweep ∧ (s.settle b lf).sc.flags = s.sc.flags ∧
    (s.settle b lf).sc.masks = s.sc.masks ∧ (s.settle b lf).sc.progress = s.sc.progress ∧
    (s.settle b lf).sc.mark0 = s.sc.mark0 ∧ (s.settle b lf).sc.mark1 = s.sc.mark1 ∧
    (s.settle b lf).sc.markFinishWaits = s.sc.markFinishWaits ∧ (s.settle b lf).sc.capture = s.sc.capture ∧
    (s.settle b lf).sc.captureFinish = s.sc.captureFinish ∧
    (s.settle b lf).sc.captureFinishWaits = s.sc.captureFinishWaits ∧ (s.settle b lf).sc.pace = s.sc.pace ∧
    (s.settle b lf).sc.cue = s.sc.cue ∧ (s.settle b lf).sc.closure = s.sc.closure ∧
    (s.settle b lf).sc.started = s.sc.started ∧ (s.settle b lf).li.reply = s.li.reply ∧
    (s.settle b lf).li.processing = s.li.processing ∧ (s.settle b lf).li.transaction = s.li.transaction ∧
    (s.settle b lf).li.enables = s.li.enables ∧ (s.settle b lf).pi.port = s.pi.port ∧
    (s.settle b lf).pi.waiting = s.pi.waiting ∧ (s.settle b lf).pi.filling = s.pi.filling ∧
    (s.settle b lf).pi.serial = s.pi.serial := by
  unfold State.settle
  try dsimp only
  (repeat' split) <;> simp

@[simp] theorem State.clearHint_parts (s : State) (v : Serial) :
    (s.clearHint v).me.motion = s.me.motion ∧ (s.clearHint v).me.mode = s.me.mode ∧
    (s.clearHint v).me.predicted = s.me.predicted ∧ (s.clearHint v).me.pass = s.me.pass := by
  unfold State.clearHint
  try dsimp only
  (repeat' split) <;> simp

@[simp] theorem State.settleIntake_parts (s : State) (b : BankId) (o : FrameOutcome) :
    (s.settleIntake b o).sc.sweep = s.sc.sweep ∧ (s.settleIntake b o).sc.flags = s.sc.flags ∧
    (s.settleIntake b o).sc.masks = s.sc.masks ∧ (s.settleIntake b o).sc.progress = s.sc.progress ∧
    (s.settleIntake b o).sc.mark0 = s.sc.mark0 ∧ (s.settleIntake b o).sc.mark1 = s.sc.mark1 ∧
    (s.settleIntake b o).sc.markFinishWaits = s.sc.markFinishWaits ∧ (s.settleIntake b o).sc.capture = s.sc.capture ∧
    (s.settleIntake b o).sc.captureFinish = s.sc.captureFinish ∧
    (s.settleIntake b o).sc.captureFinishWaits = s.sc.captureFinishWaits ∧ (s.settleIntake b o).sc.pace = s.sc.pace ∧
    (s.settleIntake b o).sc.cue = s.sc.cue ∧ (s.settleIntake b o).sc.closure = s.sc.closure ∧
    (s.settleIntake b o).sc.started = s.sc.started ∧ (s.settleIntake b o).li.reply = s.li.reply ∧
    (s.settleIntake b o).li.processing = s.li.processing ∧ (s.settleIntake b o).li.transaction = s.li.transaction ∧
    (s.settleIntake b o).li.enables = s.li.enables ∧ (s.settleIntake b o).pi.port = s.pi.port ∧
    (s.settleIntake b o).pi.waiting = s.pi.waiting ∧ (s.settleIntake b o).pi.filling = s.pi.filling ∧
    (s.settleIntake b o).pi.serial = s.pi.serial ∧ (s.settleIntake b o).me.motion = s.me.motion ∧
    (s.settleIntake b o).me.mode = s.me.mode ∧ (s.settleIntake b o).me.predicted = s.me.predicted ∧
    (s.settleIntake b o).me.pass = s.me.pass := by
  unfold State.settleIntake
  try dsimp only
  simp

@[simp] theorem State.foldl_settleIntake_parts (s : State) (l : List BankId) (o : FrameOutcome) :
    (l.foldl (fun s b => s.settleIntake b o) s).sc.sweep = s.sc.sweep ∧
    (l.foldl (fun s b => s.settleIntake b o) s).sc.flags = s.sc.flags ∧
    (l.foldl (fun s b => s.settleIntake b o) s).sc.masks = s.sc.masks ∧
    (l.foldl (fun s b => s.settleIntake b o) s).sc.progress = s.sc.progress ∧
    (l.foldl (fun s b => s.settleIntake b o) s).sc.mark0 = s.sc.mark0 ∧
    (l.foldl (fun s b => s.settleIntake b o) s).sc.mark1 = s.sc.mark1 ∧
    (l.foldl (fun s b => s.settleIntake b o) s).sc.markFinishWaits = s.sc.markFinishWaits ∧
    (l.foldl (fun s b => s.settleIntake b o) s).sc.capture = s.sc.capture ∧
    (l.foldl (fun s b => s.settleIntake b o) s).sc.captureFinish = s.sc.captureFinish ∧
    (l.foldl (fun s b => s.settleIntake b o) s).sc.captureFinishWaits = s.sc.captureFinishWaits ∧
    (l.foldl (fun s b => s.settleIntake b o) s).sc.pace = s.sc.pace ∧
    (l.foldl (fun s b => s.settleIntake b o) s).sc.cue = s.sc.cue ∧
    (l.foldl (fun s b => s.settleIntake b o) s).sc.closure = s.sc.closure ∧
    (l.foldl (fun s b => s.settleIntake b o) s).sc.started = s.sc.started ∧
    (l.foldl (fun s b => s.settleIntake b o) s).li.reply = s.li.reply ∧
    (l.foldl (fun s b => s.settleIntake b o) s).li.processing = s.li.processing ∧
    (l.foldl (fun s b => s.settleIntake b o) s).li.transaction = s.li.transaction ∧
    (l.foldl (fun s b => s.settleIntake b o) s).li.enables = s.li.enables ∧
    (l.foldl (fun s b => s.settleIntake b o) s).pi.port = s.pi.port ∧
    (l.foldl (fun s b => s.settleIntake b o) s).pi.waiting = s.pi.waiting ∧
    (l.foldl (fun s b => s.settleIntake b o) s).pi.filling = s.pi.filling ∧
    (l.foldl (fun s b => s.settleIntake b o) s).pi.serial = s.pi.serial ∧
    (l.foldl (fun s b => s.settleIntake b o) s).me.motion = s.me.motion ∧
    (l.foldl (fun s b => s.settleIntake b o) s).me.mode = s.me.mode ∧
    (l.foldl (fun s b => s.settleIntake b o) s).me.predicted = s.me.predicted ∧
    (l.foldl (fun s b => s.settleIntake b o) s).me.pass = s.me.pass := by
  induction l generalizing s with
  | nil => simp
  | cons c l ih =>
    rw [List.foldl_cons]
    refine ⟨?_, ?_, ?_, ?_, ?_, ?_, ?_, ?_, ?_, ?_, ?_, ?_, ?_, ?_, ?_, ?_, ?_, ?_, ?_, ?_, ?_, ?_, ?_, ?_, ?_, ?_⟩ <;> simp [ih]

@[simp] theorem State.markStoring_parts (s : State) (m : DropMark) :
    (s.markStoring m).pi.port = s.pi.port ∧ (s.markStoring m).pi.waiting = s.pi.waiting ∧
    (s.markStoring m).pi.filling = s.pi.filling ∧ (s.markStoring m).pi.serial = s.pi.serial ∧
    (s.markStoring m).pi.queue = s.pi.queue := by
  unfold State.markStoring
  try dsimp only
  (repeat' split) <;> simp

@[simp] theorem State.releaseQueue_parts (s : State) :
    s.releaseQueue.sc.sweep = s.sc.sweep ∧ s.releaseQueue.sc.flags = s.sc.flags ∧
    s.releaseQueue.sc.masks = s.sc.masks ∧ s.releaseQueue.sc.progress = s.sc.progress ∧
    s.releaseQueue.sc.mark0 = s.sc.mark0 ∧ s.releaseQueue.sc.mark1 = s.sc.mark1 ∧
    s.releaseQueue.sc.markFinishWaits = s.sc.markFinishWaits ∧ s.releaseQueue.sc.capture = s.sc.capture ∧
    s.releaseQueue.sc.captureFinish = s.sc.captureFinish ∧
    s.releaseQueue.sc.captureFinishWaits = s.sc.captureFinishWaits ∧ s.releaseQueue.sc.pace = s.sc.pace ∧
    s.releaseQueue.sc.cue = s.sc.cue ∧ s.releaseQueue.sc.closure = s.sc.closure ∧
    s.releaseQueue.sc.started = s.sc.started ∧ s.releaseQueue.li.reply = s.li.reply ∧
    s.releaseQueue.li.processing = s.li.processing ∧ s.releaseQueue.li.transaction = s.li.transaction ∧
    s.releaseQueue.li.enables = s.li.enables ∧ s.releaseQueue.pi.port = s.pi.port ∧
    s.releaseQueue.pi.waiting = s.pi.waiting ∧ s.releaseQueue.pi.filling = s.pi.filling ∧
    s.releaseQueue.pi.serial = s.pi.serial ∧ s.releaseQueue.me.motion = s.me.motion ∧
    s.releaseQueue.me.mode = s.me.mode ∧ s.releaseQueue.me.predicted = s.me.predicted ∧
    s.releaseQueue.me.pass = s.me.pass := by
  unfold State.releaseQueue
  try dsimp only
  simp

@[simp] theorem State.abandonBanks_parts (s : State) :
    s.abandonBanks.sc.sweep = s.sc.sweep ∧ s.abandonBanks.sc.flags = s.sc.flags ∧
    s.abandonBanks.sc.masks = s.sc.masks ∧ s.abandonBanks.sc.progress = s.sc.progress ∧
    s.abandonBanks.sc.mark0 = s.sc.mark0 ∧ s.abandonBanks.sc.mark1 = s.sc.mark1 ∧
    s.abandonBanks.sc.markFinishWaits = s.sc.markFinishWaits ∧ s.abandonBanks.sc.capture = s.sc.capture ∧
    s.abandonBanks.sc.captureFinish = s.sc.captureFinish ∧
    s.abandonBanks.sc.captureFinishWaits = s.sc.captureFinishWaits ∧ s.abandonBanks.sc.pace = s.sc.pace ∧
    s.abandonBanks.sc.cue = s.sc.cue ∧ s.abandonBanks.sc.closure = s.sc.closure ∧
    s.abandonBanks.sc.started = s.sc.started ∧ s.abandonBanks.li.reply = s.li.reply ∧
    s.abandonBanks.li.processing = s.li.processing ∧ s.abandonBanks.li.transaction = s.li.transaction ∧
    s.abandonBanks.li.enables = s.li.enables ∧ s.abandonBanks.pi.serial = s.pi.serial ∧
    s.abandonBanks.me.motion = s.me.motion ∧ s.abandonBanks.me.mode = s.me.mode ∧
    s.abandonBanks.me.predicted = s.me.predicted ∧ s.abandonBanks.me.pass = s.me.pass := by
  unfold State.abandonBanks
  try dsimp only
  (repeat' split) <;> simp

@[simp] theorem State.hold_parts (s : State) (c : Condition) :
    (s.hold c).sc.flags = s.sc.flags ∧ (s.hold c).sc.masks = s.sc.masks ∧ (s.hold c).sc.progress = s.sc.progress ∧
    (s.hold c).sc.mark0 = s.sc.mark0 ∧ (s.hold c).sc.mark1 = s.sc.mark1 ∧
    (s.hold c).sc.markFinishWaits = s.sc.markFinishWaits ∧ (s.hold c).sc.capture = s.sc.capture ∧
    (s.hold c).sc.captureFinish = s.sc.captureFinish ∧ (s.hold c).sc.captureFinishWaits = s.sc.captureFinishWaits ∧
    (s.hold c).sc.pace = s.sc.pace ∧ (s.hold c).sc.cue = s.sc.cue ∧ (s.hold c).sc.closure = s.sc.closure ∧
    (s.hold c).sc.started = s.sc.started ∧ (s.hold c).sc.placed = s.sc.placed ∧
    (s.hold c).sc.dropped = s.sc.dropped ∧ (s.hold c).sc.setAside = s.sc.setAside ∧ (s.hold c).sc.last = s.sc.last ∧
    (s.hold c).li.reply = s.li.reply ∧ (s.hold c).li.processing = s.li.processing ∧
    (s.hold c).li.transaction = s.li.transaction ∧ (s.hold c).li.enables = s.li.enables ∧
    (s.hold c).pi.port = s.pi.port ∧ (s.hold c).pi.waiting = s.pi.waiting ∧ (s.hold c).pi.filling = s.pi.filling ∧
    (s.hold c).pi.serial = s.pi.serial ∧ (s.hold c).pi.queue = s.pi.queue := by
  unfold State.hold
  try dsimp only
  simp

@[simp] theorem State.report_parts (s : State) (c : Condition) :
    (s.report c).1.sc.masks = s.sc.masks ∧ (s.report c).1.sc.progress = s.sc.progress ∧
    (s.report c).1.sc.mark0 = s.sc.mark0 ∧ (s.report c).1.sc.mark1 = s.sc.mark1 ∧
    (s.report c).1.sc.markFinishWaits = s.sc.markFinishWaits ∧ (s.report c).1.sc.capture = s.sc.capture ∧
    (s.report c).1.sc.captureFinish = s.sc.captureFinish ∧
    (s.report c).1.sc.captureFinishWaits = s.sc.captureFinishWaits ∧ (s.report c).1.sc.pace = s.sc.pace ∧
    (s.report c).1.sc.cue = s.sc.cue ∧ (s.report c).1.sc.closure = s.sc.closure ∧
    (s.report c).1.sc.started = s.sc.started ∧ (s.report c).1.sc.placed = s.sc.placed ∧
    (s.report c).1.sc.dropped = s.sc.dropped ∧ (s.report c).1.sc.setAside = s.sc.setAside ∧
    (s.report c).1.sc.last = s.sc.last ∧ (s.report c).1.li.reply = s.li.reply ∧
    (s.report c).1.li.processing = s.li.processing ∧ (s.report c).1.li.transaction = s.li.transaction ∧
    (s.report c).1.li.enables = s.li.enables ∧ (s.report c).1.pi.port = s.pi.port ∧
    (s.report c).1.pi.waiting = s.pi.waiting ∧ (s.report c).1.pi.filling = s.pi.filling ∧
    (s.report c).1.pi.serial = s.pi.serial ∧ (s.report c).1.pi.queue = s.pi.queue := by
  unfold State.report
  try dsimp only
  (repeat' split) <;> simp

@[simp] theorem State.enterClosing_parts (s : State) :
    s.enterClosing.sc.flags = s.sc.flags ∧ s.enterClosing.sc.masks = s.sc.masks ∧
    s.enterClosing.sc.progress = s.sc.progress ∧ s.enterClosing.sc.mark0 = s.sc.mark0 ∧
    s.enterClosing.sc.mark1 = s.sc.mark1 ∧ s.enterClosing.sc.markFinishWaits = s.sc.markFinishWaits ∧
    s.enterClosing.sc.capture = s.sc.capture ∧ s.enterClosing.sc.captureFinish = s.sc.captureFinish ∧
    s.enterClosing.sc.captureFinishWaits = s.sc.captureFinishWaits ∧ s.enterClosing.sc.pace = s.sc.pace ∧
    s.enterClosing.sc.cue = s.sc.cue ∧ s.enterClosing.sc.closure = s.sc.closure ∧
    s.enterClosing.sc.started = s.sc.started ∧ s.enterClosing.li.reply = s.li.reply ∧
    s.enterClosing.li.processing = s.li.processing ∧ s.enterClosing.li.transaction = s.li.transaction ∧
    s.enterClosing.li.enables = s.li.enables ∧ s.enterClosing.pi.port = s.pi.port ∧
    s.enterClosing.pi.waiting = s.pi.waiting ∧ s.enterClosing.pi.filling = s.pi.filling ∧
    s.enterClosing.pi.serial = s.pi.serial ∧ s.enterClosing.me.motion = s.me.motion ∧
    s.enterClosing.me.mode = s.me.mode ∧ s.enterClosing.me.predicted = s.me.predicted ∧
    s.enterClosing.me.pass = s.me.pass := by
  unfold State.enterClosing
  try dsimp only
  simp

@[simp] theorem State.settlePass_parts (s : State) (p : Pass) (lf : LastFrame) :
    (s.settlePass p lf).sc.sweep = s.sc.sweep ∧ (s.settlePass p lf).sc.flags = s.sc.flags ∧
    (s.settlePass p lf).sc.masks = s.sc.masks ∧ (s.settlePass p lf).sc.progress = s.sc.progress ∧
    (s.settlePass p lf).sc.mark0 = s.sc.mark0 ∧ (s.settlePass p lf).sc.mark1 = s.sc.mark1 ∧
    (s.settlePass p lf).sc.markFinishWaits = s.sc.markFinishWaits ∧ (s.settlePass p lf).sc.capture = s.sc.capture ∧
    (s.settlePass p lf).sc.captureFinish = s.sc.captureFinish ∧
    (s.settlePass p lf).sc.captureFinishWaits = s.sc.captureFinishWaits ∧ (s.settlePass p lf).sc.pace = s.sc.pace ∧
    (s.settlePass p lf).sc.cue = s.sc.cue ∧ (s.settlePass p lf).sc.closure = s.sc.closure ∧
    (s.settlePass p lf).sc.started = s.sc.started ∧ (s.settlePass p lf).li.reply = s.li.reply ∧
    (s.settlePass p lf).li.processing = s.li.processing ∧ (s.settlePass p lf).li.transaction = s.li.transaction ∧
    (s.settlePass p lf).li.enables = s.li.enables ∧ (s.settlePass p lf).pi.port = s.pi.port ∧
    (s.settlePass p lf).pi.waiting = s.pi.waiting ∧ (s.settlePass p lf).pi.filling = s.pi.filling ∧
    (s.settlePass p lf).pi.serial = s.pi.serial := by
  unfold State.settlePass
  try dsimp only
  (repeat' split) <;> simp

@[simp] theorem State.endPassWith_parts (s : State) (p : Pass) (o : FrameOutcome) :
    (s.endPassWith p o).sc.sweep = s.sc.sweep ∧ (s.endPassWith p o).sc.flags = s.sc.flags ∧
    (s.endPassWith p o).sc.masks = s.sc.masks ∧ (s.endPassWith p o).sc.progress = s.sc.progress ∧
    (s.endPassWith p o).sc.mark0 = s.sc.mark0 ∧ (s.endPassWith p o).sc.mark1 = s.sc.mark1 ∧
    (s.endPassWith p o).sc.markFinishWaits = s.sc.markFinishWaits ∧ (s.endPassWith p o).sc.capture = s.sc.capture ∧
    (s.endPassWith p o).sc.captureFinish = s.sc.captureFinish ∧
    (s.endPassWith p o).sc.captureFinishWaits = s.sc.captureFinishWaits ∧ (s.endPassWith p o).sc.pace = s.sc.pace ∧
    (s.endPassWith p o).sc.cue = s.sc.cue ∧ (s.endPassWith p o).sc.closure = s.sc.closure ∧
    (s.endPassWith p o).sc.started = s.sc.started ∧ (s.endPassWith p o).li.reply = s.li.reply ∧
    (s.endPassWith p o).li.processing = s.li.processing ∧ (s.endPassWith p o).li.transaction = s.li.transaction ∧
    (s.endPassWith p o).li.enables = s.li.enables ∧ (s.endPassWith p o).pi.port = s.pi.port ∧
    (s.endPassWith p o).pi.waiting = s.pi.waiting ∧ (s.endPassWith p o).pi.filling = s.pi.filling ∧
    (s.endPassWith p o).pi.serial = s.pi.serial ∧ (s.endPassWith p o).me.motion = s.me.motion ∧
    (s.endPassWith p o).me.hint = s.me.hint ∧ (s.endPassWith p o).me.mode = s.me.mode ∧
    (s.endPassWith p o).me.predicted = s.me.predicted := by
  unfold State.endPassWith
  try dsimp only
  simp

@[simp] theorem State.stopPass_parts (s : State) :
    s.stopPass.sc.sweep = s.sc.sweep ∧ s.stopPass.sc.flags = s.sc.flags ∧ s.stopPass.sc.masks = s.sc.masks ∧
    s.stopPass.sc.progress = s.sc.progress ∧ s.stopPass.sc.mark0 = s.sc.mark0 ∧ s.stopPass.sc.mark1 = s.sc.mark1 ∧
    s.stopPass.sc.markFinishWaits = s.sc.markFinishWaits ∧ s.stopPass.sc.capture = s.sc.capture ∧
    s.stopPass.sc.captureFinish = s.sc.captureFinish ∧ s.stopPass.sc.captureFinishWaits = s.sc.captureFinishWaits ∧
    s.stopPass.sc.pace = s.sc.pace ∧ s.stopPass.sc.cue = s.sc.cue ∧ s.stopPass.sc.closure = s.sc.closure ∧
    s.stopPass.sc.started = s.sc.started ∧ s.stopPass.li.reply = s.li.reply ∧
    s.stopPass.li.processing = s.li.processing ∧ s.stopPass.li.transaction = s.li.transaction ∧
    s.stopPass.li.enables = s.li.enables ∧ s.stopPass.pi.port = s.pi.port ∧ s.stopPass.pi.waiting = s.pi.waiting ∧
    s.stopPass.pi.filling = s.pi.filling ∧ s.stopPass.pi.serial = s.pi.serial ∧ s.stopPass.me.motion = s.me.motion ∧
    s.stopPass.me.hint = s.me.hint ∧ s.stopPass.me.mode = s.me.mode ∧ s.stopPass.me.predicted = s.me.predicted := by
  unfold State.stopPass
  try dsimp only
  (repeat' split) <;> simp

@[simp] theorem State.meetStop_parts (s : State) :
    s.meetStop.sc.sweep = s.sc.sweep ∧ s.meetStop.sc.flags = s.sc.flags ∧ s.meetStop.sc.masks = s.sc.masks ∧
    s.meetStop.sc.progress = s.sc.progress ∧ s.meetStop.sc.mark0 = s.sc.mark0 ∧ s.meetStop.sc.mark1 = s.sc.mark1 ∧
    s.meetStop.sc.started = s.sc.started ∧ s.meetStop.li.reply = s.li.reply ∧
    s.meetStop.li.processing = s.li.processing ∧ s.meetStop.li.enables = s.li.enables ∧
    s.meetStop.pi.port = s.pi.port ∧ s.meetStop.pi.waiting = s.pi.waiting ∧ s.meetStop.pi.filling = s.pi.filling ∧
    s.meetStop.pi.serial = s.pi.serial ∧ s.meetStop.me.motion = s.me.motion ∧ s.meetStop.me.hint = s.me.hint ∧
    s.meetStop.me.mode = s.me.mode ∧ s.meetStop.me.predicted = s.me.predicted := by
  unfold State.meetStop
  split <;> simp

@[simp] theorem State.giveUpHeld_parts (s : State) :
    s.giveUpHeld.sc.sweep = s.sc.sweep ∧ s.giveUpHeld.sc.flags = s.sc.flags ∧ s.giveUpHeld.sc.masks = s.sc.masks ∧
    s.giveUpHeld.sc.progress = s.sc.progress ∧ s.giveUpHeld.sc.mark0 = s.sc.mark0 ∧
    s.giveUpHeld.sc.mark1 = s.sc.mark1 ∧ s.giveUpHeld.sc.markFinishWaits = s.sc.markFinishWaits ∧
    s.giveUpHeld.sc.capture = s.sc.capture ∧ s.giveUpHeld.sc.captureFinish = s.sc.captureFinish ∧
    s.giveUpHeld.sc.captureFinishWaits = s.sc.captureFinishWaits ∧ s.giveUpHeld.sc.pace = s.sc.pace ∧
    s.giveUpHeld.sc.cue = s.sc.cue ∧ s.giveUpHeld.sc.closure = s.sc.closure ∧
    s.giveUpHeld.sc.started = s.sc.started ∧ s.giveUpHeld.li.reply = s.li.reply ∧
    s.giveUpHeld.li.processing = s.li.processing ∧ s.giveUpHeld.li.transaction = s.li.transaction ∧
    s.giveUpHeld.li.enables = s.li.enables ∧ s.giveUpHeld.pi.port = s.pi.port ∧
    s.giveUpHeld.pi.waiting = s.pi.waiting ∧ s.giveUpHeld.pi.filling = s.pi.filling ∧
    s.giveUpHeld.pi.serial = s.pi.serial ∧ s.giveUpHeld.me.motion = s.me.motion ∧ s.giveUpHeld.me.hint = s.me.hint ∧
    s.giveUpHeld.me.mode = s.me.mode ∧ s.giveUpHeld.me.predicted = s.me.predicted := by
  unfold State.giveUpHeld
  try dsimp only
  (repeat' split) <;> simp

@[simp] theorem State.finishArmed_parts (s : State) :
    s.finishArmed.sc.flags = s.sc.flags ∧ s.finishArmed.sc.masks = s.sc.masks ∧
    s.finishArmed.sc.progress = s.sc.progress ∧ s.finishArmed.sc.mark0 = s.sc.mark0 ∧
    s.finishArmed.sc.mark1 = s.sc.mark1 ∧ s.finishArmed.sc.markFinishWaits = s.sc.markFinishWaits ∧
    s.finishArmed.sc.capture = s.sc.capture ∧ s.finishArmed.sc.captureFinish = s.sc.captureFinish ∧
    s.finishArmed.sc.captureFinishWaits = s.sc.captureFinishWaits ∧ s.finishArmed.sc.pace = s.sc.pace ∧
    s.finishArmed.sc.cue = s.sc.cue ∧ s.finishArmed.sc.closure = s.sc.closure ∧
    s.finishArmed.sc.started = s.sc.started ∧ s.finishArmed.li.reply = s.li.reply ∧
    s.finishArmed.li.processing = s.li.processing ∧ s.finishArmed.li.transaction = s.li.transaction ∧
    s.finishArmed.li.enables = s.li.enables ∧ s.finishArmed.pi.port = s.pi.port ∧
    s.finishArmed.pi.waiting = s.pi.waiting ∧ s.finishArmed.pi.filling = s.pi.filling ∧
    s.finishArmed.pi.serial = s.pi.serial ∧ s.finishArmed.me.motion = s.me.motion ∧
    s.finishArmed.me.mode = s.me.mode ∧ s.finishArmed.me.predicted = s.me.predicted := by
  unfold State.finishArmed
  try dsimp only
  (repeat' split) <;> simp

@[simp] theorem State.finishSweep_parts (s : State) :
    s.finishSweep.sc.flags = s.sc.flags ∧ s.finishSweep.sc.masks = s.sc.masks ∧
    s.finishSweep.sc.progress = s.sc.progress ∧ s.finishSweep.sc.mark0 = s.sc.mark0 ∧
    s.finishSweep.sc.mark1 = s.sc.mark1 ∧ s.finishSweep.sc.markFinishWaits = s.sc.markFinishWaits ∧
    s.finishSweep.sc.capture = s.sc.capture ∧ s.finishSweep.sc.captureFinish = s.sc.captureFinish ∧
    s.finishSweep.sc.captureFinishWaits = s.sc.captureFinishWaits ∧ s.finishSweep.sc.pace = s.sc.pace ∧
    s.finishSweep.sc.cue = s.sc.cue ∧ s.finishSweep.sc.closure = s.sc.closure ∧
    s.finishSweep.sc.started = s.sc.started ∧ s.finishSweep.li.reply = s.li.reply ∧
    s.finishSweep.li.processing = s.li.processing ∧ s.finishSweep.li.transaction = s.li.transaction ∧
    s.finishSweep.li.enables = s.li.enables ∧ s.finishSweep.pi.port = s.pi.port ∧
    s.finishSweep.pi.waiting = s.pi.waiting ∧ s.finishSweep.pi.filling = s.pi.filling ∧
    s.finishSweep.pi.serial = s.pi.serial ∧ s.finishSweep.me.motion = s.me.motion ∧
    s.finishSweep.me.mode = s.me.mode ∧ s.finishSweep.me.predicted = s.me.predicted := by
  unfold State.finishSweep
  try dsimp only
  (repeat' split) <;> simp

@[simp] theorem State.takeWaitingFinish_parts (s : State) :
    s.takeWaitingFinish.sc.flags = s.sc.flags ∧ s.takeWaitingFinish.sc.masks = s.sc.masks ∧
    s.takeWaitingFinish.sc.progress = s.sc.progress ∧ s.takeWaitingFinish.sc.mark0 = s.sc.mark0 ∧
    s.takeWaitingFinish.sc.mark1 = s.sc.mark1 ∧ s.takeWaitingFinish.sc.captureFinish = s.sc.captureFinish ∧
    s.takeWaitingFinish.sc.pace = s.sc.pace ∧ s.takeWaitingFinish.sc.cue = s.sc.cue ∧
    s.takeWaitingFinish.sc.closure = s.sc.closure ∧ s.takeWaitingFinish.sc.started = s.sc.started ∧
    s.takeWaitingFinish.li.reply = s.li.reply ∧ s.takeWaitingFinish.li.processing = s.li.processing ∧
    s.takeWaitingFinish.li.transaction = s.li.transaction ∧ s.takeWaitingFinish.li.enables = s.li.enables ∧
    s.takeWaitingFinish.pi.port = s.pi.port ∧ s.takeWaitingFinish.pi.waiting = s.pi.waiting ∧
    s.takeWaitingFinish.pi.filling = s.pi.filling ∧ s.takeWaitingFinish.pi.serial = s.pi.serial ∧
    s.takeWaitingFinish.me.motion = s.me.motion ∧ s.takeWaitingFinish.me.mode = s.me.mode ∧
    s.takeWaitingFinish.me.predicted = s.me.predicted := by
  unfold State.takeWaitingFinish
  try dsimp only
  (repeat' split) <;> simp

@[simp] theorem State.dropWaitingFinish_parts (s : State) :
    s.dropWaitingFinish.sc.sweep = s.sc.sweep ∧ s.dropWaitingFinish.sc.flags = s.sc.flags ∧
    s.dropWaitingFinish.sc.masks = s.sc.masks ∧ s.dropWaitingFinish.sc.progress = s.sc.progress ∧
    s.dropWaitingFinish.sc.mark0 = s.sc.mark0 ∧ s.dropWaitingFinish.sc.mark1 = s.sc.mark1 ∧
    s.dropWaitingFinish.sc.captureFinish = s.sc.captureFinish ∧ s.dropWaitingFinish.sc.pace = s.sc.pace ∧
    s.dropWaitingFinish.sc.cue = s.sc.cue ∧ s.dropWaitingFinish.sc.closure = s.sc.closure ∧
    s.dropWaitingFinish.sc.started = s.sc.started ∧ s.dropWaitingFinish.sc.placed = s.sc.placed ∧
    s.dropWaitingFinish.sc.dropped = s.sc.dropped ∧ s.dropWaitingFinish.sc.setAside = s.sc.setAside ∧
    s.dropWaitingFinish.sc.last = s.sc.last := by
  unfold State.dropWaitingFinish
  try dsimp only
  (repeat' split) <;> simp

@[simp] theorem State.stopJob_parts (s : State) :
    s.stopJob.li.reply = s.li.reply ∧ s.stopJob.li.processing = s.li.processing ∧
    s.stopJob.li.transaction = s.li.transaction ∧ s.stopJob.li.enables = s.li.enables := by
  unfold State.stopJob State.endJob State.sendPort
  (repeat' split) <;> refine ⟨?_, ?_, ?_, ?_⟩ <;> rfl

@[simp] theorem State.endRollback_parts (s : State) (k : SlotId) (r : RollbackResult) :
    (s.endRollback k r).li.reply = s.li.reply ∧ (s.endRollback k r).li.processing = s.li.processing ∧
    (s.endRollback k r).li.transaction = s.li.transaction ∧ (s.endRollback k r).li.enables = s.li.enables := by
  unfold State.endRollback
  simp

@[simp] theorem State.stopContext_parts (s : State) :
    s.stopContext.sc.sweep = s.sc.sweep ∧ s.stopContext.sc.flags = s.sc.flags ∧ s.stopContext.sc.masks = s.sc.masks ∧
    s.stopContext.sc.progress = s.sc.progress ∧ s.stopContext.sc.mark0 = s.sc.mark0 ∧
    s.stopContext.sc.mark1 = s.sc.mark1 ∧ s.stopContext.sc.captureFinish = s.sc.captureFinish ∧
    s.stopContext.sc.pace = s.sc.pace ∧ s.stopContext.sc.cue = s.sc.cue ∧ s.stopContext.sc.closure = s.sc.closure ∧
    s.stopContext.sc.started = s.sc.started ∧ s.stopContext.sc.placed = s.sc.placed ∧
    s.stopContext.sc.dropped = s.sc.dropped ∧ s.stopContext.sc.setAside = s.sc.setAside ∧
    s.stopContext.sc.last = s.sc.last ∧ s.stopContext.li.reply = s.li.reply ∧
    s.stopContext.li.processing = s.li.processing ∧ s.stopContext.li.transaction = s.li.transaction ∧
    s.stopContext.li.enables = s.li.enables := by
  unfold State.stopContext
  try dsimp only
  (repeat' split) <;> simp

@[simp] theorem State.canvasEnd_parts (s : State) (p : Pass) :
    (s.canvasEnd p).sc.flags = s.sc.flags ∧ (s.canvasEnd p).sc.masks = s.sc.masks ∧
    (s.canvasEnd p).sc.progress = s.sc.progress ∧ (s.canvasEnd p).sc.mark0 = s.sc.mark0 ∧
    (s.canvasEnd p).sc.mark1 = s.sc.mark1 ∧ (s.canvasEnd p).sc.markFinishWaits = s.sc.markFinishWaits ∧
    (s.canvasEnd p).sc.capture = s.sc.capture ∧ (s.canvasEnd p).sc.captureFinish = s.sc.captureFinish ∧
    (s.canvasEnd p).sc.captureFinishWaits = s.sc.captureFinishWaits ∧ (s.canvasEnd p).sc.pace = s.sc.pace ∧
    (s.canvasEnd p).sc.cue = s.sc.cue ∧ (s.canvasEnd p).sc.closure = s.sc.closure ∧
    (s.canvasEnd p).sc.started = s.sc.started ∧ (s.canvasEnd p).li.reply = s.li.reply ∧
    (s.canvasEnd p).li.processing = s.li.processing ∧ (s.canvasEnd p).li.transaction = s.li.transaction ∧
    (s.canvasEnd p).li.enables = s.li.enables ∧ (s.canvasEnd p).pi.port = s.pi.port ∧
    (s.canvasEnd p).pi.waiting = s.pi.waiting ∧ (s.canvasEnd p).pi.filling = s.pi.filling ∧
    (s.canvasEnd p).pi.serial = s.pi.serial ∧ (s.canvasEnd p).me.motion = s.me.motion ∧
    (s.canvasEnd p).me.mode = s.me.mode ∧ (s.canvasEnd p).me.predicted = s.me.predicted := by
  unfold State.canvasEnd
  try dsimp only
  (repeat' split) <;> simp

@[simp] theorem State.markFinish_parts (s : State) :
    s.markFinish.sc.flags = s.sc.flags ∧ s.markFinish.sc.masks = s.sc.masks ∧
    s.markFinish.sc.progress = s.sc.progress ∧ s.markFinish.sc.mark0 = s.sc.mark0 ∧
    s.markFinish.sc.mark1 = s.sc.mark1 ∧ s.markFinish.sc.capture = s.sc.capture ∧
    s.markFinish.sc.captureFinish = s.sc.captureFinish ∧
    s.markFinish.sc.captureFinishWaits = s.sc.captureFinishWaits ∧ s.markFinish.sc.pace = s.sc.pace ∧
    s.markFinish.sc.cue = s.sc.cue ∧ s.markFinish.sc.closure = s.sc.closure ∧
    s.markFinish.sc.started = s.sc.started ∧ s.markFinish.li.reply = s.li.reply ∧
    s.markFinish.li.processing = s.li.processing ∧ s.markFinish.li.transaction = s.li.transaction ∧
    s.markFinish.li.enables = s.li.enables ∧ s.markFinish.pi.port = s.pi.port ∧
    s.markFinish.pi.waiting = s.pi.waiting ∧ s.markFinish.pi.filling = s.pi.filling ∧
    s.markFinish.pi.serial = s.pi.serial ∧ s.markFinish.me.motion = s.me.motion ∧ s.markFinish.me.mode = s.me.mode ∧
    s.markFinish.me.predicted = s.me.predicted ∧ s.markFinish.me.pass = s.me.pass := by
  unfold State.markFinish
  try dsimp only
  (repeat' split) <;> simp

@[simp] theorem State.markAction_parts (s : State) (a : MarkAction) :
    (s.markAction a).sc.flags = s.sc.flags ∧ (s.markAction a).sc.masks = s.sc.masks ∧
    (s.markAction a).sc.progress = s.sc.progress ∧ (s.markAction a).sc.mark0 = s.sc.mark0 ∧
    (s.markAction a).sc.mark1 = s.sc.mark1 ∧ (s.markAction a).sc.capture = s.sc.capture ∧
    (s.markAction a).sc.captureFinish = s.sc.captureFinish ∧
    (s.markAction a).sc.captureFinishWaits = s.sc.captureFinishWaits ∧ (s.markAction a).sc.pace = s.sc.pace ∧
    (s.markAction a).sc.closure = s.sc.closure ∧ (s.markAction a).sc.started = s.sc.started ∧
    (s.markAction a).li.reply = s.li.reply ∧ (s.markAction a).li.processing = s.li.processing ∧
    (s.markAction a).li.transaction = s.li.transaction ∧ (s.markAction a).li.enables = s.li.enables ∧
    (s.markAction a).pi.port = s.pi.port ∧ (s.markAction a).pi.waiting = s.pi.waiting ∧
    (s.markAction a).pi.filling = s.pi.filling ∧ (s.markAction a).pi.serial = s.pi.serial ∧
    (s.markAction a).me.motion = s.me.motion ∧ (s.markAction a).me.mode = s.me.mode ∧
    (s.markAction a).me.predicted = s.me.predicted ∧ (s.markAction a).me.pass = s.me.pass := by
  unfold State.markAction
  try dsimp only
  (repeat' split) <;> simp

@[simp] theorem State.evalMark_parts (s : State) (u : Bool) :
    (s.evalMark u).sc.flags = s.sc.flags ∧ (s.evalMark u).sc.masks = s.sc.masks ∧
    (s.evalMark u).sc.progress = s.sc.progress ∧ (s.evalMark u).sc.capture = s.sc.capture ∧
    (s.evalMark u).sc.captureFinish = s.sc.captureFinish ∧
    (s.evalMark u).sc.captureFinishWaits = s.sc.captureFinishWaits ∧ (s.evalMark u).sc.pace = s.sc.pace ∧
    (s.evalMark u).sc.closure = s.sc.closure ∧ (s.evalMark u).sc.started = s.sc.started ∧
    (s.evalMark u).li.reply = s.li.reply ∧ (s.evalMark u).li.processing = s.li.processing ∧
    (s.evalMark u).li.transaction = s.li.transaction ∧ (s.evalMark u).li.enables = s.li.enables ∧
    (s.evalMark u).pi.port = s.pi.port ∧ (s.evalMark u).pi.waiting = s.pi.waiting ∧
    (s.evalMark u).pi.filling = s.pi.filling ∧ (s.evalMark u).pi.serial = s.pi.serial ∧
    (s.evalMark u).me.motion = s.me.motion ∧ (s.evalMark u).me.mode = s.me.mode ∧
    (s.evalMark u).me.predicted = s.me.predicted ∧ (s.evalMark u).me.pass = s.me.pass := by
  unfold State.evalMark
  try dsimp only
  (repeat' split) <;> simp

@[simp] theorem State.detectClosure_parts (s : State) (v : Serial) (t : ClosureTest) :
    (s.detectClosure v t).sc.flags = s.sc.flags ∧ (s.detectClosure v t).sc.masks = s.sc.masks ∧
    (s.detectClosure v t).sc.progress = s.sc.progress ∧ (s.detectClosure v t).sc.mark0 = s.sc.mark0 ∧
    (s.detectClosure v t).sc.mark1 = s.sc.mark1 ∧ (s.detectClosure v t).sc.markFinishWaits = s.sc.markFinishWaits ∧
    (s.detectClosure v t).sc.capture = s.sc.capture ∧ (s.detectClosure v t).sc.captureFinish = s.sc.captureFinish ∧
    (s.detectClosure v t).sc.captureFinishWaits = s.sc.captureFinishWaits ∧
    (s.detectClosure v t).sc.pace = s.sc.pace ∧ (s.detectClosure v t).sc.cue = s.sc.cue ∧
    (s.detectClosure v t).sc.started = s.sc.started ∧ (s.detectClosure v t).li.reply = s.li.reply ∧
    (s.detectClosure v t).li.processing = s.li.processing ∧ (s.detectClosure v t).li.transaction = s.li.transaction ∧
    (s.detectClosure v t).li.enables = s.li.enables ∧ (s.detectClosure v t).pi.port = s.pi.port ∧
    (s.detectClosure v t).pi.waiting = s.pi.waiting ∧ (s.detectClosure v t).pi.filling = s.pi.filling ∧
    (s.detectClosure v t).pi.serial = s.pi.serial ∧ (s.detectClosure v t).me.motion = s.me.motion ∧
    (s.detectClosure v t).me.mode = s.me.mode ∧ (s.detectClosure v t).me.predicted = s.me.predicted ∧
    (s.detectClosure v t).me.pass = s.me.pass := by
  unfold State.detectClosure
  try dsimp only
  (repeat' split) <;> simp

@[simp] theorem State.closureResult_parts (s : State) (p : Pass) :
    (s.closureResult p).sc.flags = s.sc.flags ∧ (s.closureResult p).sc.masks = s.sc.masks ∧
    (s.closureResult p).sc.progress = s.sc.progress ∧ (s.closureResult p).sc.mark0 = s.sc.mark0 ∧
    (s.closureResult p).sc.mark1 = s.sc.mark1 ∧ (s.closureResult p).sc.markFinishWaits = s.sc.markFinishWaits ∧
    (s.closureResult p).sc.capture = s.sc.capture ∧ (s.closureResult p).sc.captureFinish = s.sc.captureFinish ∧
    (s.closureResult p).sc.captureFinishWaits = s.sc.captureFinishWaits ∧ (s.closureResult p).sc.pace = s.sc.pace ∧
    (s.closureResult p).sc.cue = s.sc.cue ∧ (s.closureResult p).sc.started = s.sc.started ∧
    (s.closureResult p).li.reply = s.li.reply ∧ (s.closureResult p).li.processing = s.li.processing ∧
    (s.closureResult p).li.transaction = s.li.transaction ∧ (s.closureResult p).li.enables = s.li.enables ∧
    (s.closureResult p).pi.port = s.pi.port ∧ (s.closureResult p).pi.waiting = s.pi.waiting ∧
    (s.closureResult p).pi.filling = s.pi.filling ∧ (s.closureResult p).pi.serial = s.pi.serial ∧
    (s.closureResult p).me.motion = s.me.motion ∧ (s.closureResult p).me.mode = s.me.mode ∧
    (s.closureResult p).me.predicted = s.me.predicted ∧ (s.closureResult p).me.pass = s.me.pass := by
  unfold State.closureResult
  try dsimp only
  (repeat' split) <;> simp

@[simp] theorem State.pushReport_parts (s : State) (p : Pass) :
    (s.pushReport p).sc.flags = s.sc.flags ∧ (s.pushReport p).sc.masks = s.sc.masks ∧
    (s.pushReport p).sc.capture = s.sc.capture ∧ (s.pushReport p).sc.captureFinish = s.sc.captureFinish ∧
    (s.pushReport p).sc.captureFinishWaits = s.sc.captureFinishWaits ∧ (s.pushReport p).sc.started = s.sc.started ∧
    (s.pushReport p).li.reply = s.li.reply ∧ (s.pushReport p).li.processing = s.li.processing ∧
    (s.pushReport p).li.transaction = s.li.transaction ∧ (s.pushReport p).li.enables = s.li.enables ∧
    (s.pushReport p).pi.port = s.pi.port ∧ (s.pushReport p).pi.waiting = s.pi.waiting ∧
    (s.pushReport p).pi.filling = s.pi.filling ∧ (s.pushReport p).pi.serial = s.pi.serial ∧
    (s.pushReport p).me.motion = s.me.motion ∧ (s.pushReport p).me.mode = s.me.mode ∧
    (s.pushReport p).me.predicted = s.me.predicted ∧ (s.pushReport p).me.pass = s.me.pass := by
  unfold State.pushReport
  simp

end Sys2Proof.Machine
end

