-- ==== Sys2Proof/Laws/Table.lean ====
section
/-! SUPPORT. What a record put back changes in the Landmark Table, what a sighting does to a frozen landmark (R35, R43,
R44), and how a save begins (R173). -/

namespace Sys2Proof.Machine

@[simp] theorem Table.put_keeps (t : Table) (i : Nat) (r : Landmark) :
    (t.put i r).bins = t.bins ∧ (t.put i r).live = t.live ∧ (t.put i r).pinned = t.pinned ∧
    (t.put i r).origin = t.origin ∧ (t.put i r).regionClaims = t.regionClaims ∧
    (t.put i r).entries.length = t.entries.length :=
  ⟨rfl, rfl, rfl, rfl, rfl, by simp [Table.put]⟩

theorem Table.put_lm_other (t : Table) {i j : Nat} (r : Landmark) (h : j ≠ i) : (t.put i r).lm j = t.lm j := by
  simp [Table.lm, Table.put, Ne.symm h]

theorem Table.put_lm_same (t : Table) {i : Nat} (r old : Landmark) (h : t.lm i = some old) :
    (t.put i r).lm i = some r := by
  unfold Table.lm at h
  cases e : t.entries[i]? with
  | none => simp [e] at h
  | some k => simp [Table.lm, Table.put, e]

@[simp] theorem Table.put_gen (t : Table) (i j : Nat) (r : Landmark) : (t.put i r).gen j = t.gen j := by
  by_cases h : j = i
  · subst h
    cases e : t.entries[j]? <;> simp [Table.gen, Table.put, e]
  · simp [Table.gen, Table.put, Ne.symm h]

/-- A refinement is made only of a TENTATIVE or TRACKED landmark (R43). -/
theorem Landmark.refined_frozen (r : Landmark) (g : Geometry) (x y : Int)
    (h : r.state = .anchored ∨ r.state = .fading) : r.refined g x y = (r.x, r.y) := by
  unfold Landmark.refined
  rcases h with h | h <;> rw [h]

/-- A hit on a frozen landmark puts its record back and moves nothing (R35, R43). -/
theorem Table.applyHit_frozen (t : Table) (g : Geometry) (n : Nat) (v : Serial) (c : UpdateClaim) (r : Landmark)
    (h : r.state = .anchored ∨ r.state = .fading) :
    t.applyHit g n v c r = t.put c.index (r.hit g n v c.x c.y) := by
  unfold Table.applyHit
  exact if_pos (congrArg Prod.fst (r.refined_frozen g c.x c.y h))

/-- Where the quiet point holds a save begins with its copy phase, and otherwise with the quiet wait (R173). -/
theorem State.beginSave_quiet (s : State) (k : SlotId) (h : s.quietPoint = true) : s.beginSave k = s.beginCopy k :=
  if_pos h

theorem State.beginSave_waits (s : State) (k : SlotId) (h : s.quietPoint = false) : s.beginSave k = s.beginWait k :=
  if_neg (ne_true_of_eq_false h)

end Sys2Proof.Machine
end

