-- ==== Sys2Proof/Tests/Slice0.lean ====
section
/-! SUPPORT. Small tests: the well-formedness smoke, one step per command on small states, the manual's worked examples, and
for every statement a state that meets its hypotheses, clause by clause. -/

set_option Elab.async false

namespace Sys2Proof.Tests

open Sys2Proof.Machine

/-! ### Small states -/

/-- What a step answers satisfies `f`. -/
def after (i : Instr) (s : State) (f : State → Bool) : Bool :=
  match exec i s with
  | .next t => f t
  | .fault _ => false
  | .refused _ => false

/-- A host command whose parameters stand in a transaction of their own answers with this reply. -/
def replies (i : Instr) (s : State) (r : Reply) : Bool := after i s fun t => decide (t.li.reply = r)

def refused (r : Reason) : Reply := ⟨.refused, [byteOf r.code]⟩

abbrev r0 : State := State.reset

def withSweep (x : SweepState) (s : State := State.reset) : State := { s with sc := { s.sc with sweep := x } }

def heldBy (c : Condition) : State :=
  { State.reset with sc := { State.reset.sc with sweep := .held c, flags := c.mask } }

/-- The reset state with this memory map and the smallest configuration. -/
def small : State :=
  { State.reset with
    geo := ⟨2048, 512, 512, 384, .east, 0, 0⟩
    bu := { State.reset.bu with coverage := List.replicate 64 .blank }
    ltc := { State.reset.ltc with bins := List.replicate 32 [] } }

def noMemory : State := { State.reset with ma := { State.reset.ma with dies := 0#4 } }

def withBank0 (k : Bank) (s : State) : State := { s with pi := { s.pi with banks := { s.pi.banks with b0 := k } } }

def bankIn (st : BankState) (v : Serial) : Bank := { Bank.empty with state := st, serial := some v }

def withPass (p : Pass) (s : State) : State := { s with me := { s.me with pass := some p } }

def withOp (op : ContextOp) (s : State) : State := { s with cx := { s.cx with op := op } }

/-- A gap of frame 1, with the word that was read while CW/64 stood as it stands. -/
def withGap (w : Option Word32) (s : State) : State :=
  { s with dr := { s.dr with enabled := true, gap := some ⟨1#16, w.map fun w => ⟨w, s.geo.nBins⟩⟩ } }

def passAt (st : Stage) : Pass := Pass.fresh 1#16 .b0 [] st

/-- A sweep whose frame 1 stands in bank 0 MATCHING with its pass at `st`. -/
def matching (st : Stage) (s : State := withSweep .sweeping) : State :=
  withPass (passAt st) (withBank0 (bankIn .matching 1#16) s)

def plainLandmark (st : LandmarkState) : Landmark := ⟨st, false, false, 1800, 400, 0#64, 500, 3, 0, 1#16, 1#16, 7, false⟩

/-- A table with one landmark, in entry 0 and in the list of its bin. -/
def withLandmark (r : Landmark) (s : State) : State :=
  { s with ltc := { s.ltc with
    entries := ⟨0#4, some r⟩ :: s.ltc.entries.tail
    bins := s.ltc.bins.modify r.bin fun _ => [0]
    live := 1
    pinned := r.pinned.toNat
    origin := r.origin.toNat } }

def record (v : Serial) (st : PlacementState) (owned : Nat := 0) : Placement :=
  ⟨v, st, .matched, 1000, 404, 6, 0, 51, 717, false, false, false, owned, some ⟨250, 101, none⟩⟩

def withWindow (l : List Placement) (s : State) : State := { s with pw := l }

def blendAt (st : BlendStage) : BlendPass := ⟨1#16, .b0, 32, 0, 0, ⟨0, 0, 64⟩, st⟩

def blending (st : BlendStage) (s : State := withSweep .sweeping small) : State :=
  let s := withWindow [record 1#16 .blending] (withBank0 (bankIn .blending 1#16) s)
  { s with bu := { s.bu with pass := some (blendAt st) } }

/-! ### Well-formedness: an operand that no transaction can hold is refused -/

theorem test_host_command_of_81_parameter_bytes_is_ill_formed :
    (Instr.nop (List.replicate 81 0#8)).wellFormed = false ∧
      (Instr.writeDirectives (List.replicate 81 0#8)).wellFormed = false := by decide

theorem test_resume_of_80_bytes_after_its_mode_is_ill_formed :
    (Instr.resumePlace (List.replicate 80 0#8)).wellFormed = false ∧
      (Instr.resumeRollback (List.replicate 80 0#8)).wellFormed = false := by decide

theorem test_operands_of_one_transaction_are_well_formed :
    (Instr.setParameters (List.replicate 32 0#8)).wellFormed = true ∧
      (Instr.nop (List.replicate 80 0#8)).wellFormed = true ∧
      (Instr.resumeAccept (List.replicate 79 0#8)).wellFormed = true ∧
      Instr.powerOn.wellFormed = true := by decide

/-! ### Words written out from the manual's formats -/

/-- NEXT 500 is kind 2 with p in bits 9 to 0; MARK unit 1, CUE_TOGGLE, 1000 sets bit 27, 3 in bits 26 to 24; HINT (−3, 5)
is 0xFFD in bits 27 to 16 and 5 in bits 15 to 8; RETIRE REGION 4, 9; BLEND code 3; kind 12 and a stray bit fault. -/
theorem test_directive_words :
    decodeDirective 128 0x200001F4#32 = some (.next 500) ∧
      decodeDirective 128 0x7B0003E8#32 = some (.mark true .cueToggle 1000) ∧
      decodeDirective 128 0x5FFD0500#32 = some (.hint (-3) 5) ∧
      decodeDirective 128 0x80400009#32 = some (.retireRegion 4 9) ∧
      decodeDirective 128 0x90000003#32 = some (.blend 32) ∧
      decodeDirective 128 0x600000A5#32 = some (.masks 0xA5#8) ∧
      decodeDirective 128 0xC0000000#32 = none ∧ decodeDirective 128 0x10000001#32 = none ∧
      decodeDirective 128 0x88000001#32 = none := by decide

theorem test_command_codes :
    linkTake 0x20 [0#8] = .take .arm [0#8] ∧ linkTake 0x23 [2#8, 7#8] = .take .resumePlace [7#8] ∧
      linkTake 0x06 [] = .refuse .unknownCommand ∧ linkTake 0x23 [4#8] = .refuse .badValue ∧
      linkTake 0x23 [4#8, 0#8, 0#8] = .refuse .badValue ∧ linkTake 0x23 [] = .refuse .badLength := by decide

theorem test_no_word_spells_a_row (nbits w : Nat) : decodeTableWord nbits w = none := rfl

/-! ### The manual's worked numbers -/

/-- Chapter 1: with 32 MiB and the defaults the canvas is 15,728,640 bytes and the banks 1,179,648 each. -/
theorem test_default_layout :
    Geometry.default.canvasSize = 15728640 ∧ Geometry.default.bankSize = 1179648 ∧
      presentBytes 3#4 = 33554432 ∧ presentBytes 15#4 = 67108864 ∧ presentBytes 5#4 = 0 ∧
      State.reset.directiveBase = 33533952 ∧ State.reset.bankBase .b2 = 29995008 := by decide

theorem test_rounding_goes_away_from_zero :
    roundDiv 1202 4 = 301 ∧ roundDiv (-2) 4 = -1 ∧ roundDiv 1 4 = 0 ∧ roundDiv 6130 3 = 2043 ∧ roundDiv 7208 4 = 1802 ∧
      roundDiv 9604 4 = 2401 := by decide

/-- Section 4.9: from (202, 800, 400) and (203, 1000, 404) frame 204 is predicted at (1200, 408). -/
theorem test_prediction : predictFrom .locked 204#16 [⟨203#16, 1000, 404⟩, ⟨202#16, 800, 400⟩] = (1200, 408) := by decide

/-- Section 4.9: votes 8, 0, 2, 3, 6 and 9 elect (1200, 406), with mean (1202, 405). -/
theorem test_winning_vote :
    winningVote (1200, 408) [(1203, 405), (1198, 409), (1201, 404), (1260, 420), (1205, 407), (1200, 406), (1207, 401)] =
        some (1200, 406) ∧
      clusterMean [(1200, 406), (1203, 405), (1198, 409), (1201, 404), (1205, 407), (1207, 401)] = (1202, 405) := by decide

/-- Section 8.6: the join of origin luma 100 with late luma 124 over 32 columns. -/
theorem test_join_values : joined 32 0 124 100 = 124 ∧ joined 32 16 124 100 = 112 ∧ joined 32 31 124 100 = 100 := by decide

/-- Section 3.11, step 3: 17 becomes ANCHORED at (1802, 2401) with 4 hits. -/
theorem test_hit_refines :
    ((⟨.tracked, false, false, 1800, 2400, 0#64, 0, 3, 0, 1#16, 119#16, 23, false⟩ : Landmark).hit Geometry.default 4
      120#16 1808 2404) = ⟨.anchored, false, false, 1802, 2401, 0#64, 0, 4, 0, 1#16, 120#16, 23, true⟩ := by decide

/-- Section 3.11, step 7, and the other rows of R45. -/
theorem test_misses :
    (⟨.tentative, false, false, 0, 0, 0#64, 0, 1, 2, 0#16, 0#16, 0, false⟩ : Landmark).missed 3 = none ∧
      ((⟨.tentative, true, false, 0, 0, 0#64, 0, 1, 2, 0#16, 0#16, 0, false⟩ : Landmark).missed 3).map (·.state) =
        some .fading ∧
      ((⟨.fading, false, false, 0, 0, 0#64, 0, 1, 4, 0#16, 0#16, 0, false⟩ : Landmark).missed 3).map (·.misses) = some 5 ∧
      (⟨.fading, false, false, 0, 0, 0#64, 0, 1, 5, 0#16, 0#16, 0, false⟩ : Landmark).missed 3 = none := by decide

/-- The eviction example: with the current serial 121, entry 130 (first seen 97) goes before 88 (first seen 102), and
both before 12 (strength 410). -/
theorem test_eviction_order :
    Landmark.weaker 121#16 ⟨.tentative, false, false, 0, 0, 0#64, 405, 1, 0, 97#16, 97#16, 0, false⟩
        ⟨.tentative, false, false, 0, 0, 0#64, 405, 1, 0, 102#16, 102#16, 0, false⟩ = true ∧
      Landmark.weaker 5#16 ⟨.tentative, false, false, 0, 0, 0#64, 405, 1, 0, 65530#16, 97#16, 0, false⟩
        ⟨.tentative, false, false, 0, 0, 0#64, 405, 1, 0, 2#16, 102#16, 0, false⟩ = true ∧
      Landmark.weaker 121#16 ⟨.tentative, false, false, 0, 0, 0#64, 410, 1, 0, 95#16, 95#16, 0, false⟩
        ⟨.tentative, false, false, 0, 0, 0#64, 405, 1, 0, 102#16, 102#16, 0, false⟩ = false := by decide

/-- R180's table of restored states, with ANCHOR_HITS 4 and MISS_LIMIT 3. -/
theorem test_restored_states :
    (⟨false, false, 0, 0, 0#64, 0, 2, 3, 0#16, 0#16, 0, 0⟩ : ImageLandmark).restoredState 4 3 = some .fading ∧
      (⟨false, false, 0, 0, 0#64, 0, 4, 2, 0#16, 0#16, 0, 0⟩ : ImageLandmark).restoredState 4 3 = some .anchored ∧
      (⟨false, false, 0, 0, 0#64, 0, 3, 2, 0#16, 0#16, 0, 0⟩ : ImageLandmark).restoredState 4 3 = some .tracked ∧
      (⟨true, false, 0, 0, 0#64, 0, 1, 3, 0#16, 0#16, 0, 0⟩ : ImageLandmark).restoredState 4 3 = some .fading ∧
      (⟨false, false, 0, 0, 0#64, 0, 1, 3, 0#16, 0#16, 0, 0⟩ : ImageLandmark).restoredState 4 3 = none ∧
      (⟨false, false, 0, 0, 0#64, 0, 1, 2, 0#16, 0#16, 0, 0⟩ : ImageLandmark).restoredState 4 3 = some .tentative := by decide

/-- R110: FEATHER 32 with overlap 39 gives 16, with 40 gives 32, with 7 gives 0; the origin and a GAP record take 0. -/
theorem test_feather_used :
    featherFor .matched false 32 (some 39) = 16 ∧ featherFor .matched false 32 (some 40) = 32 ∧
      featherFor .matched false 32 (some 7) = 0 ∧ featherFor .origin false 32 (some 400) = 0 ∧
      featherFor .host true 32 (some 400) = 0 ∧ featherFor .matched false 32 none = 0 := by decide

theorem test_gain : gainOf 0 0 = 128 ∧ gainOf 100 100 = 64 ∧ gainOf 1000 100 = 128 ∧ gainOf 1 100 = 32 := by decide

theorem test_block_schedule : blockSchedule 0 768 = List.range 24 ∧ blockSchedule 20 40 = [0, 1] ∧
    blockSchedule 40 40 = [] := by decide

/-! ### One step of each command -/

theorem test_resets :
    (after .powerOn r0 fun t => t.ma.sensing = some .powerOn ∧ t.ma.dies = 0#4 ∧ t.mem.epoch = 1) = true ∧
      (after .resetNAssert r0 fun t => t.ma.resetLow && decide (t.ma.sensing = some .pin)) = true ∧
      (after .resetNRises { r0 with ma := { r0.ma with resetLow := true } } fun t => !t.ma.resetLow) = true := by decide +kernel

theorem test_sensing_records_the_map :
    (after (.dieSensingComplete 15#4) { r0 with ma := ⟨0#4, .link, false, some .pin, false⟩ } fun t =>
      t.ma.dies = 15#4 ∧ t.li.reply = ⟨.resetDone, [2#8]⟩) = true := by decide +kernel

theorem test_reset_command_keeps_a_due_refresh :
    (after (.reset []) { r0 with ma := { r0.ma with refreshDue := true } } fun t =>
      t.ma.refreshDue ∧ t.li.reply = ⟨.resetDone, [3#8]⟩) = true := by decide +kernel

theorem test_slots :
    (after .refreshDue r0 fun t => t.ma.refreshDue) = true ∧
      (after .firstSlot { r0 with pi := { r0.pi with waiting := [(5, 7#8)] } } fun t =>
        t.mem.cells = [(5, 7#8)] ∧ t.pi.waiting = []) = true ∧
      (after .firstSlot { r0 with ma := { r0.ma with refreshDue := true } } fun t => !t.ma.refreshDue) = true ∧
      (after .secondSlot { r0 with li := { r0.li with processing := some (.linkWrite 0 [1#8, 2#8, 3#8, 4#8]) } } fun t =>
        t.mem.cells = [(33533952, 1#8), (33533953, 2#8), (33533954, 3#8), (33533955, 4#8)] ∧
          t.li.reply = ⟨.done, []⟩ ∧ t.ma.rotation = .link) = true := by decide +kernel

theorem test_transactions :
    (after .transactionStart r0 fun t => t.li.transaction = some ⟨.resetDone, [1#8]⟩ ∧ t.li.reply = ⟨.done, []⟩) = true ∧
      (after (.transactionEnd [0x12#8, 1#8, 0xF0#8, 0#8])
        { r0 with li := { r0.li with transaction := some ⟨.done, []⟩ } } fun t =>
          t.li.processing = some (.taken .setMasks [0xF0#8]) ∧ t.li.transaction = none) = true := by decide +kernel

theorem test_reads :
    replies (.nop []) r0 ⟨.done, []⟩ = true ∧
      replies (.readIdentity []) r0 ⟨.done, [0x2C#8, 0x41#8, 1#8, 1#8, 3#8]⟩ = true ∧
      (after (.readStatus []) r0 fun t => t.li.reply.data.length == 59) = true ∧
      (after (.readCapture []) r0 fun t => t.li.reply.data.length == 9) = true ∧
      (after (.readClosure []) r0 fun t => t.li.reply.data.length == 18) = true ∧
      (after (.readSlots []) r0 fun t => t.li.reply.data.length == 12) = true ∧
      (after (.readCoverage [0#8, 0#8, 4#8]) r0 fun t => t.li.reply.data.length == 9) = true := by decide +kernel

theorem test_landmark_reads :
    replies (.readLandmark [0#8]) r0 (refused .emptyEntry) = true ∧
      (after (.readLandmark [0#8]) (withLandmark (plainLandmark .tracked) r0) fun t => t.li.reply.data.length == 27) =
        true ∧
      replies (.findLandmarks [7#8]) (withLandmark (plainLandmark .tracked) r0) ⟨.done, [1#8, 0#8, 2#8, 0#8]⟩ = true ∧
      replies (.examineLandmark [0#8]) (withLandmark (plainLandmark .fading) r0) ⟨.done, [4#8, 0#8, 1#8]⟩ = true := by
  decide +kernel

theorem test_placement_reads :
    (after (.readPlacement [0#8, 0#8]) (withWindow [record 1#16 .blended] r0) fun t =>
      t.li.reply.data.length == 23) = true ∧
      (after (.readPlacement [0#8, 1#8]) (withWindow [record 1#16 .blended] r0) fun t =>
        t.li.reply.data.length == 18) = true ∧
      replies (.readPlacement [1#8, 0#8]) (withWindow [record 1#16 .blended] r0) (refused .emptyEntry) = true := by decide +kernel

theorem test_events :
    (after (.readEvents []) { r0 with li := { r0.li with events := 5#14, enables := 1#14, attn := true } } fun t =>
      t.li.events = 0#14 ∧ t.li.attn = false ∧ t.li.reply = ⟨.done, [5#8, 0#8]⟩) = true ∧
      (after (.setEventEnables [4#8, 0#8]) { r0 with li := { r0.li with events := 4#14 } } fun t => t.li.attn) = true ∧
      replies (.setEventEnables [0#8, 64#8]) r0 (refused .badValue) = true := by decide +kernel

theorem test_masks_and_flags :
    (after (.setMasks [0x0F#8]) r0 fun t => t.sc.masks = 0x0F#8) = true ∧
      (after (.clearConditions []) { heldBy .speed with sc := { (heldBy .speed).sc with flags := 0xFF#8 } } fun t =>
        t.sc.flags = 16#8) = true := by decide +kernel

theorem test_configure :
    (after (.configure [0#8, 8#8, 0#8, 2#8, 0#8, 2#8, 0x80#8, 1#8]) r0 fun t =>
      t.geo.cw = 2048 ∧ t.geo.ch = 512 ∧ t.geo.fw = 512 ∧ t.geo.fh = 384 ∧ t.bu.coverage.length = 64 ∧
        t.ltc.bins.length = 32) = true ∧
      replies (.configure [1#8, 8#8, 0#8, 2#8, 0#8, 2#8, 0x80#8, 1#8]) r0 (refused .badValue) = true := by decide +kernel

theorem test_set_parameters :
    (after (.setParameters [10#8, 0#8, 24#8, 0#8, 6#8, 0#8, 4#8, 0#8, 3#8, 0#8, 3#8, 0#8, 8#8, 0#8, 16#8, 0#8, 128#8, 0#8,
      0#8, 1#8, 64#8, 0#8, 0x90#8, 1#8, 24#8, 0#8, 0#8, 0#8, 8#8, 0#8, 32#8, 0#8]) r0 fun t =>
        t.prm.feather = 64 ∧ t.prm.cornerMin = 400 ∧ t.prm.closeEnable = false) = true := by decide +kernel

theorem test_arm :
    (after (.arm [0#8, 64#8, 0#8, 0#8, 1#8]) r0 fun t =>
      t.sc.sweep = .armed ∧ t.geo.startCol = 64 ∧ t.geo.startRow = 256 ∧ t.bu.commitLine = -32) = true ∧
      replies (.arm [1#8, 64#8, 0#8, 0#8, 0#8]) r0 (refused .badValue) = true := by decide +kernel

theorem test_finish_and_abort :
    (after (.finish []) (withSweep .sweeping) fun t => t.sc.sweep = .closing) = true ∧
      (after (.finish []) (withSweep .armed) fun t => t.sc.sweep = .finished ∧ t.li.events = 4#14) = true ∧
      (after (.abort []) (withSweep .sweeping) fun t => t.li.processing = some .aborting) = true ∧
      (after .abortClearStep { withSweep .sweeping with li := { r0.li with processing := some .aborting } } fun t =>
        t.sc.sweep = .idle ∧ t.li.events = 8#14 ∧ t.li.reply = ⟨.done, []⟩) = true := by decide +kernel

theorem test_release :
    (after (.release []) (withSweep .finished) fun t => t.sc.sweep = .idle) = true ∧
      replies (.release []) r0 (refused .wrongState) = true := by decide +kernel

theorem test_resume :
    (after (.resumeAccept []) (matching .judgeHeld (heldBy .reversal)) fun t =>
      t.sc.sweep = .sweeping ∧ t.sc.last.outcome = .reversed ∧ t.sc.setAside = 1#32) = true ∧
      (after (.resumeSkip []) (matching .pushHeld (heldBy .windowOverflow)) fun t =>
        t.sc.last.outcome = .discarded ∧ (t.bank .b0).state = .free) = true ∧
      replies (.resumePlace [0#8, 0#8, 0#8]) (heldBy .reversal) (refused .wrongState) = true ∧
      (after (.resumeRollback [1#8]) (heldBy .lost) fun t =>
        t.cx.op = .verify .s1 ∧ t.sc.sweep = .held .lost ∧ t.li.reply = ⟨.accepted, []⟩) = true := by decide +kernel

theorem test_resume_place_judges_anew :
    (after (.resumePlace [50#8, 0#8, 1#8]) (withWindow [record 9#16 .blended]
      { matching .judgeHeld (heldBy .lost) with me := { (matching .judgeHeld).me with motion := [⟨9#16, 1000, 404⟩] } })
      fun t => t.me.mode = .locked ∧ t.me.motion = [⟨1#16, 1200, 408⟩, ⟨9#16, 1000, 404⟩] ∧
        (t.me.pass.map fun p => (p.stage, p.how, p.step)) = some (.push false, .host, 50)) = true := by decide +kernel

theorem test_hint_and_marks :
    (after (.hint [0xFD#8, 0xFF#8, 5#8]) (withSweep .armed) fun t => t.me.hint = some ⟨-3, 5, none⟩) = true ∧
      (after (.setMark [1#8, 3#8, 0xE8#8, 3#8]) r0 fun t => t.sc.mark1 = ⟨1000, .cueToggle, true⟩) = true ∧
      (after (.setCaptureAction [1#8]) r0 fun t => t.sc.captureFinish) = true := by decide +kernel

theorem test_shutter :
    (after .shutterEdge { withSweep .sweeping with sc := { (withSweep .sweeping).sc with captureFinish := true } } fun t =>
      t.sc.sweep = .closing ∧ t.sc.capture.result = .taken ∧ t.sc.capture.unread) = true ∧
      (after .shutterEdge r0 fun t => t.li.events = 0#14) = true := by decide +kernel

theorem test_landmark_changes :
    (after (.pinLandmark [0#8, 0#8]) (withLandmark (plainLandmark .tracked) r0) fun t => t.ltc.pinned == 1) = true ∧
      (after (.unpinLandmark [0#8, 0#8]) (withLandmark { plainLandmark .tracked with pinned := true } r0) fun t =>
        t.ltc.pinned == 0) = true ∧
      (after (.retireLandmark [0#8, 0#8]) (withLandmark (plainLandmark .tracked) r0) fun t =>
        t.ltc.live == 0 && decide (t.ltc.gen 0 = 1#4)) = true ∧
      replies (.retireRegion [7#8, 1#8, 0#8]) (withLandmark (plainLandmark .tracked) r0) ⟨.done, [1#8, 0#8]⟩ = true ∧
      (after .retireRegionClaim (withLandmark (plainLandmark .tracked)
        { r0 with ltc := { r0.ltc with regionClaims := [(7, 1)] } }) fun t => t.ltc.live == 0) = true := by decide +kernel

theorem test_directive_memory :
    (after (.writeDirectives [1#8, 0#8, 1#8, 2#8, 3#8, 4#8]) r0 fun t =>
      t.li.processing = some (.linkWrite 1 [1#8, 2#8, 3#8, 4#8])) = true ∧
      (after (.readDirectives [1#8, 0#8, 2#8]) r0 fun t => t.li.processing = some (.linkRead 1 2)) = true ∧
      (after (.setList [10#8, 0#8, 1#8]) r0 fun t => t.dr.startPtr = 10 ∧ t.dr.enabled) = true := by decide +kernel

theorem test_checkpoints :
    (after (.checkpoint [1#8]) (withSweep .sweeping) fun t => t.cx.op = .copy .s1 0#16 ∧ t.cx.slot1.state = .saving) =
        true ∧
      (after (.checkpoint [1#8]) (withWindow [record 1#16 .placed] (withSweep .sweeping)) fun t =>
        t.cx.op = .quiet .s1 ∧ t.cx.slot1.state = .saving) = true ∧
      replies (.rollback [0#8]) (withSweep .sweeping) (refused .slotEmpty) = true ∧
      (after .verifyEnd (withOp (.verify .s0) (withSweep .sweeping)) fun t =>
        t.cx.lastResult = .slotEmpty ∧ t.li.events = 64#14) = true := by decide +kernel

/-- Every byte of the image moved. -/
def copied (s : State) : State := { s with cx := { s.cx with moved := 8192 } }

/-- A save completes once its image is moved, and waits before. -/
theorem test_save_complete :
    (after .saveComplete (copied (withOp (.copy .s0 7#16) r0)) fun t =>
      t.cx.slot0.state = .valid ∧ t.cx.slot0.saveSerial = some 7#16 ∧ t.li.events = 32#14) = true ∧
      (after .saveComplete (withOp (.copy .s0 7#16) r0) fun t => t.cx.op = .copy .s0 7#16) = true := by
  constructor
  · show (match execSaveComplete (copied (withOp (.copy .s0 7#16) r0)) with
      | .next t => decide (t.cx.slot0.state = .valid ∧ t.cx.slot0.saveSerial = some 7#16 ∧ t.li.events = 32#14)
      | .fault _ => false
      | .refused _ => false) = true
    rw [execSaveComplete_moved _ .s0 7#16 rfl (by decide)]
    decide +kernel
  · have h : (withOp (.copy .s0 7#16) r0).contextWaits = true := by
      show (!(withOp (.copy .s0 7#16) r0).imageMoved) = true
      rw [State.imageMoved_start _ rfl]
      rfl
    show (match execSaveComplete (withOp (.copy .s0 7#16) r0) with
      | .next t => decide (t.cx.op = .copy .s0 7#16)
      | .fault _ => false
      | .refused _ => false) = true
    have e : execSaveComplete (withOp (.copy .s0 7#16) r0) = .next (withOp (.copy .s0 7#16) r0) :=
      congrArg Host.Outcome.next (if_pos h)
    rw [e]
    decide

theorem test_export :
    (after (.exportStart [0#8, 0#8, 8#8, 0#8, 0#8, 0#8, 8#8, 0#8, 1#8, 0#8]) r0 fun t =>
      t.eu.state = .running ∧ t.eu.columns.length = 8 ∧ t.port = [PortEvent.frameStart]) = true ∧
      replies (.exportStop []) r0 (refused .wrongState) = true ∧
      (after .exportLine { r0 with eu := ⟨.stopping, false, false, [(0, 0), (1, 0)], 0, 4, 0, .none, true, [], none⟩ } fun t =>
        t.port = [PortEvent.line [16#8, 16#8] [(128#8, 128#8)], PortEvent.frameEnd] ∧ t.eu.result = .stopped) = true := by
  decide +kernel

theorem test_intake :
    (after .frameStart (withSweep .armed) fun t => t.pi.port = some .b0 ∧ t.pi.serial = 1#16 ∧ t.sc.started = 1#32) = true ∧
      (after .frameStart (heldBy .lost) fun t => t.sc.last.outcome = .droppedHeld ∧ t.sc.dropped = 1#32) = true ∧
      (after (.line [1#8, 2#8] []) (withBank0 (bankIn .filling 1#16) { withSweep .sweeping with
        pi := { r0.pi with port := some .b0 } }) fun t => (t.bank .b0).lineCount = 1 ∧ (t.bank .b0).damaged ∧
          t.pi.waiting = [] ∧ t.pi.filling = [(32354304, 1#8), (32354305, 2#8)]) = true ∧
      (after (.line (List.replicate 65 9#8) []) (withBank0 (bankIn .filling 1#16) { withSweep .sweeping with
        pi := { r0.pi with port := some .b0 } }) fun t => t.pi.waiting.length = 64 ∧ t.pi.filling = [(32354368, 9#8)] ∧
          t.mem.cells = []) = true ∧
      (after .frameEnd (withBank0 (bankIn .filling 1#16) { withSweep .sweeping with
        pi := { r0.pi with port := some .b0 } }) fun t => t.sc.last.outcome = .damaged ∧ t.pi.port = none) = true := by
  decide +kernel

theorem test_pass_begins :
    (after .matchBankTake (withBank0 (bankIn .queued 1#16) { withSweep .armed with pi := { r0.pi with queue := [.b0] } })
      fun t => t.me.pass.map (·.how) = some .origin ∧ (t.bank .b0).state = .matching ∧ t.pi.queue = []) = true ∧
      (after .solve (matching .solve) fun t => t.me.pass.map (·.stage) = some .judge) = true ∧
      (after .lookup (withPass { passAt (.lookup 0 false) with cands := [PassCand.fresh ⟨0, 6, 6, 500, 0#64⟩] } r0) fun t =>
        t.me.pass.map (·.stage) = some .solve) = true := by decide +kernel

theorem test_judge :
    (after .judge { matching .judge with me := { (matching .judge).me with mode := .searching } } fun t =>
      t.sc.last.outcome = .unplaced ∧ t.me.pass = none) = true ∧
      (after .judge (matching .judge) fun t => t.sc.flags = 1#8 ∧ t.me.mode = .coasting) = true := by decide +kernel

theorem test_push :
    (after .push (matching (.push false) (withSweep .sweeping)) fun t =>
      t.pw.length = 1 ∧ (t.bank .b0).state = .placed ∧ t.sc.placed = 1#32 ∧ t.sc.progress = 768) = true := by decide +kernel

theorem test_batch :
    (after .footprintRead (matching .footprint) fun t => t.me.pass.map (·.stage) = some .opening) = true ∧
      (after .batchOpening (matching .opening) fun t => t.me.pass.map (·.stage) = some .report) = true ∧
      (after .staleCountClaim (matching .report) fun t => t.me.pass = none) = true := by decide +kernel

def claims : Pass :=
  { passAt (.batch false) with sights := [(.hit, ⟨0, 0#4, 1808, 404⟩)], misses := [⟨0, 0#4, 0, 0⟩] }

def reviving : Pass := { claims with sights := [(.revive, ⟨0, 0#4, 0, 0⟩), (.hit, ⟨1, 0#4, 1808, 404⟩)] }

theorem test_update_claims :
    (after .hitClaim (withPass claims (withLandmark (plainLandmark .tracked) r0)) fun t =>
      (t.ltc.lm 0).map (fun r => (r.x, r.y, r.hits, r.state)) = some (1802, 401, 4, .anchored)) = true ∧
      (after .reviveClaim (withPass reviving (withLandmark (plainLandmark .fading) r0)) fun t =>
        (t.ltc.lm 0).map (fun r => (r.x, r.state)) = some (1800, .anchored)) = true ∧
      (after .missClaim (withPass { claims with sights := [] } (withLandmark (plainLandmark .tracked) r0))
        fun t => (t.ltc.lm 0).map (·.misses) = some 1) = true ∧
      (after .hitClaim (withPass claims r0) fun t => t.me.pass.map (·.stale) = some 1) = true ∧
      (after .hitClaim (withPass reviving r0) fun t => t.me.pass = some reviving) = true ∧
      (after .admissionClaim (withPass { passAt (.batch false) with admissions := [⟨410, 0#64, 1950, 280⟩] } r0) fun t =>
        t.ltc.live = 1 ∧ t.ltc.bin 7 = [0] ∧ t.me.pass.map (·.admitted) = some 1) = true := by decide +kernel

theorem test_blend :
    (after .blendTake (withWindow [record 1#16 .placed] (withBank0 (bankIn .placed 1#16) r0)) fun t =>
      t.pw.map (·.state) = [.blending] ∧ (t.bank .b0).state = .blending ∧ t.bu.pass.map (·.t) = some 250) = true ∧
      (after .seamFix (blending (.measuring [])) fun t =>
        t.pw.map (·.used) = [some ⟨250, 101, some ⟨0, 0, 64⟩⟩] ∧
          t.bu.pass.map (·.stage) = some (.writing (List.range 16))) = true ∧
      (after .blendEnd (blending (.writing [])) fun t => t.bu.commitLine = -32) = true ∧
      (after .retireBehind (blending (.ending true true)) fun t =>
        t.bu.pass.map (·.stage) = some (.ending false true)) = true ∧
      (after .retirementClaim (blending (.ending false true)) fun t => t.pw.length = 1) = true ∧
      (after .blendEndClaim (blending (.ending false false)) fun t =>
        t.pw.map (·.state) = [.blended] ∧ (t.bank .b0).state = .free ∧ t.bu.reference = some ⟨0, 0, 383⟩) = true := by
  decide +kernel

/-- A frame with no used rows writes nothing. -/
theorem test_block_write_without_rows :
    (after .blockWrite { blending (.writing [0]) with
      bu := { (blending (.writing [0])).bu with pass := some { blendAt (.writing [0]) with y0 := -400 } } } fun t =>
        t.bu.pass.map (·.stage) = some (.writing []) ∧ t.bu.coverage.all (· == .blank) ∧ t.mem.cells = []) = true := by
  decide +kernel

theorem test_closing :
    (after .closureJoin { withSweep .closing with
      sc := { (withSweep .closing).sc with closure := ⟨.detected, 7856, 10, 9, 530#16, 1, none⟩ } } fun t =>
        t.bu.join = some ⟨0, 32, 7856, 10, .start⟩) = true ∧
      (after .joinColumn { small with bu := { small.bu with join := some ⟨31, 32, 1024, 0, .start⟩ } } fun t =>
        t.bu.join = none ∧ t.sc.closure.state = .joined) = true ∧
      (after .commitAllOpenBlocks (withWindow [record 1#16 .blended 1] { withSweep .closing small with
        bu := { small.bu with coverage := .opened 1#16 :: List.replicate 63 .blank } }) fun t =>
          t.sc.sweep = .finished ∧ t.pw = [] ∧ t.bu.coverage = .committed :: List.replicate 63 .blank) = true := by decide +kernel

theorem test_directive_steps :
    (after .dirStop (withGap (some 0#32) r0) fun t => t.dr.gap = none ∧ t.dr.budget = 1) = true ∧
      (after .dirSkip (withGap (some 0x10000000#32) r0) fun t => t.dr.readPtr = 1) = true ∧
      (after .dirNext (withGap (some 0x200001F4#32) r0) fun t => t.dr.readPtr = 500 ∧ t.dr.startPtr = 500) = true ∧
      (after .dirNextAndStop (withGap (some 0x300001F4#32) r0) fun t => t.dr.gap = none ∧ t.dr.startPtr = 500) = true ∧
      (after .dirSignal (withGap (some 0x40000000#32) r0) fun t => t.li.events = 1024#14) = true ∧
      (after .dirMasks (withGap (some 0x600000A5#32) r0) fun t => t.sc.masks = 0xA5#8) = true ∧
      (after .dirMark (withGap (some 0x7B0003E8#32) r0) fun t => t.sc.mark1 = ⟨1000, .cueToggle, true⟩) = true ∧
      (after .dirRetireRegion (withGap (some 0x80400009#32) r0) fun t => t.ltc.regionClaims = [(4, 9)]) = true ∧
      (after .dirBlend (withGap (some 0x90000004#32) r0) fun t => t.prm.feather = 64) = true ∧
      (after .directiveFault (withGap (some 0xC0000000#32) r0) fun t =>
        t.dr.fault = some 0 ∧ t.dr.enabled = false ∧ t.li.events = 2048#14) = true := by decide +kernel

theorem test_hint_directive :
    (after .dirHint (withGap (some 0x5FFD0500#32) (withBank0 (bankIn .filling 1#16) r0)) fun t =>
      t.me.hint = some ⟨-3, 5, some 1#16⟩) = true ∧
      (after .dirHint (withGap (some 0x5FFD0500#32) r0) fun t => t.me.hint = none) = true := by decide +kernel

theorem test_copy_and_replace :
    (after .copyPhase (withOp (.quiet .s0) (withSweep .sweeping)) fun t => t.cx.op = .copy .s0 0#16) = true ∧
      (after .rollbackReplace { withOp (.apply .s0) (withSweep .sweeping) with
        cx := ⟨⟨.valid, some 3#16, some { r0.imageBody with progress := 900 }⟩, Slot.empty, .none, none, .apply .s0, 0⟩ }
        fun t => t.sc.progress = 900 ∧ t.cx.lastResult = .ok ∧ t.ltc.gen 0 = 1#4) = true := by decide +kernel

/-- A blend of a frame whose one used row is 511: a block of it is 32 luma and 32 chroma bytes. -/
def thin (st : BlendStage) : State :=
  { blending st with bu := { (blending st).bu with pass := some { blendAt st with y0 := 511 } } }

/-- Block 0 is COMMITTED and the others are BLANK. -/
def committed0 (s : State) : State := { s with bu := { s.bu with coverage := .committed :: List.replicate 63 .blank } }

/-- An export of canvas columns 0 and 32, the second of them in a BLANK block; what EU has passed and reached. -/
def fetching (read : List Byte) (at' : Option Reached := none) : State :=
  { committed0 small with eu := ⟨.running, false, false, [(0, 0), (32, 0)], 0, 4, 0, .none, true, read, at'⟩ }

/-- A join between columns of a canvas all committed, with row 0's partner row 511, of a DETECTED closure. -/
def joinAt (n : Nat) (move : Transfer) : State :=
  { small with
    bu := { small.bu with coverage := List.replicate 64 .committed, join := some ⟨n, 32, 1024, 511, move⟩ }
    sc := { small.sc with closure := { small.sc.closure with state := .detected } } }

/-- The block write begins with a read burst; a write burst follows; the block is completed under a standing stop, and
waits before its bytes are written. -/
theorem test_block_bursts :
    (after .secondSlot (thin (.writing [0])) fun t =>
      (match (t.bu.pass.map (·.stage) : Option BlendStage) with
        | some (.inBlock 0 [] m) => decide (m.written = 0 ∧ m.held.length = 64)
        | _ => false) && decide (t.ma.rotation = .bu ∧ t.coverageAt 0 = .blank ∧ t.mem.cells = [])) = true ∧
      (after .secondSlot (thin (.inBlock 0 [] ⟨0, List.replicate 64 9#8⟩)) fun t =>
        t.bu.pass.map (·.stage) = some (.inBlock 0 [] ⟨64, []⟩) ∧ t.mem.cells.length = 64 ∧
          t.mem.cells.all (·.2 == 9#8)) = true ∧
      (after .blockWrite (thin (.inBlock 0 [] ⟨0, [9#8]⟩)) fun t =>
        t.bu.pass.map (·.stage) = some (.inBlock 0 [] ⟨0, [9#8]⟩) ∧ t.coverageAt 0 = .blank) = true ∧
      (after .blockWrite (withOp (.apply .s0) (thin (.inBlock 0 [] ⟨64, []⟩))) fun t =>
        t.bu.pass.map (·.stage) = some (.writing []) ∧ t.coverageAt 0 = .opened 1#16 ∧ t.mem.cells = []) = true := by
  decide +kernel

/-- Three bytes of join column 31 are formed from six; the last column ends the join, JOINED unless a stop stands. -/
theorem test_join_bursts :
    (after .secondSlot (joinAt 31 .start) fun t => t.bu.join.map (fun j => (j.move.written, j.move.held.length)) =
      some (0, 6) ∧ t.mem.cells = []) = true ∧
      (after .secondSlot (joinAt 31 ⟨0, [8#8, 8#8, 8#8, 8#8, 8#8, 8#8]⟩) fun t =>
        t.bu.join = some ⟨31, 32, 1024, 511, ⟨3, []⟩⟩ ∧ t.mem.cells.length = 3 ∧ t.mem.cells.all (·.2 == 8#8)) = true ∧
      (after .joinColumn (joinAt 31 .start) fun t => t.bu.join = some ⟨31, 32, 1024, 511, .start⟩) = true ∧
      (after .joinColumn (joinAt 31 ⟨3, []⟩) fun t => t.bu.join = none ∧ t.sc.closure.state = .joined) = true ∧
      (after .joinColumn (withOp (.apply .s0) (joinAt 31 ⟨3, []⟩)) fun t =>
        t.bu.join = none ∧ t.sc.closure.state = .detected ∧ t.blendAtBoundary) = true := by
  decide +kernel

/-- A burst of EU passes the line's four sources, the last of them fill, and the line is sent as they were read. A block
keeps the reading EU took when it reached it: one that became BLANK since is still read, one that was read as BLANK is
fill, its chroma with it. -/
theorem test_export_burst :
    (after .secondSlot (fetching []) fun t => t.eu.fetched.length = 4 ∧ t.eu.fetched[3]? = some 16#8 ∧
      t.eu.reached = some ⟨1, true⟩) = true ∧
      (after .exportLine (fetching [1#8, 3#8, 4#8, 16#8] (some ⟨1, true⟩)) fun t =>
        t.port = [PortEvent.line [1#8, 16#8] [(3#8, 4#8)]] ∧ t.eu.fetched = [] ∧ t.eu.reached = none ∧
          t.eu.linesSent = 1) = true ∧
      (after .exportLine (fetching [1#8] (some ⟨0, false⟩)) fun t => t.port = [] ∧ t.eu.linesSent = 0) = true ∧
      ({ fetching [1#8] (some ⟨0, false⟩) with bu := small.bu } : State).ringWaits .eu = true ∧
      (after .exportLine (fetching [16#8] (some ⟨0, true⟩)) fun t =>
        t.port = [PortEvent.line [16#8, 16#8] [(128#8, 128#8)]]) = true := by
  decide +kernel

/-- A push that must force-commit waits inside a block write. -/
theorem test_push_waits_inside_a_block :
    (after .push (withPass (passAt (.push false)) (withBank0 (bankIn .matching 1#16)
      (withWindow [record 1#16 .blended] (thin (.inBlock 0 [] ⟨64, []⟩))))) fun t =>
        t.me.pass.map (·.stage) = some (.push false) ∧ t.pw.length = 1) = true := by decide +kernel

theorem test_queue :
    (match step { r0 with pending := [.refreshDue, .firstSlot] } with
      | .next t => t.ma.refreshDue && decide (t.pending = [.firstSlot])
      | .fault _ => false
      | .refused _ => false) = true := by decide +kernel

/-! ### Every statement's hypotheses are met, clause by clause, at the ends of their ranges -/

def steps (s : State) : Bool :=
  match step s with
  | .next _ => true
  | .fault _ => false
  | .refused _ => false

def runs (c : Instr) (s : State) : Bool := after c s fun _ => true

theorem steps_next {s : State} (h : steps s = true) : ∃ t, step s = .next t := by
  unfold steps at h
  split at h
  · exact ⟨_, ‹_›⟩
  · cases h
  · cases h

theorem runs_next {c : Instr} {s : State} (h : runs c s = true) : ∃ t, exec c s = .next t := by
  unfold runs after at h
  split at h
  · exact ⟨_, ‹_›⟩
  · cases h
  · cases h

theorem forBanks {P : BankId → Prop} (h0 : P .b0) (h1 : P .b1) (h2 : P .b2) : ∀ b, P b
  | .b0 => h0
  | .b1 => h1
  | .b2 => h2

theorem forRing {P : Ring → Prop} (h0 : P .bu) (h1 : P .eu) (h2 : P .cx) (h3 : P .link) : ∀ r, P r
  | .bu => h0
  | .eu => h1
  | .cx => h2
  | .link => h3

def withMasks (m : BitVec 8) (s : State) : State := { s with sc := { s.sc with masks := m } }

def withMode (m : TrackMode) (s : State) : State := { s with me := { s.me with mode := m } }

def withPort (b : BankId) (s : State) : State := { s with pi := { s.pi with port := some b } }

/-- A frame stored into bank 0. -/
def storing (s : State) : State := withPort .b0 (withBank0 (bankIn .filling 1#16) s)

/-- A frame QUEUED in bank 0. -/
def queued (s : State) : State :=
  let s := withBank0 (bankIn .queued 1#16) s
  { s with pi := { s.pi with queue := [.b0] } }

def processingNow (p : Processing) (s : State) : State := { s with li := { s.li with processing := some p } }

def inTransaction (r : Reply) : State := { r0 with li := { r0.li with transaction := some r } }

def withMotion (l : List Motion) (s : State) : State := { s with me := { s.me with motion := l } }

def withDies (d : BitVec 4) (s : State) : State := { s with ma := { s.ma with dies := d } }

def sensing (s : State) : State := { s with ma := ⟨0#4, .link, false, some .pin, false⟩ }

/-- A command waits in front. -/
def waiting (c : Instr) (s : State) : State := { s with pending := [c, .nop []] }

/-- Eight BLENDED records of serials 2 to 9. -/
def fullWindow : List Placement := [9, 8, 7, 6, 5, 4, 3, 2].map fun n => record (BitVec.ofNat 16 n) .blended

/-- A table without a FREE entry; entry `k` is evictable where `ev k`. -/
def fullTable (ev : Nat → Bool) (s : State) : State :=
  { s with ltc := { s.ltc with
    entries := (List.range 256).map fun k => ⟨0#4, some (plainLandmark (if ev k then .tentative else .tracked))⟩
    live := 256 } }

theorem witness_StepRunsTheFrontCommand : r0.pending = [] := by decide

theorem witness_QueueAndGeometryAreKept_queue : ∃ t, exec .refreshDue (waiting .firstSlot r0) = .next t :=
  runs_next (by decide +kernel)

theorem ready_with_memory : MemoryReady (waiting .firstSlot r0) :=
  ⟨(fun h => nomatch h), fun _ => by decide +kernel,
    fun h => absurd h (by decide)⟩

theorem ready_without_memory : MemoryReady (waiting .frameStart noMemory) :=
  ⟨(fun h => nomatch h), fun h => absurd h (by decide),
    fun _ => ⟨rfl, rfl, rfl, rfl, rfl, rfl, rfl, rfl, rfl, rfl, (fun _ _ h => nomatch h), (fun _ _ h => nomatch h)⟩⟩

theorem witness_EveryStepAnswersANextState :
    MemoryReady (waiting .firstSlot r0) ∧ MemoryReady (waiting .frameStart noMemory) ∧
      MemoryReady (waiting (.dieSensingComplete 3#4) (sensing r0)) :=
  ⟨ready_with_memory, ready_without_memory, fun _ => ⟨by decide, by decide⟩, fun h => absurd h (by decide),
    fun _ => ⟨rfl, rfl, rfl, rfl, rfl, rfl, rfl, rfl, rfl, rfl, (fun _ _ h => nomatch h), (fun _ _ h => nomatch h)⟩⟩

theorem witness_CountsBalanceAndHeldCauseKeepsItsFlag : ∃ s, CountLaw s ∧ s.openBanks = 1 ∧ ∃ t, step s = .next t :=
  ⟨waiting .frameEnd (storing { withSweep .sweeping with sc := { r0.sc with started := 1#32 } }),
    by unfold CountLaw; decide, by decide, steps_next (by decide +kernel)⟩

theorem witness_AttnFollowsFlagsAndEnables :
    ∃ s, AttnLaw s ∧ s.li.attn = true ∧ ∃ t, step s = .next t :=
  ⟨waiting (.readEvents []) { r0 with li := { r0.li with events := 4#14, enables := 6#14, attn := true } },
    ⟨fun _ => ⟨.finished, by decide⟩, fun _ => rfl⟩, rfl, steps_next (by decide +kernel)⟩

theorem witness_CountsBalanceAndHeldCauseKeepsItsFlag_held : ∃ s, HeldLaw s ∧ s.sc.sweep = .held .canvasFull ∧ ∃ t, step s = .next t :=
  ⟨waiting (.clearConditions []) (heldBy .canvasFull), fun c h => by cases h; decide, rfl, steps_next (by decide +kernel)⟩

theorem witness_TablesKeepTheirCountsAndSizes : ∃ s, BinLaw s ∧ TableLaw s ∧ s.ltc.live = 1 ∧ ∃ t, step s = .next t :=
  ⟨waiting (.retireLandmark [0#8, 0#8]) (withLandmark (plainLandmark .tracked) r0), by unfold BinLaw; decide +kernel,
    by unfold TableLaw; decide +kernel, rfl, steps_next (by decide +kernel)⟩

theorem no_apply {s : State} (h : s.cx.op = .none) : ApplyLaw s := fun k m hk => by rw [h] at hk; cases hk

theorem witness_TablesKeepTheirCountsAndSizes_window :
    ∃ s, WindowLaw s ∧ SizeLaw s ∧ s.pw.length = 8 ∧ ∃ t, step s = .next t :=
  ⟨waiting .push (matching (.push true) (withWindow fullWindow (withSweep .sweeping))),
    ⟨by decide +kernel, by decide +kernel, no_apply rfl⟩, ⟨by decide +kernel, by decide +kernel, no_apply rfl⟩,
    by decide +kernel, steps_next (by decide +kernel)⟩

theorem witness_ReaderAndLineBufferStayInRange : ∃ s, ReaderLaw s ∧ s.dr.readPtr = 1023 ∧ s.dr.budget = 15 ∧
    ∃ t, step s = .next t :=
  ⟨waiting .dirSkip { withGap (some 0x10000000#32) r0 with
      dr := ⟨1023, true, 1023, 15, some 1023, some ⟨1#16, some ⟨0x10000000#32, 128⟩⟩⟩ },
    ⟨by decide, by decide, by decide, fun n h => by cases h; decide, fun _ => by decide⟩, rfl, rfl,
    steps_next (by decide +kernel)⟩

/-- A frame stored into bank 0 with one full segment waiting and one byte short of another. -/
def buffered (s : State) : State :=
  { storing s with pi := { (storing s).pi with waiting := List.replicate 64 (5, 7#8), filling := List.replicate 63 (6, 8#8) } }

theorem witness_ReaderAndLineBufferStayInRange_buffer :
    ∃ s, BufferLaw s ∧ s.pi.waiting.length = segmentBytes ∧ s.pi.filling.length + 1 = segmentBytes ∧
      ∃ t, step s = .next t :=
  ⟨waiting .frameEnd (buffered (withSweep .sweeping)), by unfold BufferLaw; decide, by decide, by decide,
    steps_next (by decide +kernel)⟩

theorem witness_CommitLineOnlyMovesAhead :
    Instr.blendEnd.restartsLine = false ∧ ∃ t, exec .blendEnd (blending (.writing [])) = .next t :=
  ⟨rfl, runs_next (by decide +kernel)⟩

theorem witness_MemoryStaysAsItWas :
    (∃ s, s.mem.wf ∧ s.mem.cells ≠ [] ∧ ∃ t, step s = .next t) ∧
      Instr.judge.writesMemory = false ∧ ∃ t, exec .judge (matching .judge) = .next t :=
  ⟨⟨waiting .firstSlot { r0 with mem := ⟨[(5, 1#8), (6, 2#8)], 0⟩, pi := { r0.pi with waiting := [(5, 7#8)] } },
    by decide, by decide, steps_next (by decide +kernel)⟩, rfl, runs_next (by decide +kernel)⟩

theorem witness_EventFlagsStaySet :
    Instr.frameEnd.clearsEvents = false ∧ (∀ p, Instr.frameEnd ≠ .setEventEnables p) ∧
      ∃ t, exec .frameEnd (storing { withSweep .sweeping with li := { r0.li with events := 4#14 } }) = .next t :=
  ⟨rfl, (fun _ h => nomatch h), runs_next (by decide +kernel)⟩

theorem witness_QueueAndGeometryAreKept :
    Instr.push.setsGeometry = false ∧ Instr.push ≠ .powerOn ∧ Instr.push ≠ .resetNAssert ∧
      (∀ d, Instr.push ≠ .dieSensingComplete d) ∧ ∃ t, exec .push (matching (.push false)) = .next t :=
  ⟨rfl, by decide, by decide, (fun _ h => nomatch h), runs_next (by decide +kernel)⟩

theorem witness_PowerPinAndSensing :
    (sensing r0).ma.sensing = some .pin ∧ (sensing r0).ma.resetLow = false ∧
      ({ r0 with ma := { r0.ma with resetLow := true } } : State).ma.resetLow = true ∧ r0.ma.sensing = none := by decide

theorem witness_ResetCommandKeepsMemoryAndSlots :
    r0.delivers .reset [] = true ∧ (withOp (.copy .s1 3#16) r0).delivers .reset [] = true ∧
      (processingNow (.taken .reset []) r0).delivers .reset [] = true := by decide

theorem witness_FirstSlotOrder :
    (∃ s : State, s.pi.waiting ≠ [] ∧ s.memoryFits = true) ∧ (∃ s : State, s.pi.waiting = [] ∧ s.ma.refreshDue = true) ∧
      r0.pi.waiting = [] ∧ r0.ma.refreshDue = false :=
  ⟨⟨{ r0 with pi := { r0.pi with waiting := [(5, 7#8)] } }, by decide +kernel⟩,
    ⟨{ r0 with ma := { r0.ma with refreshDue := true } }, by decide⟩, by decide⟩

theorem witness_SecondSlotAndRefresh :
    (withGap none r0).readerWaits = true ∧ (withGap none r0).memoryFits = true ∧ r0.readerWaits = false ∧
      (withOp (.apply .s0) (blending (.writing [0]))).stopping = true ∧ (blending (.measuring [])).bu.pass = some (blendAt (.measuring [])) ∧
      (blendAt (.measuring [])).stage = .measuring [] ∧ (∀ l, (blendAt (.writing [0])).stage ≠ .measuring l) ∧
      (∀ r, r0.ringWaits r = false) ∧ r0.ma.sensing = none ∧ (sensing r0).ma.sensing.isSome = true :=
  ⟨by decide, by decide +kernel, by decide, by decide, by decide, by decide, (fun _ h => nomatch h),
    forRing (by decide) (by decide) (by decide) (by decide), by decide, by decide⟩

/-- A frame at u 0 that overlaps its reference, whose leading edge is `lead`, in row 0; the samples read so far. -/
def measuringAt (lead : Int) (read : List Byte) : State :=
  { blending (.measuring read) with
    bu := { (blending (.measuring read)).bu with reference := some ⟨lead - 512, 0, 0⟩ } }

/-- Bytes left at the ends of their ranges: 3 of 4 samples read, 0 and 63 of 64 bytes written, 2 of 3 of a join
column, none of a block at its boundary. -/
theorem witness_SecondSlotAndRefresh_bytes :
    ((measuringAt 1 [0#8, 0#8, 0#8]).record 1#16 = some (record 1#16 .blending) ∧
      ((measuringAt 1 []).sampleAddrs (blendAt (.measuring [])) (record 1#16 .blending)).length = 4 ∧
      (measuringAt 1 [0#8, 0#8, 0#8]).ringWaits .bu = true ∧
      (measuringAt 1 [0#8, 0#8, 0#8, 0#8]).ringWaits .bu = false) ∧
      ((thin (.inBlock 0 [] ⟨63, []⟩)).ringWaits .bu = true ∧ (thin (.inBlock 0 [] ⟨64, []⟩)).ringWaits .bu = false ∧
        (thin (.inBlock 0 [] ⟨63, []⟩)).bu.join = none ∧ (thin (.writing [0])).ringWaits .bu = true ∧
        (withOp (.apply .s0) (thin (.writing [0]))).ringWaits .bu = false) ∧
      ((joinAt 31 ⟨2, []⟩).ringWaits .bu = true ∧ (joinAt 31 ⟨3, []⟩).ringWaits .bu = false ∧
        (withOp (.apply .s0) (joinAt 31 ⟨2, []⟩)).ringWaits .bu = true ∧
        (withOp (.apply .s0) (joinAt 31 .start)).ringWaits .bu = false ∧
        (withOp (.apply .s0) (joinAt 31 .start)).bu.pass = none) := by decide +kernel

theorem witness_SecondSlotAndRefresh_image :
    (withOp (.copy .s0 0#16) r0).cx.op = .copy .s0 0#16 ∧ (withOp (.copy .s0 0#16) r0).cx.moved = 0 ∧
      (copied (withOp (.copy .s0 0#16) r0)).ringWaits .cx = false ∧
      (∀ k v, r0.cx.op ≠ .copy k v) ∧ (∀ k, r0.cx.op ≠ .verify k) :=
  ⟨rfl, rfl, State.contextWaits_of_slot (copied (withOp (.copy .s0 0#16) r0)) (by decide), (fun _ _ h => nomatch h), (fun _ h => nomatch h)⟩

/-- What a write burst is formed from has been read: all of one byte's two sources. -/
theorem witness_SecondSlotAndRefresh_transfer :
    (∃ j i, (joinAt 31 .start).joinOutputs ⟨31, 32, 1024, 511, .start⟩ 31 = (joinAt 31 .start).joinOutputs j i) ∧
      (⟨0, [7#8]⟩ : Transfer).held.length < 6 ∧
      (sourcesOf ((joinAt 31 .start).joinOutputs ⟨31, 32, 1024, 511, .start⟩ 31)).length = 6 ∧
      [8#8, 8#8, 8#8, 8#8, 8#8, 8#8] =
        (sourcesOf ((joinAt 31 .start).joinOutputs ⟨31, 32, 1024, 511, .start⟩ 31)).map fun _ => (8#8 : Byte) :=
  ⟨⟨_, _, rfl⟩, by decide, by decide +kernel, by decide +kernel⟩

theorem witness_SecondSlotAndRefresh_ring :
    (∀ s ∈ [measuringAt 1 [], thin (.writing [0]), thin (.inBlock 0 [] ⟨63, []⟩), joinAt 31 .start],
      s.readerWaits = false ∧ s.ma.rotation.after = [] ++ .bu :: [.eu, .cx, .link] ∧ s.ringWaits .bu = true ∧
        s.memoryFits = true) ∧
      ((fetching []).readerWaits = false ∧ (fetching []).ma.rotation.after = [.bu] ++ .eu :: [.cx, .link] ∧
        (fetching []).ringWaits .bu = false ∧ (fetching []).ringWaits .eu = true ∧ (fetching []).memoryFits = true) ∧
      (∃ s : State, s.readerWaits = false ∧ s.ma.rotation.after = [.bu, .eu, .cx] ++ .link :: [] ∧
        (∀ q ∈ [Ring.bu, .eu, .cx], s.ringWaits q = false) ∧ s.ringWaits .link = true ∧
        s.li.processing = some (.linkWrite 1023 [0#8, 0#8, 0#8, 0#8]) ∧ s.memoryFits = true) ∧
      (∃ s : State, s.readerWaits = false ∧ s.ma.rotation.after = [.bu, .eu, .cx] ++ .link :: [] ∧
        (∀ q ∈ [Ring.bu, .eu, .cx], s.ringWaits q = false) ∧ s.ringWaits .link = true ∧
        s.li.processing = some (.linkRead 1008 16) ∧ s.memoryFits = true) :=
  ⟨by decide +kernel, by decide +kernel, ⟨processingNow (.linkWrite 1023 [0#8, 0#8, 0#8, 0#8]) r0, by decide +kernel⟩,
    ⟨processingNow (.linkRead 1008 16) r0, by decide +kernel⟩⟩

theorem witness_SecondSlotAndRefresh_copy : ∃ s : State, s.readerWaits = false ∧
    s.ma.rotation.after = [.bu, .eu] ++ .cx :: [.link] ∧ (∀ q ∈ [Ring.bu, .eu], s.ringWaits q = false) ∧
    s.ringWaits .cx = true ∧ s.memoryFits = true :=
  ⟨withOp (.copy .s0 0#16) r0, by decide, by decide, by decide,
    by show (!(withOp (.copy .s0 0#16) r0).imageMoved) = true; rw [State.imageMoved_start _ rfl]; rfl, by decide +kernel⟩

theorem witness_TransactionsTakeCommands :
    (r0.li.transaction = none ∧ r0.li.processing = none ∧ r0.ma.sensing = none) ∧
      ((sensing r0).li.transaction = none ∧ (sensing r0).ma.sensing.isSome = true) ∧
      (processingNow .aborting r0).li.processing.isSome = true ∧
      (inTransaction ⟨.pending, []⟩).li.transaction = some ⟨.pending, []⟩ ∧
      (inTransaction ⟨.done, []⟩).li.transaction = some ⟨.done, []⟩ ∧ (inTransaction ⟨.done, []⟩).li.processing = none ∧
      (inTransaction ⟨.done, []⟩).ma.sensing = none ∧
      80 < (81#8).toNat ∧ ([0#8] : List Byte).length < 2 ∧ (80#8).toNat ≤ 80 ∧ ([] : List Byte).length < (80#8).toNat ∧
      (0#8).toNat ≤ ([] : List Byte).length ∧ linkTake (0x51#8).toNat ([] : List Byte) = .take .exportStop [] ∧
      linkTake (0x52#8).toNat ([] : List Byte) = .refuse .unknownCommand := by decide

theorem witness_CommandCodesNameTheirCommands :
    255 < 256 ∧ 255 ∉ [0x00, 0x01, 0x23, 0x51] ∧ linkTake 0x06 [] = .refuse .unknownCommand ∧ 3 < (4#8).toNat := by decide

theorem witness_ReadsAnswerAndChangeNothing :
    r0.delivers .nop [] = true ∧ r0.delivers .readIdentity [] = true ∧ r0.delivers .readStatus [] = true ∧
      r0.delivers .readClosure [] = true ∧ r0.delivers .readSlots [] = true := by decide

theorem witness_EventAndConditionFlags :
    r0.delivers .readEvents [] = true ∧ (r0.delivers .setEventEnables [255#8, 63#8] = true ∧ (63#8).toNat < 64) ∧
      (r0.delivers .setEventEnables [0#8, 64#8] = true ∧ 64 ≤ (64#8).toNat) ∧ r0.delivers .setMasks [255#8] = true ∧
      (r0.delivers .clearConditions [] = true ∧ r0.sc.sweep.isHeld = false) ∧
      (heldBy .lost).delivers .clearConditions [] = true ∧ (heldBy .lost).sc.sweep = .held .lost := by decide

theorem witness_ConfigureChecksAndLaysOut :
    r0.delivers .configure [0#8, 64#8, 0#8, 8#8, 0#8, 4#8, 0#8, 6#8] = true ∧
      u16At [0#8, 64#8, 0#8, 8#8, 0#8, 4#8, 0#8, 6#8] 0 = 16384 ∧ u16At [0#8, 64#8, 0#8, 8#8, 0#8, 4#8, 0#8, 6#8] 2 = 2048 ∧
      u16At [0#8, 64#8, 0#8, 8#8, 0#8, 4#8, 0#8, 6#8] 4 = 1024 ∧
      u16At [0#8, 64#8, 0#8, 8#8, 0#8, 4#8, 0#8, 6#8] 6 = 1536 := by decide

theorem witness_ParametersAreReplacedTogether :
    ∃ q : Params, q.matchDist = 20 ∧ q.feather = 64 ∧ q.closeVtol = 64 ∧ r0.delivers .setParameters
        ([q.matchDist, q.searchRadius, q.minInliers, q.anchorHits, q.missLimit, q.predictLimit, q.minStep, q.reverseTol,
          q.minOverlap, q.paceLimit, q.feather, q.cornerMin, q.admitMax, q.closeEnable.toNat, q.closeMin,
          q.closeVtol].flatMap (leBytes 2)) = true ∧
      ∀ n ∈ [q.matchDist, q.searchRadius, q.minInliers, q.anchorHits, q.missLimit, q.predictLimit, q.minStep,
        q.reverseTol, q.minOverlap, q.paceLimit, q.feather, q.cornerMin, q.admitMax, q.closeMin, q.closeVtol],
        n < 65536 :=
  ⟨⟨20, 64, 16, 8, 7, 7, 32, 64, 512, 1023, 64, 65535, 48, true, 24, 64⟩, by decide +kernel⟩

/-- A CLOSE_ENABLE word of 2, with every other word in range. -/
theorem witness_ParametersAreReplacedTogether_word : ∃ p : List Byte, r0.delivers .setParameters p = true ∧
    p.length = 32 ∧ u16At p 26 = 2 ∧ replies (.setParameters p) r0 (refused .badValue) = true :=
  ⟨[10#8, 0#8, 24#8, 0#8, 6#8, 0#8, 4#8, 0#8, 3#8, 0#8, 3#8, 0#8, 8#8, 0#8, 16#8, 0#8, 128#8, 0#8, 0#8, 1#8, 64#8, 0#8,
    0x90#8, 1#8, 24#8, 0#8, 2#8, 0#8, 8#8, 0#8, 32#8, 0#8], by decide +kernel⟩

/-- The column 0x1FC0 = 8128 is the last of residue 0 eastward, 0x1FFF = 8191 the last westward. -/
theorem witness_ArmBeginsASweep :
    (withSweep .armed).delivers .arm [0#8, 0#8, 0#8, 0#8, 0#8] = true ∧ (withSweep .armed).sc.sweep ≠ .idle ∧
      (withOp (.copy .s0 0#16) r0).cx.op ≠ .none ∧ r0.sc.sweep = .idle ∧ r0.cx.op = .none ∧
      r0.delivers .arm [0#8, 0xC0#8, 0x1F#8, 0#8, 1#8] = true ∧ 0xC0 + 256 * 0x1F = 8128 ∧ 8128 % 64 = 0 ∧ 8128 < r0.geo.cw ∧
      256 + r0.geo.fh ≤ r0.geo.ch ∧ r0.hasMemory = true ∧ noMemory.hasMemory = false ∧ noMemory.sc.sweep = .idle ∧
      noMemory.delivers .arm [0#8, 0xC0#8, 0x1F#8, 0#8, 1#8] = true ∧
      8191 % 64 = 63 ∧ 8191 < r0.geo.cw ∧ r0.geo.cw ≤ 8192 ∧ 1 < (2#8).toNat ∧ r0.geo.ch < 257 + r0.geo.fh := by decide +kernel

theorem witness_FinishBySweepState :
    (∃ s : State, s.delivers .finish [] = true ∧ s.sc.sweep = .sweeping ∧ s.rollingBack = false ∧ s.pi.queue.Nodup ∧
      s.pi.queue = [.b0] ∧ (∀ b ∈ s.pi.queue, (s.bank b).state = .queued)) ∧
      (∃ s : State, s.delivers .finish [] = true ∧ s.sc.sweep = .sweeping ∧ s.pi.port = some .b0 ∧
        (s.bank .b0).state = .filling) ∧
      (r0.delivers .finish [] = true ∧ r0.sc.sweep = .idle) ∧
      ((withOp (.verify .s0) (withSweep .sweeping)).delivers .finish [] = true ∧
        (withOp (.verify .s0) (withSweep .sweeping)).sc.sweep.canFinish = true ∧
        (withOp (.verify .s0) (withSweep .sweeping)).rollingBack = true) ∧
      ((withSweep .armed).delivers .finish [] = true ∧ (withSweep .armed).sc.sweep = .armed ∧
        (withSweep .armed).rollingBack = false) :=
  ⟨⟨queued (withSweep .sweeping), by decide⟩, ⟨storing (withSweep .sweeping), by decide⟩, by decide⟩

theorem witness_FinishBySweepState_held :
    (∃ (s : State) (p : Pass), s.delivers .finish [] = true ∧ s.sc.sweep = .held .lost ∧ s.rollingBack = false ∧
      s.me.pass = some p ∧ p.stage = .judgeHeld ∧ p.bank = some .b0 ∧ (s.bank .b0).state = .matching ∧ s.pi.queue = [] ∧
      s.pi.port = none) ∧
      ∃ (s : State) (p : Pass), s.delivers .finish [] = true ∧ s.sc.sweep = .held .tableFull ∧ s.rollingBack = false ∧
        s.me.pass = some p ∧ p.stage = .parked :=
  ⟨⟨matching .judgeHeld (heldBy .lost), passAt .judgeHeld, by decide⟩,
    ⟨matching .parked (heldBy .tableFull), passAt .parked, by decide⟩⟩

def runningJob (begun : Bool) (s : State) : State := { s with eu := ⟨.running, false, false, [(0, 0)], 0, 1, 0, .none, begun, [], none⟩ }

theorem witness_AbortStopsThenClears :
    (r0.delivers .abort [] = true ∧ r0.sc.sweep = .idle) ∧
      (∃ (s : State) (p : Pass), s.delivers .abort [] = true ∧ s.sc.sweep ≠ .idle ∧ s.me.pass = some p ∧
        (∀ i, p.stage ≠ .lookup i true) ∧ p.bank = some .b0 ∧ (s.bank .b0).state = .matching) ∧
      (∃ (s : State) (p : Pass), s.delivers .abort [] = true ∧ s.sc.sweep ≠ .idle ∧ s.me.pass = some p ∧
        p.stage = .lookup 0 true) ∧
      ((runningJob true (withSweep .closing)).delivers .abort [] = true ∧
        (runningJob true (withSweep .closing)).eu.state = .running ∧
        (runningJob true (withSweep .closing)).eu.lineBegun = true ∧
        (runningJob false (withSweep .closing)).eu.lineBegun = false) ∧
      ((withOp (.verify .s1) (withSweep .sweeping)).delivers .abort [] = true ∧
        (withOp (.verify .s1) (withSweep .sweeping)).cx.op = .verify .s1) ∧
      ((withOp (.copy .s1 5#16) (withSweep .sweeping)).delivers .abort [] = true ∧
        (withOp (.copy .s1 5#16) (withSweep .sweeping)).cx.op = .copy .s1 5#16) ∧
      ((processingNow .aborting (blending (.writing [0]))).li.processing = some .aborting ∧
        (processingNow .aborting (blending (.writing [0]))).me.pass = none ∧
        (processingNow .aborting (blending (.writing [0]))).blendAtBoundary = true) ∧
      ((storing (withSweep .sweeping)).openBanks = 1 ∧ (storing (withSweep .sweeping)).blendAtBoundary = true) ∧
      (processingNow .aborting (blending (.measuring []))).blendAtBoundary = false ∧ r0.li.processing ≠ some .aborting :=
  ⟨by decide, ⟨matching .judge, passAt .judge, by decide, by decide, rfl, (fun _ h => nomatch h), by decide⟩,
    ⟨matching (.lookup 0 true), passAt (.lookup 0 true), by decide⟩, by decide +kernel⟩

theorem witness_ReleaseReturnsToIdle :
    (r0.delivers .release [] = true ∧ r0.sc.sweep ≠ .finished) ∧
      ((withSweep .finished).delivers .release [] = true ∧ (withSweep .finished).sc.sweep = .finished ∧
        (withSweep .finished).dr.gap = none ∧ (withSweep .finished).pi.port = none) ∧
      ((storing (withSweep .finished)).delivers .release [] = true ∧ (storing (withSweep .finished)).dr.gap = none ∧
        (storing (withSweep .finished)).pi.port = some .b0 ∧ ((storing (withSweep .finished)).bank .b0).state = .filling) ∧
      ((withGap none (withSweep .finished)).delivers .release [] = true ∧
        (withGap none (withSweep .finished)).dr.gap = some ⟨1#16, none⟩) := by decide

theorem witness_ResumeChecks :
    (r0.sc.sweep.isHeld = false ∧ r0.delivers .resumeAccept [] = true ∧ r0.delivers .resumeSkip [] = true ∧
      r0.delivers .resumePlace [0#8, 0#8, 0#8] = true ∧ r0.delivers .resumeRollback [0#8] = true) ∧
      ((withOp (.apply .s0) (heldBy .lost)).sc.sweep = .held .lost ∧
        (withOp (.apply .s0) (heldBy .lost)).rollingBack = true ∧
        (withOp (.apply .s0) (heldBy .lost)).delivers .resumeAccept [] = true ∧
        (withOp (.apply .s0) (heldBy .lost)).delivers .resumeSkip [] = true ∧
        (withOp (.apply .s0) (heldBy .lost)).delivers .resumePlace [0#8, 0#8, 0#8] = true ∧
        (withOp (.apply .s0) (heldBy .lost)).delivers .resumeRollback [0#8] = true ∧
        (withOp (.apply .s0) (heldBy .lost)).cx.op ≠ .none) ∧
      ((heldBy .reversal).rollingBack = false ∧ (heldBy .reversal).delivers .resumePlace [0#8, 0#8, 0#8] = true ∧
        (heldBy .speed).delivers .resumePlace [0#8, 8#8, 0#8] = true ∧ 2047 < s16At [0#8, 8#8, 0#8] 0 ∧
        s16At [0xFF#8, 0xF7#8, 0#8] 0 < -2048) ∧
      ((heldBy .lost).delivers .resumeRollback [1#8] = true ∧ (heldBy .lost).cx.op = .none ∧ 1 < (2#8).toNat) := by decide

/-- A frame held at the judge or the push, or parked, for a cause. -/
def holding (c : Condition) (st : Stage) : State := matching st (heldBy c)

theorem witness_ResumeAppliesItsMode :
    (∀ c ∈ [Condition.lowMatch, .vertical, .speed, .lost, .reversal, .canvasFull],
      (holding c .judgeHeld).delivers .resumeAccept [] = true ∧ (holding c .judgeHeld).delivers .resumeSkip [] = true ∧
        (holding c .judgeHeld).sc.sweep = .held c ∧ (holding c .judgeHeld).rollingBack = false ∧
        (holding c .judgeHeld).me.pass = some (passAt .judgeHeld) ∧ (passAt .judgeHeld).bank = some .b0 ∧
        ((holding c .judgeHeld).bank .b0).state = .matching ∧ (holding c .judgeHeld).pi.queue = [] ∧
        (holding c .judgeHeld).pi.port = none) ∧
      ((holding .windowOverflow .pushHeld).delivers .resumeAccept [] = true ∧
        (holding .windowOverflow .pushHeld).saving = false ∧ (holding .windowOverflow .pushHeld).rollingBack = false ∧
        (holding .windowOverflow .pushHeld).sc.sweep = .held .windowOverflow) ∧
      (∃ (s : State) (p : Pass), s.delivers .resumeAccept [] = true ∧ s.delivers .resumeSkip [] = true ∧
        s.sc.sweep = .held .tableFull ∧ s.rollingBack = false ∧ s.saving = false ∧ s.me.pass = some p ∧
        p.admissions = [⟨410, 0#64, 1950, 280⟩]) ∧
      (∃ (s : State) (p : Pass), s.delivers .resumePlace [0#8, 0xF8#8, 0x80#8] = true ∧ s.sc.sweep = .held .lost ∧
        s.rollingBack = false ∧ s.me.pass = some p ∧ s.me.motion = [⟨0#16, 0, 0⟩] ∧ s16At [0#8, 0xF8#8, 0x80#8] 0 = -2048 ∧
        s16At [0xFF#8, 7#8, 0x80#8] 0 = 2047) :=
  ⟨by decide, by decide,
    ⟨withPass { passAt .parked with admissions := [⟨410, 0#64, 1950, 280⟩] } (heldBy .tableFull),
      { passAt .parked with admissions := [⟨410, 0#64, 1950, 280⟩] }, by decide⟩,
    ⟨withMotion [⟨0#16, 0, 0⟩] (holding .lost .judgeHeld), passAt .judgeHeld, by decide⟩⟩

theorem witness_HintsMarksAndCapture :
    r0.delivers .hint [0#8, 0xF8#8, 0x80#8] = true ∧
      (r0.delivers .setMark [2#8, 0#8, 0#8, 0#8] = true ∧ 1 < (2#8).toNat) ∧
      (r0.delivers .setMark [1#8, 4#8, 0xFF#8, 0xFF#8] = true ∧ (4#8).toNat = MarkAction.finish.code) ∧
      (r0.delivers .setMark [0#8, 0#8, 0#8, 0#8] = true ∧ (0#8).toNat = MarkAction.signal.code) ∧
      r0.delivers .readCapture [] = true ∧ (r0.delivers .setCaptureAction [1#8] = true ∧ (1#8).toNat ≤ 1) ∧
      (r0.delivers .setCaptureAction [2#8] = true ∧ 1 < (2#8).toNat) := by decide

/-- What an accepted claim is left for: a save, and for the push a block write under way with no room in the window. -/
theorem witness_ResumeAppliesItsMode_left_for_later :
    ((withOp (.quiet .s0) (holding .windowOverflow .pushHeld)).delivers .resumeAccept [] = true ∧
      (withOp (.quiet .s0) (holding .windowOverflow .pushHeld)).saving = true ∧
      (withOp (.quiet .s0) (holding .windowOverflow .pushHeld)).rollingBack = false ∧
      (withOp (.copy .s0 1#16) (holding .tableFull .parked)).saving = true) ∧
      ∃ (s : State) (p : Pass) (b : BlendPass), s.delivers .resumeAccept [] = true ∧ s.sc.sweep = .held .windowOverflow ∧
        s.rollingBack = false ∧ s.saving = false ∧ s.me.pass = some p ∧ s.overflows p.serial = true ∧
        s.bu.pass = some b ∧ b.stage = .inBlock 0 [] ⟨64, []⟩ ∧ after (.resumeAccept []) s (fun t =>
          t.sc.sweep = .sweeping ∧ t.me.pass.map (·.stage) = some (.push true) ∧ t.pw.length = 8) = true :=
  ⟨by decide, ⟨{ withWindow fullWindow (holding .windowOverflow .pushHeld) with bu := (thin (.inBlock 0 [] ⟨64, []⟩)).bu },
    passAt .pushHeld, { blendAt (.inBlock 0 [] ⟨64, []⟩) with y0 := 511 }, by decide +kernel⟩⟩

def finishing (s : State) : State := { s with sc := { s.sc with captureFinish := true } }

theorem witness_ShutterEdgeFillsTheRecord :
    r0.sc.sweep = .idle ∧ ((withSweep .sweeping).sc.sweep ≠ .idle ∧ (withSweep .sweeping).sc.sweep ≠ .finished) ∧
      (withSweep .sweeping).sc.captureFinish = false ∧ (finishing (withSweep .sweeping)).sc.captureFinish = true ∧
      (processingNow .aborting (finishing (withSweep .sweeping))).aborting = true ∧
      ((finishing (withOp (.verify .s0) (withSweep .sweeping))).aborting = false ∧
        (finishing (withOp (.verify .s0) (withSweep .sweeping))).rollingBack = true) ∧
      ((finishing (withSweep .closing)).rollingBack = false ∧ (finishing (withSweep .closing)).sc.sweep = .closing) ∧
      (finishing (withSweep .armed)).sc.sweep ≠ .closing := by decide

theorem witness_CommandsAreAnsweredOrLost :
    ((Instr.finish []).hostCommand? = some (.finish, []) ∧ (processingNow .aborting r0).delivers .finish [] = false) ∧
      ((Instr.arm [0#8]).hostCommand? = some (.arm, [0#8]) ∧ r0.delivers .arm [0#8] = true ∧
        HostCommand.arm.lengthAllowed [0#8].length = false) := by decide

/-- One landmark in entry 0 with generation 0, and 31 or 32 counted as PINNED. -/
def onePinned (pinned : Bool) (n : Nat) : State :=
  let s := withLandmark { plainLandmark .tracked with pinned := pinned } r0
  { s with ltc := { s.ltc with pinned := n } }

theorem witness_PinUnpinAndRetire :
    (r0.delivers .pinLandmark [0#8, 16#8] = true ∧ 15 < (16#8).toNat) ∧
      ((withOp (.copy .s0 0#16) r0).delivers .pinLandmark [0#8, 15#8] = true ∧ (15#8).toNat ≤ 15 ∧
        (withOp (.copy .s0 0#16) r0).copying = true ∧ (withOp (.apply .s0) r0).applying = true) ∧
      (r0.delivers .pinLandmark [255#8, 0#8] = true ∧ r0.copying = false ∧ r0.applying = false ∧
        r0.ltc.lm 255 = none) ∧
      (((onePinned true 32).ltc.lm 0).map (·.pinned) = some true ∧ ((onePinned false 32).ltc.lm 0).map (·.pinned) = some false ∧
        32 ≤ (onePinned false 32).ltc.pinned ∧ (onePinned false 31).ltc.pinned < 32 ∧
        ((onePinned false 31).ltc.gen 0).toNat = (0#8).toNat ∧
        (onePinned false 31).delivers .pinLandmark [0#8, 0#8] = true) ∧
      (onePinned true 1).delivers .unpinLandmark [0#8, 0#8] = true ∧
      (onePinned true 1).delivers .retireLandmark [0#8, 0#8] = true ∧ r0.delivers .unpinLandmark [0#8, 16#8] = true ∧
      r0.delivers .retireLandmark [0#8, 16#8] = true := by decide +kernel

theorem witness_RetirementByEntryAndRegion :
    (onePinned true 1).ltc.lm 0 = some { plainLandmark .tracked with pinned := true } ∧
      (r0.delivers .retireRegion [127#8, 128#8, 0#8] = true ∧ (127#8).toNat < r0.geo.nBins ∧ 128 ≤ r0.geo.nBins) ∧
      (r0.delivers .retireRegion [128#8, 1#8, 0#8] = true ∧ r0.geo.nBins ≤ (128#8).toNat) ∧
      r0.delivers .retireRegion [0#8, 129#8, 0#8] = true ∧ r0.geo.nBins < 129 ∧
      (withOp (.copy .s0 0#16) r0).delivers .retireRegion [0#8, 1#8, 0#8] = true ∧ r0.copying = false ∧
      r0.applying = false ∧
      ({ r0 with ltc := { r0.ltc with regionClaims := [(127, 128)] } } : State).ltc.regionClaims = (127, 128) :: [] ∧
      r0.ltc.regionClaims = [] := by decide +kernel

theorem witness_TableAndWindowReads :
    (r0.delivers .readLandmark [255#8] = true ∧ r0.ltc.lm 255 = none) ∧
      (onePinned true 1).delivers .readLandmark [0#8] = true ∧
      (onePinned true 1).ltc.lm 0 = some { plainLandmark .tracked with pinned := true } ∧
      (r0.delivers .findLandmarks [127#8] = true ∧ (127#8).toNat < r0.geo.nBins ∧
        r0.delivers .findLandmarks [128#8] = true ∧ r0.geo.nBins ≤ (128#8).toNat) ∧
      (r0.delivers .examineLandmark [0#8] = true ∧ (onePinned true 1).delivers .examineLandmark [0#8] = true) ∧
      (r0.delivers .readPlacement [0#8, 2#8] = true ∧ 1 < (2#8).toNat) ∧
      (r0.delivers .readPlacement [0#8, 1#8] = true ∧ r0.pw[0]? = none) ∧
      ((withWindow fullWindow r0).delivers .readPlacement [7#8, 0#8] = true ∧
        (withWindow fullWindow r0).pw[7]? = some (record 2#16 .blended)) ∧
      ((withWindow [{ record 2#16 .placed with used := none }] r0).delivers .readPlacement [0#8, 1#8] = true ∧
        ((withWindow fullWindow r0).pw[7]?.map (·.state)) = some .blended) ∧
      (r0.delivers .readCoverage [255#8, 0#8, 64#8] = true ∧ 255 < r0.geo.nBlocks ∧ (64#8).toNat ≤ 64) ∧
      (r0.delivers .readCoverage [0#8, 1#8, 1#8] = true ∧ r0.geo.nBlocks ≤ 256) ∧
      (r0.delivers .readCoverage [0#8, 0#8, 65#8] = true ∧ 64 < (65#8).toNat) := by decide +kernel

/-- Offset 0x03FF = 1023 is the last word; 16 words from 0x03F0 = 1008 are the last sixteen. -/
theorem witness_DirectiveMemoryCommands :
    (r0.delivers .writeDirectives [0xFF#8, 3#8, 0#8, 0#8, 0#8, 0#8] = true ∧ 1023 + 1 ≤ 1024 ∧ r0.hasMemory = true) ∧
      (noMemory.delivers .writeDirectives [0xFF#8, 3#8, 0#8, 0#8, 0#8, 0#8] = true ∧ noMemory.hasMemory = false) ∧
      (r0.delivers .writeDirectives (0xF1#8 :: 3#8 :: List.replicate 64 0#8) = true ∧
        (List.replicate 64 0#8).length = 4 * 16 ∧ 1024 < 1009 + 16) ∧
      (r0.delivers .readDirectives [0xF0#8, 3#8, 16#8] = true ∧ 1008 + (16#8).toNat ≤ 1024) ∧
      noMemory.delivers .readDirectives [0xF0#8, 3#8, 16#8] = true ∧ r0.delivers .readDirectives [0#8, 4#8, 1#8] = true ∧
      (r0.delivers .setList [0#8, 4#8, 0#8] = true ∧ 1023 < 1024) ∧ r0.delivers .setList [0xFF#8, 3#8, 1#8] = true ∧
      r0.delivers .setList [0xFF#8, 3#8, 0#8] = true ∧ r0.dr.gap = none ∧
      (withGap (some 0#32) r0).delivers .setList [0xFF#8, 3#8, 0#8] = true ∧
      (withGap (some 0#32) r0).dr.gap = some ⟨1#16, some ⟨0#32, 128⟩⟩ := by decide +kernel

/-- An image with one BLENDED record, its check and format number as the block writes them. -/
def savedState : State :=
  withWindow [{ record 1#16 .blended with used := some ⟨250, 101, some ⟨0, 0, 64⟩⟩ }] (withSweep .sweeping)

def slotWith (st : SlotState) (m : Option Image) (op : ContextOp) (s : State) : State :=
  { s with cx := ⟨⟨st, some 1#16, m⟩, Slot.empty, .none, none, op, 0⟩ }

/-- The two premises of the statement name its conditions, so the statement's own definitions meet them. -/
theorem witness_CheckpointWaitsCopiesAndCompletes (s : State) : ∃ (quiet : Prop) (taken : Image → Prop),
    (quiet ↔ (∀ r ∈ s.pw, r.state = .blended) ∧
      ∀ p, s.me.pass = some p → p.stage ≠ .report ∧ ∀ a, p.stage ≠ .batch a) ∧
    (taken s.image ↔ s.image.format = Config.formatNumber ∧ s.image.reserved = 0) :=
  ⟨_, fun m => m.format = Config.formatNumber ∧ m.reserved = 0, Iff.rfl, Iff.rfl⟩

theorem witness_CheckpointWaitsCopiesAndCompletes_clauses :
    (r0.delivers .checkpoint [0#8] = true ∧ r0.sc.sweep.canRollBack = false) ∧
      ((withOp (.verify .s0) (withSweep .sweeping)).delivers .checkpoint [0#8] = true ∧
        (withOp (.verify .s0) (withSweep .sweeping)).sc.sweep.canRollBack = true ∧
        (withOp (.verify .s0) (withSweep .sweeping)).cx.op ≠ .none) ∧
      ((withSweep .sweeping).delivers .checkpoint [1#8] = true ∧ (withSweep .sweeping).cx.op = .none ∧
        (withSweep .sweeping).hasMemory = true ∧ 1#8 = byteOf SlotId.s1.code ∧
        (withSweep .sweeping).delivers .checkpoint [0#8] = true ∧ 0#8 = byteOf SlotId.s0.code) ∧
      ((withDies 0#4 (withSweep .sweeping)).delivers .checkpoint [1#8] = true ∧
        (withDies 0#4 (withSweep .sweeping)).hasMemory = false ∧ 1 < (2#8).toNat) ∧
      ((withOp (.quiet .s1) savedState).cx.op = .quiet .s1 ∧
        (∀ r ∈ (withOp (.quiet .s1) savedState).pw, r.state = .blended) ∧
        (withOp (.quiet .s1) savedState).me.pass = none) ∧
      ((matching (.batch false)).me.pass = some (passAt (.batch false)) ∧ (passAt (.batch false)).stage = .batch false ∧
        (passAt .fenced).stage ≠ .report ∧ ∀ a, (passAt .fenced).stage ≠ .batch a) ∧
      (∃ r ∈ (withWindow [record 1#16 .placed] r0).pw, r.state ≠ .blended) ∧
      (copied (withOp (.copy .s0 9#16) r0)).cx.op = .copy .s0 9#16 ∧ (∀ k, r0.cx.op ≠ .quiet k) ∧
      ∀ k v, r0.cx.op ≠ .copy k v :=
  ⟨by decide, by decide, by decide, by decide, by decide, ⟨by decide, by decide, by decide, (fun _ h => nomatch h)⟩,
    ⟨record 1#16 .placed, List.mem_cons_self, by decide⟩, by decide, (fun _ h => nomatch h), (fun _ _ h => nomatch h)⟩

theorem witness_RollbackVerifiesAndReplaces :
    (r0.delivers .rollback [0#8] = true ∧ r0.sc.sweep.canRollBack = false) ∧
      ((withOp (.verify .s0) (withSweep .sweeping)).delivers .rollback [0#8] = true ∧
        (withOp (.verify .s0) (withSweep .sweeping)).sc.sweep.canRollBack = true ∧
        (withOp (.verify .s0) (withSweep .sweeping)).cx.op ≠ .none) ∧
      ((withDies 0#4 (withSweep .sweeping)).delivers .rollback [1#8] = true ∧
        (withDies 0#4 (withSweep .sweeping)).hasMemory = false ∧ 1 < (2#8).toNat) ∧
      ((withSweep .sweeping).delivers .rollback [byteOf SlotId.s1.code] = true ∧
        ((withSweep .sweeping).cx.slot .s1).state = .empty ∧
        ((slotWith .valid none .none (withSweep .sweeping)).cx.slot .s0).state ≠ .empty) ∧
      (∀ k, r0.cx.op ≠ .verify k) ∧ ∀ k, r0.cx.op ≠ .apply k :=
  ⟨by decide, by decide, by decide, by decide, (fun _ h => nomatch h), (fun _ h => nomatch h)⟩

/-- A FINISH that waits for the verify, of the mark and of the capture. -/
def finishWaits (mark capture : Bool) (s : State) : State :=
  { s with sc := { s.sc with markFinishWaits := mark, captureFinishWaits := capture } }

theorem witness_RollbackVerifiesAndReplaces_verify :
    ((slotWith .empty none (.verify .s0) savedState).cx.op = .verify .s0 ∧
      ((slotWith .empty none (.verify .s0) savedState).cx.slot .s0).state ≠ .valid ∧
      savedState.sc.markFinishWaits = false ∧ savedState.sc.captureFinishWaits = false) ∧
      (∃ m : Image, ((slotWith .valid (some m) (.verify .s0) savedState).cx.slot .s0).image = some m ∧
        m.passes r0.geo = false) ∧
      (withSweep .closing).sc.sweep.canRollBack = false ∧ savedState.sc.sweep.canRollBack = true ∧
      savedState.me.pass = none ∧ (matching .judge).me.pass = some (passAt .judge) ∧
      ((finishWaits true true savedState).sc.markFinishWaits = true ∧ savedState.pi.queue = [] ∧
        savedState.pi.port = none) ∧
      ((finishWaits false true (matching .judgeHeld (heldBy .lost))).sc.captureFinishWaits = true ∧
        (matching .judgeHeld (heldBy .lost)).me.pass = some (passAt .judgeHeld) ∧
        ((matching .judgeHeld (heldBy .lost)).bank .b0).state = .matching) ∧
      (∀ m, (slotWith .valid (some m) (.apply .s0) savedState).cx.op = .apply .s0 ∧
        (slotWith .valid (some m) (.apply .s0) savedState).blendAtBoundary = true) ∧
      (withOp (.apply .s0) (blending (.measuring []))).blendAtBoundary = false :=
  ⟨by decide, ⟨{ r0.imageBody with reserved := 1 }, rfl, by
      unfold Image.passes; simp⟩, by decide, by decide, rfl, rfl, by decide, by decide, fun _ => ⟨rfl, rfl⟩, by decide⟩

/-- A verify whose bursts have read the image, one of a slot that is not VALID, and an apply whose passes have stopped. -/
theorem witness_RollbackVerifiesAndReplaces_bursts :
    (∀ m, (copied (slotWith .valid (some m) (.verify .s0) savedState)).ringWaits .cx = false ∧
      (slotWith .valid (some m) (.apply .s0) savedState).me.pass = none) ∧
      (slotWith .empty none (.verify .s0) savedState).ringWaits .cx = false ∧
      (matching (.lookup 0 true)).me.pass = some (passAt (.lookup 0 true)) :=
  ⟨fun m => ⟨State.contextWaits_of_slot (copied (slotWith .valid (some m) (.verify .s0) savedState)) (Nat.le_refl 8192),
    rfl⟩, rfl, rfl⟩

/-- A FINISH that waited, taken at a TABLE_FULL hold and in ARMED. -/
theorem witness_RollbackVerifiesAndReplaces_waiting_finish :
    (after .verifyEnd (withOp (.verify .s0) (finishWaits true false (holding .tableFull .parked))) fun t =>
      t.sc.sweep = .closing ∧ t.me.pass.map (·.stage) = some .report ∧ t.sc.markFinishWaits = false) = true ∧
      (after .verifyEnd (withOp (.verify .s0) (finishWaits false true (matching (.push false) (withSweep .armed)))) fun t =>
        t.sc.sweep = .finished ∧ t.me.pass = none ∧ (t.bank .b0).state = .free ∧ t.sc.capture.result = .taken) = true := by
  decide +kernel

/-- The image that a save of `savedState` writes passes the verify. -/
theorem witness_RollbackVerifiesAndReplaces_passes : savedState.image.passes savedState.geo = true := by
  have h : (savedState.image.sweepOk && savedState.image.landmarksOk && savedState.image.binsOk &&
      savedState.image.windowOk && savedState.image.coverageOk) = true := by decide +kernel
  have e : savedState.image.numbers = savedState.imageBody.numbers := rfl
  unfold Image.passes
  rw [e]
  simp only [Bool.and_eq_true] at h ⊢
  obtain ⟨⟨⟨⟨h1, h2⟩, h3⟩, h4⟩, h5⟩ := h
  exact ⟨⟨⟨⟨⟨⟨⟨⟨decide_eq_true rfl, decide_eq_true rfl⟩, decide_eq_true rfl⟩, decide_eq_true rfl⟩, h1⟩, h2⟩, h3⟩, h4⟩, h5⟩

theorem witness_ExportJobSendsItsLines :
    (r0.delivers .exportStart [0xFF#8, 0x1F#8, 0#8, 0x20#8, 0xFF#8, 4#8, 1#8, 0#8, 0#8, 0#8] = true ∧
      u16At [0xFF#8, 0x1F#8, 0#8, 0x20#8, 0xFF#8, 4#8, 1#8, 0#8, 0#8, 0#8] 0 = 8191 ∧
      u16At [0xFF#8, 0x1F#8, 0#8, 0x20#8, 0xFF#8, 4#8, 1#8, 0#8, 0#8, 0#8] 2 = 8192 ∧
      u16At [0xFF#8, 0x1F#8, 0#8, 0x20#8, 0xFF#8, 4#8, 1#8, 0#8, 0#8, 0#8] 4 = 1279) ∧
      r0.delivers .exportStart [0#8, 0#8, 0#8, 0#8, 0#8, 0#8, 8#8, 0#8, 1#8, 1#8] = true ∧
      (r0.delivers .exportStop [] = true ∧ r0.eu.state = .idle) ∧
      ((runningJob true r0).delivers .exportStop [] = true ∧ (runningJob true r0).eu.lineBegun = true ∧
        (runningJob true r0).eu.state = .running ∧ (runningJob false r0).eu.lineBegun = false) ∧
      ((runningJob true r0).memoryFits = true ∧ (runningJob true r0).eu.height ≤ (runningJob true r0).eu.linesSent + 1) ∧
      ({ r0 with eu := ⟨.running, false, false, [(0, 0)], 0, 2, 0, .none, true, [], none⟩ } : State).eu.height = 2 ∧
      ({ r0 with eu := ⟨.stopping, false, false, [(0, 0)], 0, 2, 0, .none, false, [], none⟩ } : State).eu.state = .stopping ∧
      (runningJob true r0).eu.columns[0]? = some (0, 0) ∧ (runningJob true r0).eu.quarter = false ∧
      (fetching [1#8] (some ⟨0, false⟩)).eu.reached = some ⟨0, false⟩ ∧ (fetching []).ringWaits .eu = true := by
  decide +kernel

/-- A line whose canvas bytes are read: what is left of it is the fill of the second column. -/
theorem witness_ExportJobSendsItsLines_line :
    (fetching [1#8, 3#8, 4#8] (some ⟨0, false⟩)).ringWaits .eu = false ∧
      (fetching [1#8, 3#8, 4#8] (some ⟨0, false⟩)).eu.state ≠ .idle ∧
      (fetching [1#8, 3#8, 4#8] (some ⟨0, false⟩)).unread = [⟨none, 1, 0⟩] ∧
      [1#8, 3#8, 4#8] ++ [16#8] = ((fetching []).eu.sources 0).map fun (c : Source) =>
        if c.part = some 0 then 3#8 else if c.part = some 1 then 4#8 else if c.pos = 0 then 1#8 else 16#8 := by
  decide +kernel

def listed (s : State) : State := { s with dr := { s.dr with enabled := true } }

def allBanks (st : BankState) (s : State) : State :=
  { s with pi := { s.pi with banks := ⟨bankIn st 1#16, bankIn st 2#16, bankIn st 3#16⟩ } }

theorem witness_FrameStartBySweepState :
    ((buffered (withSweep .sweeping)).pi.port = some .b0 ∧ (storing (withSweep .sweeping)).pi.port = some .b0 ∧
        ((storing (withSweep .sweeping)).bank .b0).state = .filling ∧
        ((storing (withSweep .sweeping)).bank .b0).serial = some 1#16) ∧
      (r0.pi.port = none ∧ r0.dr.gap = none ∧ r0.sc.sweep = .idle) ∧
      ((withGap none (withSweep .closing)).sc.sweep = .closing ∧ (listed (heldBy .lost)).sc.sweep = .held .lost) ∧
      (∀ b, ((allBanks .placed (withSweep .sweeping)).bank b).state ≠ .free) ∧
      ((withBank0 (bankIn .placed 1#16) (withSweep .armed)).bank .b1).state = .free ∧
      ∀ c, c.index < BankId.b1.index → ((withBank0 (bankIn .placed 1#16) (withSweep .armed)).bank c).state ≠ .free :=
  ⟨by decide, by decide, by decide,
    forBanks (by decide) (by decide) (by decide), by decide, forBanks (by decide) (by decide) (by decide)⟩

/-- An earlier gap whose word is applied, and one whose word faults, at a frame-start. -/
theorem witness_FrameStartBySweepState_earlier_gap :
    ((withGap (some 0xC0000000#32) (withSweep .sweeping)).pi.port = none ∧
      (withGap (some 0xC0000000#32) (withSweep .sweeping)).dr.enabled = true ∧
      (withGap (some 0xC0000000#32) (withSweep .sweeping)).dr.gap = some ⟨1#16, some ⟨0xC0000000#32, 128⟩⟩ ∧
      decodeDirective 128 0xC0000000#32 = none ∧ decodeDirective 128 0x10000000#32 = some .skip) ∧
      (∃ u, exec .frameStart { withGap (some 0#32) (withSweep .sweeping) with
        dr := { (withGap (some 0#32) (withSweep .sweeping)).dr with enabled := false } } = .next u) ∧
      (after .frameStart (withGap (some 0x10000000#32) (withSweep .sweeping)) fun t =>
        t.dr.gap = some ⟨1#16, none⟩ ∧ t.dr.readPtr = 0 ∧ t.dr.budget = 0) = true ∧
      (after .frameStart (withGap (some 0xC0000000#32) (withSweep .sweeping)) fun t =>
        t.dr.gap = none ∧ t.dr.enabled = false ∧ t.pi.port = some .b0) = true :=
  ⟨⟨rfl, rfl, rfl, by decide, by decide⟩, runs_next (by decide +kernel), by decide +kernel, by decide +kernel⟩

theorem witness_LineFillsTheStoringBank :
    r0.pi.port = none ∧ (storing (withSweep .sweeping)).memoryFits = true ∧
      (storing (withSweep .sweeping)).pi.port = some .b0 ∧
      ((buffered (withSweep .sweeping)).pi.port = some .b0 ∧ (buffered (withSweep .sweeping)).pi.filling.length + 1 = 64) ∧
      (∃ s : State, s.pi.port = some .b0 ∧ (s.bank .b0).lineCount = 1023 ∧ 1023 < s.geo.fh) ∧
      ∃ s : State, s.pi.port = some .b0 ∧ (s.bank .b0).lineCount = 1024 ∧ s.geo.fh ≤ 1024 :=
  ⟨by decide, by decide +kernel, by decide, by decide,
    ⟨withPort .b0 (withBank0 { bankIn .filling 1#16 with lineCount := 1023 } (withSweep .sweeping)), by decide⟩,
    ⟨withPort .b0 (withBank0 { bankIn .filling 1#16 with lineCount := 1024 } (withSweep .sweeping)), by decide⟩⟩

def stored (d : DropMark) : State :=
  withPort .b0 (withBank0 { bankIn .filling 1#16 with lineCount := 1024, drop := d } (withSweep .sweeping))

theorem witness_FrameEndDecidesTheFrame :
    r0.pi.port = none ∧
      (∀ d ∈ [DropMark.none, .held, .closing], (stored d).memoryFits = true ∧ (stored d).pi.port = some .b0 ∧
        ((stored d).bank .b0).state = .filling ∧ ((stored d).bank .b0).serial = some 1#16 ∧
        ((stored d).bank .b0).lineCount = (stored d).geo.fh ∧ ((stored d).bank .b0).damaged = false ∧
        ((stored d).bank .b0).drop = d) ∧
      ((storing (withSweep .sweeping)).bank .b0).lineCount ≠ (storing (withSweep .sweeping)).geo.fh := by decide +kernel

/-- A bank whose next line completes guide row `n`, with `rows` rows of cells selected. -/
def guided (n rows : Nat) : State :=
  withPort .b0 (withBank0 { bankIn .filling 1#16 with
    lineCount := 4 * n + 3, sums := List.replicate 192 0, guide := List.replicate n [], cellRows := rows } (withSweep .sweeping))

/-- With 1024 lines the first row of cells ends at guide row 42, so row 50 completes it. -/
theorem witness_CornerFinderSelectsTheCandidates :
    ((storing (withSweep .sweeping)).memoryFits = true ∧ ((storing (withSweep .sweeping)).bank .b0).lineCount % 4 = 0 ∧
      ((storing (withSweep .sweeping)).bank .b0).lineCount < r0.geo.fh) ∧
      ((guided 50 0).memoryFits = true ∧ (guided 50 0).pi.port = some .b0 ∧ ((guided 50 0).bank .b0).lineCount % 4 = 3 ∧
        ((guided 50 0).bank .b0).sums.length = r0.geo.fw / 4 ∧ ((0 + 1) * (r0.geo.fh / 4) - 1) / 6 + 9 = 51 ∧
        ((guided 50 0).bank .b0).guide.length = 50 ∧ ((guided 49 0).bank .b0).guide.length = 49) ∧
      ((stored .none).memoryFits = true ∧ (stored .none).pi.port = some .b0 ∧ ((stored .none).bank .b0).state = .filling ∧
        ((stored .none).bank .b0).lineCount = r0.geo.fh ∧ ((stored .none).bank .b0).damaged = false) ∧
      0 < r0.geo.fw / 32 ∧ 0 < (1 : Nat) := by decide +kernel

theorem witness_BankTakeBeginsThePass :
    ((matching .judge).me.pass ≠ none ∧ r0.pi.queue = [] ∧ (processingNow .aborting r0).stopping = true) ∧
      (∀ w ∈ [SweepState.armed, .sweeping], (queued (withSweep w)).me.pass = none ∧
        (queued (withSweep w)).pi.queue = .b0 :: [] ∧ ((queued (withSweep w)).bank .b0).state = .queued ∧
        (queued (withSweep w)).stopping = false ∧ ((queued (withSweep w)).bank .b0).serial = some 1#16 ∧
        (queued (withSweep w)).sc.sweep = w) ∧
      (∃ s : State, s.me.hint = some ⟨-2048, 127, some 1#16⟩ ∧ s.me.motion = [⟨0#16, 0, 1024⟩]) ∧
      (∃ s : State, s.me.hint = some ⟨0, 0, some 2#16⟩ ∧ (2#16 : Serial) ≠ 1#16) ∧
      ((withMode .searching r0).me.mode = .searching ∧ r0.me.mode ≠ .searching ∧ (203#16 : Serial) ≠ 202#16) :=
  ⟨by decide, by decide,
    ⟨{ r0 with me := { r0.me with hint := some ⟨-2048, 127, some 1#16⟩, motion := [⟨0#16, 0, 1024⟩] } }, by decide⟩,
    ⟨{ r0 with me := { r0.me with hint := some ⟨0, 0, some 2#16⟩ } }, by decide⟩, by decide⟩

/-- One candidate that is to be looked up, predicted at the landmark's position in entry 0. -/
def looking (w : Bool) : Pass :=
  { passAt (.lookup 0 w) with cands := [PassCand.fresh ⟨0, 0, 0, 500, 0#64⟩], predX := 1800, predY := 400 }

def lookingAt (w : Bool) (m : TrackMode) (r : Landmark) : State :=
  withMode m (withPass (looking w) (withLandmark r (withSweep .sweeping)))

/-- A landmark whose descriptor differs from the candidate's in the lowest `n` places. -/
def differing (n : Nat) (st : LandmarkState) : Landmark := { plainLandmark st with descriptor := BitVec.ofNat 64 (2 ^ n - 1) }

def verdictAfter (m : TrackMode) (r : Landmark) : Option Verdict :=
  match exec .lookup (lookingAt false m r) with
  | .next t => t.me.pass.bind fun p => p.cands.head?.map (·.verdict)
  | .fault _ => none
  | .refused _ => none

theorem witness_LookupComparesOneCandidate :
    (lookingAt false .locked (plainLandmark .tracked)).me.pass = some (looking false) ∧
      (lookingAt true .locked (plainLandmark .tracked)).me.pass = some (looking true) ∧
      (looking true).cands[0]? = some (PassCand.fresh ⟨0, 0, 0, 500, 0#64⟩) ∧ (looking true).stage = .lookup 0 true ∧
      (lookingAt true .locked (plainLandmark .tracked)).stopping = false ∧
      (processingNow .aborting (lookingAt true .locked (plainLandmark .tracked))).stopping = true ∧
      ∀ j w, (passAt .solve).stage ≠ .lookup j w :=
  ⟨rfl, rfl, rfl, rfl, rfl, rfl, (fun _ _ h => nomatch h)⟩

/-- A stop that came between a candidate's two lookups ends the pass after the second: until then ABORT's clear step
waits. -/
theorem test_stop_after_the_second_lookup :
    (after .abortClearStep (processingNow .aborting (matching (.lookup 0 true))) fun t =>
      t.me.pass.isSome ∧ t.sc.sweep = .sweeping) = true ∧
      (after .lookup (processingNow .aborting (matching (.lookup 0 true))) fun t =>
        t.me.pass = none ∧ (t.bank .b0).state = .free ∧ t.sc.last.outcome = .abandoned) = true ∧
      (after (.abort []) (matching (.lookup 0 true)) fun t => t.me.pass = (matching (.lookup 0 true)).me.pass) = true ∧
      (after (.abort []) (matching (.lookup 0 false)) fun t => t.me.pass = none) = true := by decide +kernel

/-- The verdict at the ends of its ranges: MATCH_DIST 10 and twice it, and the window's edge at 96 quarter units. -/
theorem witness_LookupComparesOneCandidate_verdicts :
    verdictAfter .locked (differing 10 .tracked) = some .isMatch ∧ verdictAfter .locked (differing 10 .fading) = some .stale ∧
      verdictAfter .locked (differing 11 .tracked) = some .near ∧ verdictAfter .locked (differing 20 .tracked) = some .near ∧
      verdictAfter .locked (differing 21 .tracked) = some .far ∧
      verdictAfter .locked { plainLandmark .tracked with y := 496 } = some .isMatch ∧
      verdictAfter .locked { plainLandmark .tracked with y := 497 } = some .none ∧
      verdictAfter .searching { plainLandmark .tracked with y := 497 } = some .isMatch := by decide +kernel

/-- In the wrapped lookup only an ORIGIN landmark is compared, 4·(FW − SEARCH_RADIUS) behind or further. -/
theorem witness_LookupComparesOneCandidate_wrapped :
    (∀ o, after .lookup (withPass { looking true with predX := 2976 }
        (withLandmark { plainLandmark .tracked with origin := o, x := 0, bin := 0 } (withSweep .sweeping)))
      (fun t => decide ((t.me.pass.bind fun p => p.cands.head?.map (·.verdict)) =
        some (if o then Verdict.wrapped else .none))) = true) := by decide +kernel

/-- A candidate that MATCHed a landmark at (x, y). -/
def matched (q p : Nat) (i : Nat) (x y : Int) : PassCand :=
  { PassCand.fresh ⟨0, q, p, 500, 0#64⟩ with verdict := .isMatch, chosen := some ⟨i, 0#4, x, y, 3⟩ }

def solving (cs : List PassCand) : Pass := { passAt .solve with cands := cs }

def solvedBy (cs : List PassCand) : Option Pass :=
  match exec .solve (withPass (solving cs) r0) with
  | .next t => t.me.pass
  | .fault _ => none
  | .refused _ => none

theorem witness_SolveElectsTheBusiestVote :
    (withPass (solving []) r0).me.pass = some (solving []) ∧ (solving []).stage = .solve ∧
      (solvedBy []).map (fun q => (q.inliers, q.solved)) = some (0, none) ∧
      (solvedBy [matched 0 0 1 1000 400, matched 8 8 2 1016 400]).map (fun q => (q.inliers, q.solved)) =
        some (2, some (1004, 396)) ∧
      (solvedBy [matched 0 0 1 1000 400, matched 8 8 2 1017 400]).map (fun q => (q.inliers, q.solved)) =
        some (1, some (1000, 400)) ∧
      (solvedBy [matched 0 0 1 1000 400, matched 8 8 1 1016 400]).map (fun q => q.cands.map (·.verdict)) =
        some [.isMatch, .ambiguous] := by decide +kernel

/-- Frame 1 at the judge with 6 inliers at u = n, after a record at u = 0. -/
def judging (n : Int) : Pass := { passAt .judge with inliers := 6, solved := some (4 * n, 1024) }

def judgeState (n : Int) : State :=
  withPass (judging n) (withBank0 (bankIn .matching 1#16)
    (withWindow [{ record 9#16 .blended with x := 0 }] (withSweep .sweeping)))

theorem witness_JudgeDecidesTheFrame :
    (∀ n ∈ [(8 : Int), 7, -16, -17, 640], (judgeState n).me.pass = some (judging n) ∧ (judging n).stage = .judge ∧
      (judging n).bank = some .b0 ∧ ((judgeState n).bank .b0).state = .matching ∧ (judging n).wrapMean = none ∧
      (judgeState n).pw = { record 9#16 .blended with x := 0 } :: [] ∧
      (judging n).solved = some (4 * n, 1024) ∧ r0.prm.minInliers ≤ (judging n).inliers ∧ roundDiv (4 * n) 4 = n) ∧
      ((r0.prm.minStep : Int) ≤ 8 ∧ 0 ≤ roundDiv 1024 4 ∧ roundDiv 1024 4 + r0.geo.fh ≤ r0.geo.ch ∧
        (r0.prm.minOverlap : Int) ≤ r0.geo.fw - 640 ∧ (640 : Int) + r0.geo.fw ≤ r0.geo.cw - 32) ∧
      (-(r0.prm.reverseTol : Int) ≤ -16 ∧ (7 : Int) < r0.prm.minStep ∧ (-17 : Int) < -(r0.prm.reverseTol : Int)) ∧
      (judgeState (-17)).masked .reversal = true := by decide +kernel

theorem witness_JudgeDecidesTheFrame_few_inliers :
    ((matching .judge).me.pass = some (passAt .judge) ∧ (passAt .judge).solved = none ∧ (passAt .judge).bank = some .b0 ∧
      (passAt .judge).wrapMean = none ∧ ((matching .judge).bank .b0).state = .matching ∧
      ({ judging 8 with inliers := 5 } : Pass).inliers < r0.prm.minInliers) ∧
      (withMode .searching (matching .judge)).me.mode = .searching ∧
      ((withMasks 0#8 (matching .judge)).me.mode ≠ .searching ∧ (withMasks 0#8 (matching .judge)).sc.sweep = .sweeping ∧
        (withMasks 0#8 (matching .judge)).masked .lowMatch = false ∧ (withMasks 0#8 (matching .judge)).pi.port = none) ∧
      ((matching .judge).masked .lowMatch = true ∧ (matching .judge).masked .lost = true ∧
        (matching .judge).me.predicted < (matching .judge).prm.predictLimit) ∧
      r0.prm.predictLimit ≤ ({ (matching .judge).me with predicted := 3 } : Matcher).predicted := by decide

/-- A frame stored into bank 1. -/
def storing1 (s : State) : State :=
  withPort .b1 { s with pi := { s.pi with banks := { s.pi.banks with b1 := bankIn .filling 2#16 } } }

/-- A hold marks the storing bank's frame HELD, at the judge, the push and a full table; in CLOSING an unmasked
condition takes its default. -/
theorem witness_holds_mark_the_storing_bank :
    (∀ e ∈ [(Instr.judge, matching .judge), (.push, withWindow fullWindow (matching (.push false))),
        (.admissionClaim, fullTable (fun _ => false) (withPass { passAt (.batch false) with
          admissions := [⟨410, 0#64, 1950, 0⟩] } (withSweep .sweeping)))],
      after e.1 (storing1 (withMasks 0#8 e.2)) (fun t => t.sc.sweep.isHeld ∧ (t.bank .b1).drop = .held) = true ∧
        (storing1 (withMasks 0#8 e.2)).pi.port = some .b1 ∧ ((storing1 (withMasks 0#8 e.2)).bank .b1).drop = .none) ∧
      (withMasks 0#8 (withSweep .closing)).masked .lowMatch = false ∧
      after .judge (withMasks 0#8 (matching .judge (withSweep .closing))) (fun t =>
        t.sc.sweep = .closing ∧ t.sc.flags = 1#8 ∧ t.me.mode = .coasting) = true := by decide +kernel

/-- Frame 1 at u = `n` and row `y`, with every condition but those of `m` unmasked. -/
def reporting (n y : Int) (m : BitVec 8) : State :=
  withMasks m (withPass { passAt .judge with inliers := 6, solved := some (4 * n, 4 * y) } (judgeState n))

def stageAfter (s : State) : Option (SweepState × Option Stage) :=
  match exec .judge s with
  | .next t => some (t.sc.sweep, t.me.pass.map (·.stage))
  | .fault _ => none
  | .refused _ => none

/-- Each report at the last value that makes it: rows −1 and CH − FH + 1, overlap MIN_OVERLAP − 1, and the leading edge
at CW − 31; and the values before them, which pass. -/
theorem witness_JudgeReportsAndTestsTheClosure :
    (reporting 8 256 0#8).sc.sweep = .sweeping ∧ (reporting 8 256 0#8).pi.port = none ∧
      (reporting 8 256 0#8).pw = { record 9#16 .blended with x := 0 } :: [] ∧
      stageAfter (reporting 8 0 0#8) = some (.sweeping, some (.push false)) ∧
      stageAfter (reporting 8 (-1) 0#8) = some (.held .vertical, some .judgeHeld) ∧
      stageAfter (reporting 8 256 0#8) = some (.sweeping, some (.push false)) ∧
      stageAfter (reporting 8 257 0#8) = some (.held .vertical, some .judgeHeld) ∧
      stageAfter (reporting 640 256 0#8) = some (.sweeping, some (.push false)) ∧
      stageAfter (reporting 641 256 0#8) = some (.held .speed, some .judgeHeld) ∧
      stageAfter (reporting 7393 256 0x10#8) = some (.held .canvasFull, some .judgeHeld) ∧
      stageAfter (reporting 7393 256 0xFF#8) = some (.closing, none) ∧
      stageAfter (reporting 7392 256 0xFF#8) = some (.sweeping, some (.push false)) ∧
      stageAfter (reporting (-17) 256 0#8) = some (.held .reversal, some .judgeHeld) := by decide +kernel

/-- In CLOSING an unmasked report takes its default: CLIPPED and GAP, CANVAS_END, REVERSED. -/
theorem witness_JudgeReportsAndTestsTheClosure_closing :
    (withSweep .closing (reporting 641 257 0#8)).masked .vertical = false ∧
      stageAfter (withSweep .closing (reporting 641 257 0#8)) = some (.closing, some (.push false)) ∧
      stageAfter (withSweep .closing (reporting 7393 256 0#8)) = some (.closing, none) ∧
      stageAfter (withSweep .closing (reporting (-17) 256 0#8)) = some (.closing, none) := by decide +kernel

/-- The closure cluster at its limits: 8 votes at CLOSE_MIN, r_y at CLOSE_VTOL 32, and LOST held at the limit. -/
theorem witness_JudgeReportsAndTestsTheClosure_cluster :
    (closureTest r0.geo r0.prm { judging 8 with how := .matched, wrapMean := some (7, 0, 0) } = none ∧
      closureTest r0.geo r0.prm { judging 768 with how := .matched, wrapMean := some (8, 0, 896) } =
        some ⟨768, 32, 8, none⟩ ∧
      closureTest r0.geo r0.prm { judging 768 with how := .matched, wrapMean := some (8, 0, 892) } =
        some ⟨768, 33, 8, some .residual⟩ ∧
      closureTest r0.geo r0.prm { judging 767 with how := .matched, wrapMean := some (8, 0, 1024) } =
        some ⟨767, 0, 8, some .circumference⟩) ∧
      ∃ s : State, s.me.pass = some (passAt .judge) ∧ s.masked .lowMatch = true ∧ s.masked .lost = false ∧
        s.prm.predictLimit ≤ s.me.predicted ∧ s.me.mode ≠ .searching ∧ s.sc.sweep = .sweeping :=
  ⟨by decide, ⟨withMasks 1#8 { matching .judge with me := { (matching .judge).me with predicted := 3 } }, by decide⟩⟩

theorem witness_PushEntersTheWindow :
    ((matching (.push false)).me.pass = some (passAt (.push false)) ∧ (passAt (.push false)).bank = some .b0 ∧
      ((matching (.push false)).bank .b0).state = .matching ∧ (matching (.push false)).saving = false ∧
      (matching (.push false)).pw.length < 8) ∧
      (withOp (.quiet .s0) (matching (.push true))).saving = true ∧
      (∀ r ∈ (withWindow fullWindow.tail (matching (.push false))).pw, r.serial ≠ (passAt (.push false)).serial) ∧
      fullWindow.tail.length < 8 ∧ 8 ≤ fullWindow.length ∧
      (∃ r ∈ (withWindow [record 1#16 .blended] (matching (.push false))).pw, r.serial = (passAt (.push false)).serial) ∧
      ((withMasks 0#8 (matching (.push false))).sc.sweep = .sweeping ∧
        (withMasks 0#8 (matching (.push false))).masked .windowOverflow = false ∧
        (withMasks 0#8 (matching (.push false))).pi.port = none) ∧
      (matching (.push false)).masked .windowOverflow = true ∧
      ((withSweep .armed).sc.mark0.action ≠ .finish ∧ (withSweep .armed).sc.mark1.action ≠ .finish) :=
  ⟨by decide, by decide, by decide, by decide, by decide, ⟨record 1#16 .blended, List.mem_cons_self, by decide⟩, by decide,
    by decide, by decide⟩

def marked (m : Mark) (s : State) : State := { s with sc := { s.sc with mark0 := m } }

/-- A frame at X 0 takes progress to FW = 768: a mark at 768 fires, one at 769 does not; the push with FINISH closes the
sweep, and a cluster kept from check 5 is taken. -/
theorem witness_PushReportFiresMarksAndClosure :
    (after .push (marked ⟨768, .cueSet, true⟩ (matching (.push false))) fun t =>
      t.sc.cue && !t.sc.mark0.armed && t.li.events.getLsbD 7) = true ∧
      (after .push (marked ⟨769, .cueSet, true⟩ (matching (.push false))) fun t => t.sc.mark0.armed && !t.sc.cue) = true ∧
      (after .push (marked ⟨768, .finish, true⟩ (matching (.push false))) fun t => t.sc.sweep = .closing) = true ∧
      (after .push (withPass { passAt (.push false) with closure := some ⟨800, 0, 8, none⟩ } (matching (.push false)))
        fun t => t.sc.sweep = .closing ∧ t.sc.closure = ⟨.detected, 800, 0, 8, 1#16, 0, none⟩) = true ∧
      (after .push (withPass { passAt (.push false) with closure := some ⟨700, 0, 8, some .circumference⟩ }
        (matching (.push false))) fun t => t.sc.closure =
          ⟨.none, 0, 0, 0, 0#16, 1, some ⟨1#16, 700, 0, 8, .circumference⟩⟩) = true := by decide +kernel

theorem witness_PushReportFiresMarksAndClosure_premises :
    (matching (.push true)).me.pass = some (passAt (.push true)) ∧ (matching (.push true)).saving = false ∧
      ((withWindow fullWindow (matching (.push true))).pw.length = 8 ∧
        ((withWindow fullWindow (matching (.push true))).pw.map (·.serial)).Nodup) ∧
      ((queued (matching (.push true))).pi.queue.Nodup ∧ (matching (.push true)).pi.queue = []) := by decide

/-- A push that needs a force-commit while a block is being written. -/
theorem witness_PushEntersTheWindow_inside_a_block : ∃ (s : State) (p : Pass) (q : BlendPass), s.me.pass = some p ∧
    p.stage = .push false ∧ p.bank = some .b0 ∧ (s.bank .b0).state = .matching ∧ s.saving = false ∧ 8 ≤ s.pw.length ∧
    s.masked .windowOverflow = true ∧ s.bu.pass = some q ∧ q.stage = .inBlock 0 [] ⟨64, []⟩ :=
  ⟨{ withWindow fullWindow (matching (.push false)) with bu := (thin (.inBlock 0 [] ⟨64, []⟩)).bu }, passAt (.push false),
    { blendAt (.inBlock 0 [] ⟨64, []⟩) with y0 := 511 }, by decide +kernel⟩

theorem witness_FootprintAndBatchOpening :
    ((withOp (.quiet .s0) (matching .footprint)).me.pass = some (passAt .footprint) ∧
      (withOp (.quiet .s0) (matching .opening)).saving = true) ∧
      ((matching .footprint).me.pass = some (passAt .footprint) ∧ (matching .footprint).saving = false) ∧
      ((matching .opening).me.pass = some (passAt .opening) ∧ (passAt .opening).how ≠ .origin) ∧
      ({ passAt .opening with how := .matched } : Pass).how = .matched := by decide

theorem witness_SightingsAreRecorded :
    ((withPass claims r0).openPass = some claims ∧ claims.sights = (.hit, ⟨0, 0#4, 1808, 404⟩) :: [] ∧
      r0.ltc.lm 0 = none) ∧
      ((withPass reviving r0).openPass = some reviving ∧
        reviving.sights = (.revive, ⟨0, 0#4, 0, 0⟩) :: [(.hit, ⟨1, 0#4, 1808, 404⟩)]) ∧
      ((withPass claims (withLandmark (plainLandmark .tracked) r0)).openPass = some claims ∧
        (withLandmark (plainLandmark .tracked) r0).ltc.lm 0 = some (plainLandmark .tracked) ∧
        (withLandmark (plainLandmark .tracked) r0).ltc.gen 0 = 0#4 ∧
        (withLandmark (plainLandmark .tracked) r0).ltc.gen 0 ≠ 1#4) ∧
      (((withLandmark (plainLandmark .tracked) r0).ltc.bin 7).length < 8 ∧ 8 ≤ (List.range 8).length) := by decide +kernel

theorem witness_MissesFadeOrRetire :
    (∀ l ∈ [(⟨LandmarkState.fading, 4⟩ : LandmarkState × Nat), ⟨.fading, 5⟩, ⟨.tracked, 1⟩, ⟨.tracked, 2⟩, ⟨.tentative, 2⟩],
      ∃ (s : State) (p : Pass), s.openPass = some p ∧ p.sights = [] ∧ p.misses = ⟨0, 0#4, 0, 0⟩ :: [] ∧
        s.ltc.lm 0 = some { plainLandmark l.1 with misses := l.2 } ∧ s.ltc.gen 0 = 0#4) ∧
      (4 + 1 < 2 * r0.prm.missLimit ∧ 2 * r0.prm.missLimit ≤ 5 + 1 ∧ 1 + 1 < r0.prm.missLimit ∧ r0.prm.missLimit ≤ 2 + 1) ∧
      r0.ltc.lm 0 = none :=
  ⟨fun l _ => ⟨withPass { claims with sights := [] }
      (withLandmark { plainLandmark l.1 with misses := l.2 } r0), { claims with sights := [] },
      rfl, rfl, rfl, rfl, rfl⟩, by decide, by decide +kernel⟩

def admitting (y : Int) : Pass := { passAt (.batch false) with admissions := [⟨410, 0#64, 1950, y⟩] }

theorem witness_AdmissionTakesAnEntry :
    (∀ y ∈ [(-1 : Int), 0, 5119, 5120], (withPass (admitting y) r0).openPass = some (admitting y) ∧
      (admitting y).sights = [] ∧ (admitting y).misses = [] ∧
      (admitting y).admissions = ⟨410, 0#64, 1950, y⟩ :: []) ∧
      (4 * (r0.geo.ch : Int) - 1 = 5119 ∧ (r0.ltc.bin (r0.geo.binOf 1950)).length < 8) ∧
      (r0.ltc.entries[0]? = some ⟨0#4, none⟩ ∧ (∀ k < 0, r0.ltc.lm k ≠ none)) ∧
      ((withLandmark (plainLandmark .tracked) r0).ltc.entries[1]? = some ⟨0#4, none⟩ ∧
        ∀ k < 1, (withLandmark (plainLandmark .tracked) r0).ltc.lm k ≠ none) := by decide +kernel

theorem witness_AdmissionTakesAnEntry_full :
    (∀ e ∈ (fullTable (fun _ => false) r0).ltc.entries, e.lm ≠ none) ∧
      (admitting 0).stage = .batch false ∧
      ((withMasks 0#8 (withSweep .sweeping)).sc.sweep = .sweeping ∧
        (withMasks 0#8 (withSweep .sweeping)).masked .tableFull = false ∧
        (withMasks 0#8 (withSweep .sweeping)).pi.port = none) ∧
      (withSweep .sweeping).masked .tableFull = true ∧
      (∃ k r, (fullTable (fun k => k == 255) r0).ltc.lm k = some r ∧ r.evictable = true) :=
  ⟨by decide +kernel, by decide, by decide, by decide,
    ⟨255, plainLandmark .tentative, by decide +kernel, by decide⟩⟩

theorem none_evictable : ∀ k r, (fullTable (fun _ => false) r0).ltc.lm k = some r → r.evictable = false := by
  intro k r h
  unfold Table.lm fullTable at h
  rw [Option.bind_eq_some_iff] at h
  obtain ⟨e, he, hr⟩ := h
  have hm := List.mem_of_getElem? he
  rw [List.mem_map] at hm
  obtain ⟨n, _, rfl⟩ := hm
  cases hr
  rfl

theorem witness_StaleCountEndsTheBatch :
    (matching .report).me.pass = some (passAt .report) ∧ (passAt .report).stage = .report := by decide

theorem witness_BlendTakesTheOldestPlacement :
    ((blending (.measuring [])).bu.pass ≠ none ∧ ({ r0.bu with join := some ⟨0, 1, 0, 0, .start⟩ } : Blender).join ≠ none ∧
      (withOp (.copy .s0 0#16) r0).copying = true ∧ (withOp (.apply .s0) r0).stopping = true ∧
      (∀ r ∈ (withWindow fullWindow r0).pw, r.state ≠ .placed)) ∧
      ∃ (s : State) (r : Placement), s.bu.pass = none ∧ s.bu.join = none ∧ s.copying = false ∧ s.stopping = false ∧
        s.pw = [record 2#16 .placed] ++ r :: [record 9#16 .blended] ∧ r.state = .placed ∧
        (∀ q ∈ [record 9#16 .blended], q.state ≠ .placed) ∧
        (∀ q ∈ [record 2#16 .placed] ++ [record 9#16 .blended], q.serial ≠ r.serial) ∧
        (s.bank .b0).state = .placed ∧ (s.bank .b0).serial = some r.serial ∧
        ∀ c, (s.bank c).serial = some r.serial → c = .b0 :=
  ⟨by decide, ⟨withWindow [record 2#16 .placed, record 1#16 .placed, record 9#16 .blended]
    (withBank0 (bankIn .placed 1#16) r0), record 1#16 .placed, by decide, by decide, by decide, by decide, by decide,
    by decide, by decide, by decide, by decide, by decide, forBanks (by decide) (by decide) (by decide)⟩⟩

theorem witness_SeamFixFillsTheUsedPart :
    (blending (.measuring [])).bu.pass = some (blendAt (.measuring [])) ∧
      (blending (.measuring [])).record 1#16 = some (record 1#16 .blending) ∧ (blending (.measuring [])).bu.reference = none ∧
      ({ (blending (.measuring [])).bu with reference := some ⟨0, 0, 383⟩ } : Blender).reference = some ⟨0, 0, 383⟩ := by
  decide +kernel

/-- One sample, read for the gain and for the candidate: gain round(64·60/50) = 77, 32 and 128 at its ends, 128 for a
frame sum of 0, and 64 with no overlap column, where the seam range is empty too. Before all of it is read the step waits,
and a granted burst reads on. -/
theorem witness_SeamFixFillsTheUsedPart_gain :
    (∀ e ∈ [((60#8, 50#8), 77), ((10#8, 100#8), 32), ((200#8, 50#8), 128), ((0#8, 0#8), 128), ((1#8, 1#8), 64)],
      after .seamFix (measuringAt 1 [e.1.1, e.1.2, e.1.1, e.1.2])
        (fun t => t.bu.pass.map (·.seam) = some ⟨0, 0, e.2⟩) = true) ∧
      after .seamFix (measuringAt (-88) []) (fun t => t.bu.pass.map (·.seam) = some ⟨0, 0, 64⟩) = true ∧
      after .seamFix (measuringAt 1 [9#8, 9#8, 9#8])
        (fun t => t.bu.pass.map (·.stage) = some (.measuring [9#8, 9#8, 9#8])) = true ∧
      after .secondSlot (measuringAt 1 [9#8]) (fun t => match (t.bu.pass.map (·.stage) : Option BlendStage) with
        | some (.measuring l) => decide (l.length = 4 ∧ l.head? = some 9#8)
        | _ => false) = true := by
  decide +kernel

/-- Of candidates with equal sums the nearest to the centre is taken, and of those the furthest behind. -/
theorem witness_SeamFixFillsTheUsedPart_seam :
    bestSeam (fun _ => 5) 40 [0, 4, 8, 12, 16, 20, 24, 28, 32, 36, 40] = some 20 ∧ bestSeam (fun _ => 5) 20 [8, 12] = some 8 ∧
      bestSeam (fun u => if u = 28 then 4 else 5) 40 [0, 4, 8, 12, 16, 20, 24, 28] = some 28 ∧ bestSeam (fun _ => 0) 0 [] = none := by
  decide

theorem witness_BlockWriteOpensTheBlock :
    ((blending (.writing [0, 1])).bu.pass = some (blendAt (.writing [0, 1])) ∧
      (blending (.writing [0, 1])).stopping = false ∧
      (withOp (.apply .s0) (blending (.writing [0, 1]))).stopping = true ∧
      (max 0 (blendAt (.writing [0, 1])).y0 ≤ min ((small.geo.ch : Int) - 1) ((blendAt (.writing [0, 1])).y0 + small.geo.fh - 1)) ∧
      (blending (.writing [0, 1])).coverageAt (small.geo.blockAt 0) = .blank) ∧
      (∀ c ∈ [Coverage.committed, .opened 1#16, .opened 9#16],
        ({ blending (.writing [0]) with bu := { (blending (.writing [0])).bu with
          coverage := List.replicate 64 c } } : State).coverageAt (small.geo.blockAt 0) = c) ∧
      (min ((small.geo.ch : Int) - 1) (-384 + small.geo.fh - 1) < max 0 (-384)) ∧
      ((⟨100, 32, 64⟩ : SeamPart).first + 32 ≤ 116 ∧ (⟨100, 32, 64⟩ : SeamPart).first = 84) ∧
      ((blendAt (.inBlock 0 [1] ⟨64, []⟩)).stage = .inBlock 0 [1] ⟨64, []⟩ ∧
        ((thin (.inBlock 0 [] ⟨64, []⟩)).blockOutputs { blendAt (.inBlock 0 [] ⟨64, []⟩) with y0 := 511 } 0).length = 64) := by
  decide +kernel

theorem witness_BlendEndCommitsAndRetires :
    ((blending (.writing [])).bu.pass = some (blendAt (.writing [])) ∧ (blending (.writing [])).stopping = false) ∧
      (blending (.ending true true)).bu.pass = some (blendAt (.ending true true)) ∧
      ((blending (.ending false false)).bu.pass = some (blendAt (.ending false false)) ∧
        ((blending (.ending false false)).bank (blendAt (.ending false false)).bank).state = .blending) ∧
      (withWindow [] r0).pw = [] ∧ (withWindow [record 1#16 .blended] r0).pw = record 1#16 .blended :: [] := by decide +kernel

def closed (st : ClosureState) (s : State) : State := { s with sc := { s.sc with closure := { s.sc.closure with state := st } } }

def joining (n : Nat) : State := { small with bu := { small.bu with join := some ⟨n, 32, 1024, 0, .start⟩ } }

theorem witness_ClosingJoinsAndFinishes :
    r0.closingReady = false ∧ ((closed .detected (withSweep .closing)).closingReady = true ∧
        (closed .detected (withSweep .closing)).sc.closure.state = .detected) ∧
      (0 < (closed .detected (withSweep .closing)).prm.feather ∧
        ({ withSweep .closing with prm := { r0.prm with feather := 0 } } : State).prm.feather = 0) ∧
      ((withSweep .closing).closingReady = true ∧ (withSweep .closing).sc.closure.state ≠ .detected) ∧
      ((joining 30).bu.join = some ⟨30, 32, 1024, 0, .start⟩ ∧ (joining 30).stopping = false ∧
        30 + 1 < 32 ∧ 32 ≤ 31 + 1 ∧ (withOp (.apply .s0) (joining 31)).stopping = true) ∧
      (joinAt 31 ⟨3, []⟩).bu.join = some ⟨31, 32, 1024, 511, ⟨3, []⟩⟩ ∧ (⟨3, []⟩ : Transfer) ≠ .start ∧
      ((joinAt 31 .start).joinOutputs ⟨31, 32, 1024, 511, .start⟩ 31).length = 3 := by decide +kernel

theorem witness_DirectivesActFlowOrFault :
    (withGap (some 0#32) r0).dr.gap = some ⟨1#16, some ⟨0#32, 128⟩⟩ ∧ r0.geo.nBins = 128 ∧
      (decodeDirective 128 0#32 = some .stop ∧ decodeDirective 128 0x10000000#32 = some .skip ∧
        decodeDirective 128 0x200003FF#32 = some (.next 1023) ∧
        decodeDirective 128 0x300003FF#32 = some (.nextAndStop 1023) ∧ decodeDirective 128 0x40000000#32 = some .signal ∧
        decodeDirective 128 0x58007F00#32 = some (.hint (-2048) 127) ∧
        decodeDirective 128 0x600000FF#32 = some (.masks 0xFF#8) ∧
        decodeDirective 128 0x7400FFFF#32 = some (.mark false .finish 65535) ∧
        decodeDirective 128 0x7C00FFFF#32 = some (.mark true .finish 65535) ∧
        decodeDirective 128 0x87F00080#32 = some (.retireRegion 127 128) ∧
        decodeDirective 128 0x90000004#32 = some (.blend 64)) ∧
      ((withBank0 (bankIn .queued 1#16) r0).withoutOutcome 1#16 = true ∧ r0.withoutOutcome 1#16 = false) := by decide +kernel

theorem witness_DirectivesActFlowOrFault_faults :
    decodeDirective 128 0xA0000000#32 = none ∧ decodeDirective 128 0xF0000000#32 = none ∧
      decodeDirective 128 0x10000001#32 = none ∧ decodeDirective 128 0x20000400#32 = none ∧
      decodeDirective 128 0x50000001#32 = none ∧ decodeDirective 128 0x60000100#32 = none ∧
      decodeDirective 128 0x75000000#32 = none ∧ decodeDirective 128 0x70010000#32 = none ∧
      decodeDirective 128 0x80000000#32 = none ∧ decodeDirective 128 0x88000001#32 = none ∧
      decodeDirective 128 0x90000005#32 = none := by decide +kernel

theorem witness_DirectiveWordsReadBack :
    (∀ d ∈ [Directive.hint (-2048) (-128), .hint 2047 127, .next 1023, .mark true .finish 65535, .blend 64],
      d.valid 256 = true) ∧ (Directive.retireRegion 255 256).valid 256 = true := by decide

end Sys2Proof.Tests
end

/-! ### The end of the batch: the stale-count claim (R84, R100) -/

namespace Sys2Proof.Machine

theorem exec_staleCountClaim (s : State) : exec .staleCountClaim s = execStaleCountClaim s := rfl

/-- PW enters a value in the record of a serial: under a condition, that is a condition on the window alone. -/
theorem State.ite_updateRecord (s : State) (c : Prop) [Decidable c] (v : Serial) (f : Placement → Placement) :
    (if c then s.updateRecord v f else s) =
      { s with pw := if c then s.pw.map fun r => if r.serial = v then f r else r else s.pw } := by
  split <;> rfl

/-- SC changes its own registers: under a condition, that is a condition on those registers alone. -/
theorem State.ite_sc (s : State) (c : Prop) [Decidable c] (sc : Control) :
    (if c then { s with sc := sc } else s) = { s with sc := if c then sc else s.sc } := by
  split <;> rfl

/-- Settles O53. A pass that reports makes up to two entries, which lie in different parts of the state: the one in the
window leaves the last frame record's test as it was, so each entry is a condition on its own part, and the pass ends
in any case. -/
theorem staleCountEndsTheBatch : Obligations.StaleCountEndsTheBatch := by
  intro s p hpass hreport
  rw [exec_staleCountClaim, execStaleCountClaim]
  simp only [hpass, if_pos hreport]
  rw [State.ite_updateRecord, State.ite_sc]
  rfl

end Sys2Proof.Machine

/-! ### ATTN follows the event flags and their enables (R188)

Two operations of the model write the flags: `State.driveEvents`, which drives ATTN anew, and a reset, which clears flags,
enables and ATTN. Everything else leaves all three as they were or goes through `State.raise`, so each operation keeps
`AttnLaw` by the lemmas of the operations it is made of. `AttnLaw.settle` says it of `State.settle`, and so for the others;
`AttnLaw.after_judge` says it of the step of the row JUDGE. -/

namespace Sys2Proof.Machine

/-- Every bit of the event register is the flag of an event (11.3). -/
theorem Event.exists_bit {i : Nat} (h : i < 14) : ∃ e : Event, e.bit = i := by
  have all : ∀ i < 14, ∃ e ∈ [Event.held, .closure, .finished, .aborted, .exportDone, .checkpointDone, .rollbackDone,
      .mark0, .mark1, .capture, .directiveSignal, .directiveFault, .frameDropped, .framePlaced], e.bit = i := by decide
  obtain ⟨e, _, he⟩ := all i h
  exact ⟨e, he⟩

/-- What the bitwise test of the two registers says about events. -/
theorem attnOf_iff (events enables : BitVec 14) :
    attnOf events enables = true ↔ ∃ e : Event, events.getLsbD e.bit = true ∧ enables.getLsbD e.bit = true := by
  rw [attnOf, bne_iff_ne]
  constructor
  · intro hne
    by_contra hnone
    refine hne (BitVec.eq_of_getLsbD_eq fun i hi => ?_)
    obtain ⟨e, rfl⟩ := Event.exists_bit hi
    simpa using not_and.mp (not_exists.mp hnone e)
  · rintro ⟨e, hset, henabled⟩ hzero
    have hbit := congrArg (BitVec.getLsbD · e.bit) hzero
    simp [hset, henabled] at hbit

theorem attnLaw_driveEvents (s : State) (events enables : BitVec 14) : AttnLaw (s.driveEvents events enables) :=
  attnOf_iff events enables

theorem attnLaw_raise (s : State) (e : Event) : AttnLaw (s.raise e) := attnLaw_driveEvents s _ _

/-- With every flag clear and ATTN deasserted the law holds, as at a reset (R190, R191). -/
theorem attnLaw_of_clear {s : State} (hattn : s.li.attn = false) (hevents : s.li.events = 0#14) : AttnLaw s := by
  simp [AttnLaw, hattn, hevents]

namespace AttnLaw

variable {s : State}

/-- The law is about LI alone. -/
theorem of_li {t : State} (h : AttnLaw s) (hli : t.li = s.li) : AttnLaw t := by
  unfold AttnLaw
  rw [hli]
  exact h

/-- A test of a rule: whichever branch is taken keeps the law, a refusal among them. -/
theorem ite {c : Prop} [Decidable c] {t u : State} (ht : AttnLaw t) (hu : AttnLaw u) :
    AttnLaw (if c then t else u) := by
  split
  · exact ht
  · exact hu

/-! #### Operations that leave flags, enables and ATTN as they were -/

theorem answer {data : List Byte} (h : AttnLaw s) : AttnLaw (s.answer data) := h

theorem setPass {p : Option Pass} (h : AttnLaw s) : AttnLaw (s.setPass p) := h

theorem leaveStore (h : AttnLaw s) : AttnLaw s.leaveStore := h

theorem leaveHeld (h : AttnLaw s) : AttnLaw s.leaveHeld := h

theorem dropGap (h : AttnLaw s) : AttnLaw s.dropGap := h

theorem countFrame (h : AttnLaw s) : AttnLaw s.countFrame := h

theorem toIdle (h : AttnLaw s) : AttnLaw s.toIdle := h

theorem clearHint {v : Serial} (h : AttnLaw s) : AttnLaw (s.clearHint v) := h.of_li (by simp)

theorem markStoring {m : DropMark} (h : AttnLaw s) : AttnLaw (s.markStoring m) := h.of_li (by simp)

theorem dropWaitingFinish (h : AttnLaw s) : AttnLaw s.dropWaitingFinish := h.of_li (by simp)

theorem hintFor {v : Serial} {x y : Int} (h : AttnLaw s) : AttnLaw (s.hintFor v x y) := h.of_li (by simp)

theorem loadMark {u : Bool} {a : MarkAction} {n : Nat} (h : AttnLaw s) : AttnLaw (s.loadMark u a n) :=
  h.of_li (by simp)

theorem beginOrigin {b : BankId} (h : AttnLaw s) : AttnLaw (s.beginOrigin b) := h.of_li (by simp)

theorem beginMatch {b : BankId} (h : AttnLaw s) : AttnLaw (s.beginMatch b) := h.of_li (by simp)

theorem takeClaim {p : Pass} {c : UpdateClaim} {f : Landmark → Table} (h : AttnLaw s) : AttnLaw (s.takeClaim p c f) :=
  h.of_li (by simp)

theorem blendBurst (h : AttnLaw s) : AttnLaw s.blendBurst := h.of_li (by simp)

theorem finishBlend {b : BlendPass} (h : AttnLaw s) : AttnLaw (s.finishBlend b) := h.of_li (by simp)

theorem joinAdvance {j : Join} (h : AttnLaw s) : AttnLaw (s.joinAdvance j) := h.of_li (by simp)

theorem beginSave {k : SlotId} (h : AttnLaw s) : AttnLaw (s.beginSave k) := h.of_li (by simp)

theorem clearFlags (h : AttnLaw s) : AttnLaw s.clearFlags := by
  unfold State.clearFlags
  split <;> exact h

/-! #### Outcomes, holds and sweep states -/

theorem recordOutcome {lf : LastFrame} (h : AttnLaw s) : AttnLaw (s.recordOutcome lf) :=
  ite (attnLaw_raise _ _) (ite h h)

theorem settle {b : BankId} {lf : LastFrame} (h : AttnLaw s) : AttnLaw (s.settle b lf) := ite (recordOutcome h) h

theorem settleIntake {b : BankId} {o : FrameOutcome} (h : AttnLaw s) : AttnLaw (s.settleIntake b o) :=
  clearHint (settle h)

theorem foldl_settleIntake {l : List BankId} {o : FrameOutcome} (h : AttnLaw s) :
    AttnLaw (l.foldl (fun s b => s.settleIntake b o) s) :=
  List.foldlRecOn l _ h fun _ hs _ _ => settleIntake hs

theorem releaseQueue (h : AttnLaw s) : AttnLaw s.releaseQueue := foldl_settleIntake h

theorem abandonBanks (h : AttnLaw s) : AttnLaw s.abandonBanks := by
  refine of_li (foldl_settleIntake (l := bankIds) (foldl_settleIntake ?_)) rfl
  split
  · exact settleIntake h
  · exact h

theorem report {c : Condition} (h : AttnLaw s) : AttnLaw (s.report c).1 := by
  unfold State.report
  dsimp only
  split
  · exact attnLaw_raise _ _
  · exact h

theorem enterClosing (h : AttnLaw s) : AttnLaw s.enterClosing := releaseQueue (markStoring h)

/-! #### The end of a pass and of a sweep -/

theorem settlePass {p : Pass} {lf : LastFrame} (h : AttnLaw s) : AttnLaw (s.settlePass p lf) := by
  unfold State.settlePass
  split
  · exact settle h
  · exact h

theorem endPassWith {p : Pass} {o : FrameOutcome} (h : AttnLaw s) : AttnLaw (s.endPassWith p o) :=
  setPass (settlePass h)

theorem stopPass (h : AttnLaw s) : AttnLaw s.stopPass := by
  unfold State.stopPass
  split
  · exact ite (endPassWith h) h
  · exact h

theorem meetStop (h : AttnLaw s) : AttnLaw s.meetStop := ite (stopPass h) h

theorem giveUpHeld (h : AttnLaw s) : AttnLaw s.giveUpHeld := by
  unfold State.giveUpHeld
  split
  · split
    case h_1 | h_2 => exact endPassWith h
    all_goals exact h
  · exact h

theorem finishSweep (h : AttnLaw s) : AttnLaw s.finishSweep := by
  unfold State.finishSweep
  split
  case h_1 => exact attnLaw_raise _ _
  case h_2 => exact enterClosing h
  case h_3 => exact enterClosing (giveUpHeld h)
  all_goals exact h

/-! #### Context operations and the jobs of EU -/

theorem takeWaitingFinish (h : AttnLaw s) : AttnLaw s.takeWaitingFinish := by
  have hcapture {t : State} (ht : AttnLaw t) : AttnLaw (if t.sc.captureFinishWaits then
      if t.sc.sweep.canFinish then (t.setCaptureResult .taken).finishSweep else t.setCaptureResult .none
    else t) := ite (ite (finishSweep ht) ht) ht
  exact hcapture (ite (finishSweep h) h)

theorem stopJob (h : AttnLaw s) : AttnLaw s.stopJob := by
  unfold State.stopJob
  split
  · exact ite h (attnLaw_raise _ _)
  · exact h
  · exact h

theorem stopContext (h : AttnLaw s) : AttnLaw s.stopContext := by
  unfold State.stopContext
  split
  case h_4 | h_5 => exact dropWaitingFinish (attnLaw_raise _ _)
  all_goals exact h

theorem afterLine (h : AttnLaw s) : AttnLaw s.afterLine := ite (attnLaw_raise _ _) h

/-- A verify's end raises ROLLBACK_DONE, so ATTN is driven anew whatever stood before. -/
theorem verifyFails {k : SlotId} {r : RollbackResult} : AttnLaw (s.verifyFails k r) :=
  takeWaitingFinish (attnLaw_raise _ _)

/-! #### Directive lists -/

theorem applyDirective {v : Serial} {d : Directive} (h : AttnLaw s) : AttnLaw (s.applyDirective v d) := by
  cases d
  case signal => exact attnLaw_raise s _
  case hint dx dy => exact hintFor (v := v) (x := dx) (y := dy) h
  case mark u a n => exact loadMark (u := u) (a := a) (n := n) h
  all_goals exact h

theorem applyWord {v : Serial} {w : ReadWord} (h : AttnLaw s) : AttnLaw (s.applyWord v w) := by
  unfold State.applyWord
  split
  · exact applyDirective h
  · exact attnLaw_raise _ _

theorem closeGap (h : AttnLaw s) : AttnLaw s.closeGap := by
  unfold State.closeGap
  split
  · exact dropGap (applyWord h)
  · exact h
  · exact h

theorem openGap {v : Serial} (h : AttnLaw s) : AttnLaw (s.openGap v) :=
  ite (ite ((closeGap h).of_li rfl) (closeGap h)) h

theorem setList {n : Nat} {e : Bool} (h : AttnLaw s) : AttnLaw (s.setList n e) := by
  cases e
  · exact (closeGap h).of_li rfl
  · exact h

/-! #### Frame intake -/

theorem dropAtStart {o : FrameOutcome} (h : AttnLaw s) : AttnLaw (s.dropAtStart o) := clearHint (recordOutcome h)

theorem takeBank (h : AttnLaw s) : AttnLaw s.takeBank := by
  unfold State.takeBank
  split
  · exact h
  · exact dropAtStart h

theorem frameStart (h : AttnLaw s) : AttnLaw s.frameStart := by
  unfold State.frameStart
  split
  case h_3 | h_4 => exact openGap (takeBank (countFrame h))
  case h_5 => exact openGap (dropAtStart (countFrame h))
  case h_6 => exact dropAtStart h
  all_goals exact h

theorem closeUnended (h : AttnLaw s) : AttnLaw s.closeUnended := by
  unfold State.closeUnended
  split
  · exact leaveStore (settleIntake h)
  · exact h

theorem closeFrame {b : BankId} (h : AttnLaw s) : AttnLaw (s.closeFrame b) := by
  refine ite (settleIntake h) ?_
  split
  · exact settleIntake h
  · exact settleIntake h
  · exact ite h h

/-! #### The judge -/

theorem judgeReport {p : Pass} {c : Condition} {f : State → State} (h : AttnLaw s)
    (hf : ∀ {t : State}, AttnLaw t → AttnLaw (f t)) : AttnLaw (s.judgeReport p c f) :=
  ite (setPass (report h)) (hf (report h))

theorem canvasEnd {p : Pass} (h : AttnLaw s) : AttnLaw (s.canvasEnd p) := endPassWith (ite (enterClosing h) h)

theorem check5 {p : Pass} (h : AttnLaw s) : AttnLaw (s.check5 p) := ite h (judgeReport h canvasEnd)

theorem check4 {p : Pass} (h : AttnLaw s) : AttnLaw (s.check4 p) := ite (judgeReport h check5) (check5 h)

theorem check3 {p : Pass} (h : AttnLaw s) : AttnLaw (s.check3 p) := ite (judgeReport h check4) (check4 h)

theorem dwell {p : Pass} (h : AttnLaw s) : AttnLaw (s.dwell p) := ite (setPass (settlePass h)) (endPassWith h)

theorem check2 {p : Pass} (h : AttnLaw s) : AttnLaw (s.check2 p) :=
  ite (judgeReport h endPassWith) (ite (dwell h) (check3 h))

theorem unplaced {p : Pass} (h : AttnLaw s) : AttnLaw (s.unplaced p) := setPass (settlePass h)

theorem lostDefault {p : Pass} (h : AttnLaw s) : AttnLaw (s.lostDefault p) := unplaced h

theorem lowMatchDefault {p : Pass} (h : AttnLaw s) : AttnLaw (s.lowMatchDefault p) :=
  ite (check2 h) (judgeReport h lostDefault)

theorem check1 {p : Pass} (h : AttnLaw s) : AttnLaw (s.check1 p) := by
  unfold State.check1
  split
  · exact ite (check2 h) (ite (unplaced h) (judgeReport h lowMatchDefault))
  · exact ite (unplaced h) (judgeReport h lowMatchDefault)

/-! #### The push and admission -/

theorem markFinish (h : AttnLaw s) : AttnLaw s.markFinish := ite h (ite h (ite (enterClosing h) h))

theorem markAction {a : MarkAction} (h : AttnLaw s) : AttnLaw (s.markAction a) := by
  cases a
  case finish => exact markFinish h
  all_goals exact h

theorem evalMark {u : Bool} (h : AttnLaw s) : AttnLaw (s.evalMark u) := ite (markAction (attnLaw_raise _ _)) h

theorem detectClosure {v : Serial} {t : ClosureTest} (h : AttnLaw s) : AttnLaw (s.detectClosure v t) :=
  ite (ite (enterClosing (attnLaw_raise _ _)) (attnLaw_raise _ _)) h

theorem closureResult {p : Pass} (h : AttnLaw s) : AttnLaw (s.closureResult p) := by
  unfold State.closureResult
  split
  · split
    · exact detectClosure h
    · exact h
  · exact h

theorem pushReport {p : Pass} (h : AttnLaw s) : AttnLaw (s.pushReport p) :=
  closureResult (evalMark (evalMark (s := s.setProgress p.x) h))

/-- A push raises FRAME_PLACED, so ATTN is driven anew whatever stood before. -/
theorem enterPush {p : Pass} {b : BankId} : AttnLaw (s.enterPush p b) := setPass (pushReport (attnLaw_raise _ _))

theorem takePush {p : Pass} {b : BankId} {a : Bool} (h : AttnLaw s) : AttnLaw (s.takePush p b a) :=
  ite (ite (ite h enterPush) (ite (setPass (report h)) (ite h enterPush))) enterPush

theorem pushMatching {p : Pass} {a : Bool} (h : AttnLaw s) : AttnLaw (s.pushMatching p a) := by
  unfold State.pushMatching
  split
  · exact ite (takePush h) h
  · exact h

theorem takeAdmission {p : Pass} {a : Admission} {b : Bool} (h : AttnLaw s) : AttnLaw (s.takeAdmission p a b) := by
  refine ite h ?_
  split
  · exact h
  · exact ite h (ite (setPass (report h)) ((report h).of_li rfl))

/-! #### Bursts and the link -/

theorem linkBurst (h : AttnLaw s) : AttnLaw s.linkBurst := by
  unfold State.linkBurst
  split <;> exact h

theorem grantRing {r : Ring} (h : AttnLaw s) : AttnLaw (s.grantRing r) := by
  cases r with
  | bu => exact blendBurst (s := { s with ma := { s.ma with rotation := .bu } }) h
  | eu => exact h
  | cx => exact h
  | link => exact linkBurst h

theorem takeInbound {bytes : List Byte} (h : AttnLaw s) : AttnLaw (s.takeInbound bytes) := by
  unfold State.takeInbound
  split
  · refine ite h (ite h ?_)
    split <;> exact h
  · exact h
  · exact h

/-! #### The host's commands -/

theorem runConfigure {p : List Byte} (h : AttnLaw s) : AttnLaw (s.runConfigure p) :=
  ite h (ite h (ite h (ite h (ite h (ite h (ite h (ite h h)))))))

theorem runSetParameters {p : List Byte} (h : AttnLaw s) : AttnLaw (s.runSetParameters p) := ite h (ite h h)

theorem arm {d : Direction} {c r : Nat} (h : AttnLaw s) : AttnLaw (s.arm d c r) := (closeGap h).of_li rfl

theorem runArm {p : List Byte} (h : AttnLaw s) : AttnLaw (s.runArm p) := by
  refine ite h (ite h ?_)
  split
  · exact h
  · exact ite h (ite h (ite h (answer (arm h))))

theorem runFinish (h : AttnLaw s) : AttnLaw s.runFinish := ite h (ite h (answer (finishSweep h)))

theorem abortStop (h : AttnLaw s) : AttnLaw s.abortStop := stopJob (stopPass (stopContext h))

theorem closeAtRelease (h : AttnLaw s) : AttnLaw s.closeAtRelease := by
  unfold State.closeAtRelease
  split
  · exact leaveStore (settleIntake h)
  · exact h

theorem release (h : AttnLaw s) : AttnLaw s.release := toIdle (closeAtRelease (closeGap h))

theorem resume {f : Condition → State} (h : AttnLaw s) (hf : ∀ c, AttnLaw (f c)) : AttnLaw (s.resume f) := by
  unfold State.resume
  split
  · exact ite h (hf _)
  all_goals exact h

theorem resumeHeld {f : Pass → State} {empty : State} (hf : ∀ p, AttnLaw (f p)) (hempty : AttnLaw empty) :
    AttnLaw (s.resumeHeld f empty) := by
  unfold State.resumeHeld
  split
  · exact hf _
  · exact hempty

theorem acceptParked {p : Pass} (h : AttnLaw s) : AttnLaw (s.acceptParked p) := by
  unfold State.acceptParked
  dsimp only
  split
  · exact ite h (takeAdmission (leaveHeld h))
  · exact h

theorem acceptPush {p : Pass} (h : AttnLaw s) : AttnLaw (s.acceptPush p) := ite h (pushMatching (leaveHeld h))

theorem acceptDefault {p : Pass} {c : Condition} (h : AttnLaw s) : AttnLaw (s.acceptDefault p c) := by
  cases c with
  | lowMatch => exact lowMatchDefault (leaveHeld h)
  | lost => exact lostDefault (leaveHeld h)
  | reversal => exact endPassWith (leaveHeld h)
  | vertical => exact check4 (leaveHeld h)
  | speed => exact check5 (leaveHeld h)
  | windowOverflow => exact acceptPush h
  | tableFull => exact acceptParked h
  | canvasFull => exact endPassWith (enterClosing h)

theorem acceptNothing {c : Condition} (h : AttnLaw s) : AttnLaw (s.acceptNothing c) :=
  ite (enterClosing h) (leaveHeld h)

theorem skipHeld {p : Pass} {c : Condition} (h : AttnLaw s) : AttnLaw (s.skipHeld p c) :=
  ite h (endPassWith (leaveHeld h))

theorem placeHeld {p : Pass} {x y : Int} (h : AttnLaw s) : AttnLaw (s.placeHeld p x y) := check2 h

theorem captureAct (h : AttnLaw s) : AttnLaw s.captureAct :=
  ite h (ite h (ite h (ite (finishSweep (s := s.captureTook .taken) h) h)))

theorem named {p : List Byte} {f : Landmark → State} (h : AttnLaw s) (hf : ∀ r, AttnLaw (f r)) :
    AttnLaw (s.named p f) := by
  refine ite h (ite h ?_)
  split
  · exact ite (hf _) h
  · exact h

theorem runReadPlacement {depth view : Nat} (h : AttnLaw s) : AttnLaw (s.runReadPlacement depth view) := by
  unfold State.runReadPlacement
  (repeat' split) <;> exact h

theorem runExport {p : List Byte} (h : AttnLaw s) : AttnLaw (s.runExport p) := by
  refine ite h ?_
  split
  · exact ite h (ite h (ite h (ite h (ite h h))))
  · exact h

end AttnLaw

/-! ### What one row's step leaves -/

/-- Where the step answers a next state, ATTN follows the flags there. -/
def AttnAfter : Host.Outcome State Fault Refusal → Prop
  | .next t => AttnLaw t
  | .fault _ | .refused _ => True

theorem AttnAfter.next {o : Host.Outcome State Fault Refusal} {t : State} (h : AttnAfter o) (ho : o = .next t) :
    AttnLaw t := by
  subst ho
  exact h

namespace AttnLaw

variable {s : State}

theorem after_access {t : State} (h : AttnLaw t) : AttnAfter (s.access t) := by
  unfold State.access
  split
  · exact h
  · trivial

theorem after_granted {cells : List Host.Cell} {f : State → State} (h : AttnLaw s)
    (hf : ∀ {t : State}, AttnLaw t → AttnLaw (f t)) : AttnAfter (s.granted cells f) := by
  unfold State.granted
  split
  · exact hf h
  · exact after_access (hf (t := s.writeMem cells) h)

/-- A command that is lost or refused leaves the flags alone, so its own rule alone matters. -/
theorem after_command {c : HostCommand} {p : List Byte} {lenOk : Nat → Bool} {f : State → State} (h : AttnLaw s)
    (hf : AttnLaw (f s)) : AttnAfter (s.command c p lenOk f) :=
  ite (ite hf h) h

/-! #### Resets, slots, frames and transactions -/

theorem after_dieSensingComplete {dies : BitVec 4} (h : AttnLaw s) : AttnAfter (execDieSensingComplete dies s) := by
  unfold execDieSensingComplete
  split
  · exact ite h h
  · exact h

theorem after_secondSlot (h : AttnLaw s) : AttnAfter s.secondSlot := by
  unfold State.secondSlot
  split
  · exact after_access h
  · split
    · exact after_access (grantRing h)
    · exact h

theorem after_firstSlot (h : AttnLaw s) : AttnAfter (execFirstSlot s) := by
  unfold execFirstSlot
  split
  · exact after_access h
  · split
    · exact h
    · exact after_secondSlot h

theorem after_line {luma : List Byte} {chroma : List (Byte × Byte)} (h : AttnLaw s) :
    AttnAfter (execLine luma chroma s) := by
  unfold execLine
  split
  · exact after_granted h fun ht => ht
  · exact h

theorem after_frameEnd (h : AttnLaw s) : AttnAfter (execFrameEnd s) := by
  unfold execFrameEnd
  split
  · exact after_granted h fun ht => leaveStore (closeFrame ht)
  · exact h

theorem after_transactionEnd {bytes : List Byte} (h : AttnLaw s) : AttnAfter (execTransactionEnd bytes s) := by
  unfold execTransactionEnd
  split
  · exact ite h (takeInbound h)
  · exact h

theorem after_shutterEdge (h : AttnLaw s) : AttnAfter (execShutterEdge s) := by
  unfold execShutterEdge
  split
  case h_1 | h_2 => exact h
  all_goals exact captureAct (attnLaw_raise _ _)

/-! #### Host commands -/

theorem after_resumePlace {p : List Byte} (h : AttnLaw s) : AttnAfter (execResumePlace p s) :=
  after_command h (resume h fun _ => ite h (ite h (resumeHeld (fun _ => placeHeld h) h)))

theorem after_resumeRollback {p : List Byte} (h : AttnLaw s) : AttnAfter (execResumeRollback p s) := by
  refine after_command h (ite h (ite h ?_))
  split <;> exact h

theorem after_setMark {p : List Byte} (h : AttnLaw s) : AttnAfter (execSetMark p s) := by
  refine after_command h ?_
  split
  · exact answer (loadMark h)
  · exact h

theorem after_setCaptureAction {p : List Byte} (h : AttnLaw s) : AttnAfter (execSetCaptureAction p s) := by
  refine after_command h ?_
  split <;> exact h

theorem after_readLandmark {p : List Byte} (h : AttnLaw s) : AttnAfter (execReadLandmark p s) := by
  refine after_command h ?_
  split <;> exact h

theorem after_setList {p : List Byte} (h : AttnLaw s) : AttnAfter (execSetList p s) := by
  refine after_command h ?_
  split
  · exact ite h (answer (setList h))
  · exact h

theorem after_checkpoint {p : List Byte} (h : AttnLaw s) : AttnAfter (execCheckpoint p s) := by
  refine after_command h (ite h (ite h ?_))
  split
  · exact h
  · exact ite h (beginSave h)

theorem after_rollback {p : List Byte} (h : AttnLaw s) : AttnAfter (execRollback p s) := by
  refine after_command h (ite h (ite h ?_))
  split
  · exact h
  · exact ite h (ite h h)

/-! #### The Export Unit and the Match Engine -/

theorem after_exportLine (h : AttnLaw s) : AttnAfter (execExportLine s) := by
  unfold execExportLine
  split
  · exact h
  · exact ite (afterLine (s := s.sendLine) h) h
  · exact ite (attnLaw_raise _ _) (ite (attnLaw_raise _ _) h)

theorem after_matchBankTake (h : AttnLaw s) : AttnAfter (execMatchBankTake s) := by
  unfold execMatchBankTake
  split
  · refine ite h ?_
    split
    case h_1 => exact beginOrigin (s := s.takeQueued _ _) h
    case h_2 => exact beginMatch (s := s.takeQueued _ _) h
    all_goals exact h
  · exact h

theorem after_lookup (h : AttnLaw s) : AttnAfter (execLookup s) := by
  unfold execLookup
  split
  · split
    case h_1 | h_2 => exact meetStop (setPass h)
    all_goals exact h
  · exact h

theorem after_solve (h : AttnLaw s) : AttnAfter (execSolve s) := by
  unfold execSolve
  split
  · exact ite h h
  · exact h

theorem after_judge (h : AttnLaw s) : AttnAfter (execJudge s) := by
  unfold execJudge
  split
  · exact ite (check1 h) h
  · exact h

theorem after_push (h : AttnLaw s) : AttnAfter (execPush s) := by
  unfold execPush
  split
  · split
    case h_1 => exact ite h (pushMatching h)
    all_goals exact h
  · exact h

theorem after_batchOpening (h : AttnLaw s) : AttnAfter (execBatchOpening s) := by
  unfold execBatchOpening
  split
  · exact ite h h
  · exact h

theorem after_footprintRead (h : AttnLaw s) : AttnAfter (execFootprintRead s) := by
  unfold execFootprintRead
  split
  · exact ite h h
  · exact h

theorem after_hitClaim (h : AttnLaw s) : AttnAfter (execHitClaim s) := by
  unfold execHitClaim
  split
  · split
    case h_1 => exact takeClaim h
    all_goals exact h
  · exact h

theorem after_reviveClaim (h : AttnLaw s) : AttnAfter (execReviveClaim s) := by
  unfold execReviveClaim
  split
  · split
    case h_1 => exact takeClaim h
    all_goals exact h
  · exact h

theorem after_missClaim (h : AttnLaw s) : AttnAfter (execMissClaim s) := by
  unfold execMissClaim
  split
  · split
    · exact ite (takeClaim h) h
    · exact h
  · exact h

theorem after_admissionClaim (h : AttnLaw s) : AttnAfter (execAdmissionClaim s) := by
  unfold execAdmissionClaim
  split
  · split
    · exact ite (takeAdmission h) h
    · exact h
  · exact h

theorem after_staleCountClaim (h : AttnLaw s) : AttnAfter (execStaleCountClaim s) := by
  unfold execStaleCountClaim
  split
  · refine ite ?_ h
    dsimp only
    rw [State.ite_updateRecord, State.ite_sc]
    exact h
  · exact h

/-! #### The Blend Unit and the end of a sweep -/

theorem after_blendTake (h : AttnLaw s) : AttnAfter (execBlendTake s) := by
  refine ite ?_ h
  split
  · split <;> exact h
  · exact h

theorem after_seamFix (h : AttnLaw s) : AttnAfter (execSeamFix s) := by
  unfold execSeamFix
  (repeat' split) <;> exact h

theorem after_blockWrite (h : AttnLaw s) : AttnAfter (execBlockWrite s) := by
  unfold execBlockWrite
  (repeat' split) <;> exact h

theorem after_blendEnd (h : AttnLaw s) : AttnAfter (execBlendEnd s) := by
  unfold execBlendEnd
  split
  · exact ite h h
  · exact h

theorem after_retireBehind (h : AttnLaw s) : AttnAfter (execRetireBehind s) := by
  unfold execRetireBehind
  (repeat' split) <;> exact h

theorem after_retirementClaim (h : AttnLaw s) : AttnAfter (execRetirementClaim s) := by
  unfold execRetirementClaim
  (repeat' split) <;> exact h

theorem after_blendEndClaim (h : AttnLaw s) : AttnAfter (execBlendEndClaim s) := by
  unfold execBlendEndClaim
  split
  · exact ite (finishBlend h) h
  · exact h

theorem after_joinColumn (h : AttnLaw s) : AttnAfter (execJoinColumn s) := by
  unfold execJoinColumn
  split
  · exact ite h (ite (joinAdvance h) h)
  · exact h

/-! #### The Context Mover and the Directive Reader -/

theorem after_copyPhase (h : AttnLaw s) : AttnAfter (execCopyPhase s) := by
  unfold execCopyPhase
  split
  case h_1 => exact ite h h
  all_goals exact h

theorem after_saveComplete (h : AttnLaw s) : AttnAfter (execSaveComplete s) := by
  unfold execSaveComplete
  split
  case h_1 => exact ite h (attnLaw_raise _ _)
  all_goals exact h

theorem after_verifyEnd (h : AttnLaw s) : AttnAfter (execVerifyEnd s) := by
  unfold execVerifyEnd
  split
  case h_1 k _ =>
    refine ite h ?_
    split
    · exact ite (ite (stopPass (s := s.setOp (.apply k)) h) verifyFails) verifyFails
    · exact verifyFails
  all_goals exact h

theorem after_rollbackReplace (h : AttnLaw s) : AttnAfter (execRollbackReplace s) := by
  unfold execRollbackReplace
  split
  case h_1 =>
    split
    · exact ite (dropWaitingFinish (attnLaw_raise _ _)) h
    · exact h
  all_goals exact h

theorem after_directiveStep {row : Directive → Bool} (h : AttnLaw s) : AttnAfter (s.directiveStep row) := by
  unfold State.directiveStep
  split
  · exact ite (applyDirective h) h
  · exact h

theorem after_directiveFault (h : AttnLaw s) : AttnAfter (execDirectiveFault s) := by
  unfold execDirectiveFault
  split
  · exact ite (attnLaw_raise _ _) h
  all_goals exact h

theorem after_retireRegionClaim (h : AttnLaw s) : AttnAfter (execRetireRegionClaim s) := by
  unfold execRetireRegionClaim
  split
  · exact ite h h
  · exact h

/-! #### Every row -/

/-- Every row's step keeps the law: the three resets clear flags, enables and ATTN together, and every other row is made
of operations that keep it. -/
theorem after_exec (c : Instr) (h : AttnLaw s) : AttnAfter (exec c s) := by
  cases c with
  | powerOn => exact attnLaw_of_clear rfl rfl
  | resetNAssert => exact attnLaw_of_clear rfl rfl
  | resetNRises => exact h
  | dieSensingComplete => exact after_dieSensingComplete h
  | refreshDue => exact ite h h
  | firstSlot => exact after_firstSlot h
  | secondSlot => exact after_secondSlot h
  | shutterEdge => exact after_shutterEdge h
  | frameStart => exact frameStart (closeUnended h)
  | line => exact after_line h
  | frameEnd => exact after_frameEnd h
  | transactionStart => exact ite h (ite h h)
  | transactionEnd => exact after_transactionEnd h
  | nop p => exact show AttnAfter (execNop p s) from after_command h h
  | readIdentity p => exact show AttnAfter (execReadIdentity p s) from after_command h h
  | readStatus p => exact show AttnAfter (execReadStatus p s) from after_command h h
  | readEvents p =>
    exact show AttnAfter (execReadEvents p s) from
      after_command h (answer (attnLaw_driveEvents s _ _))
  | setEventEnables p =>
    exact show AttnAfter (execSetEventEnables p s) from
      after_command h (ite h (answer (attnLaw_driveEvents s _ _)))
  | reset p => exact show AttnAfter (execReset p s) from after_command h (attnLaw_of_clear rfl rfl)
  | configure p => exact show AttnAfter (execConfigure p s) from after_command h (runConfigure h)
  | setParameters p => exact show AttnAfter (execSetParameters p s) from after_command h (runSetParameters h)
  | setMasks p => exact show AttnAfter (execSetMasks p s) from after_command h h
  | clearConditions p => exact show AttnAfter (execClearConditions p s) from after_command h (answer (clearFlags h))
  | arm p => exact show AttnAfter (execArm p s) from after_command h (runArm h)
  | finish p => exact show AttnAfter (execFinish p s) from after_command h (runFinish h)
  | abort p => exact show AttnAfter (execAbort p s) from after_command h (ite h (abortStop h))
  | abortClearStep => exact ite (answer (attnLaw_raise _ _)) h
  | resumeAccept p =>
    exact show AttnAfter (execResumeAccept p s) from
      after_command h (resume h fun _ => resumeHeld (fun _ => acceptDefault h) (acceptNothing h))
  | resumeSkip p =>
    exact show AttnAfter (execResumeSkip p s) from
      after_command h (resume h fun _ => resumeHeld (fun _ => skipHeld h) h)
  | resumePlace => exact after_resumePlace h
  | resumeRollback => exact after_resumeRollback h
  | release p => exact show AttnAfter (execRelease p s) from after_command h (ite h (answer (release h)))
  | hint p => exact show AttnAfter (execHint p s) from after_command h (ite h (ite h h))
  | setMark => exact after_setMark h
  | readCapture p => exact show AttnAfter (execReadCapture p s) from after_command h h
  | setCaptureAction => exact after_setCaptureAction h
  | readLandmark => exact after_readLandmark h
  | findLandmarks p => exact show AttnAfter (execFindLandmarks p s) from after_command h (ite h h)
  | examineLandmark p => exact show AttnAfter (execExamineLandmark p s) from after_command h h
  | pinLandmark p =>
    exact show AttnAfter (execPinLandmark p s) from
      after_command h (named h fun _ => ite h (ite h h))
  | unpinLandmark p => exact show AttnAfter (execUnpinLandmark p s) from after_command h (named h fun _ => ite h h)
  | retireLandmark p => exact show AttnAfter (execRetireLandmark p s) from after_command h (named h fun _ => ite h h)
  | retireRegion p => exact show AttnAfter (execRetireRegion p s) from after_command h (ite h (ite h h))
  | readPlacement p => exact show AttnAfter (execReadPlacement p s) from after_command h (runReadPlacement h)
  | readCoverage p => exact show AttnAfter (execReadCoverage p s) from after_command h (ite h h)
  | readClosure p => exact show AttnAfter (execReadClosure p s) from after_command h h
  | writeDirectives p => exact show AttnAfter (execWriteDirectives p s) from after_command h (ite h (ite h (ite h h)))
  | readDirectives p =>
    exact show AttnAfter (execReadDirectives p s) from
      after_command h (ite h (ite h (ite h (ite h h))))
  | setList => exact after_setList h
  | checkpoint => exact after_checkpoint h
  | rollback => exact after_rollback h
  | readSlots p => exact show AttnAfter (execReadSlots p s) from after_command h h
  | exportStart p => exact show AttnAfter (execExportStart p s) from after_command h (runExport h)
  | exportStop p => exact show AttnAfter (execExportStop p s) from after_command h (ite h (answer (stopJob h)))
  | exportLine => exact after_exportLine h
  | matchBankTake => exact after_matchBankTake h
  | lookup => exact after_lookup h
  | solve => exact after_solve h
  | judge => exact after_judge h
  | push => exact after_push h
  | batchOpening => exact after_batchOpening h
  | footprintRead => exact after_footprintRead h
  | hitClaim => exact after_hitClaim h
  | reviveClaim => exact after_reviveClaim h
  | missClaim => exact after_missClaim h
  | admissionClaim => exact after_admissionClaim h
  | staleCountClaim => exact after_staleCountClaim h
  | blendTake => exact after_blendTake h
  | seamFix => exact after_seamFix h
  | blockWrite => exact after_blockWrite h
  | blendEnd => exact after_blendEnd h
  | retireBehind => exact after_retireBehind h
  | retirementClaim => exact after_retirementClaim h
  | blendEndClaim => exact after_blendEndClaim h
  | closureJoin => exact ite (ite h h) h
  | joinColumn => exact after_joinColumn h
  | commitAllOpenBlocks => exact ite (attnLaw_raise _ _) h
  | copyPhase => exact after_copyPhase h
  | saveComplete => exact after_saveComplete h
  | verifyEnd => exact after_verifyEnd h
  | rollbackReplace => exact after_rollbackReplace h
  | dirStop | dirSkip | dirNext | dirNextAndStop | dirSignal | dirHint | dirMasks | dirMark | dirRetireRegion
  | dirBlend => exact after_directiveStep h
  | retireRegionClaim => exact after_retireRegionClaim h
  | directiveFault => exact after_directiveFault h

theorem after_step (h : AttnLaw s) : AttnAfter (step s) := by
  unfold step
  split
  · exact after_exec _ h
  · exact h

end AttnLaw

/-- Settles O4. A step is the meaning of the row at the queue's front, and each meaning either drives ATTN anew with the
flags and enables it leaves or leaves all three as they were. -/
theorem attnFollowsFlagsAndEnables : Obligations.AttnFollowsFlagsAndEnables :=
  ⟨fun _ _ h hstep => h.after_step.next hstep, rfl⟩

end Sys2Proof.Machine

/-! ### Which parts of the state a row can change

`changedBy` lists them for every row, and `exec_framed` ties the list to the model: after the row's step every part that
is not listed stands as it was. The frames of memory, queue, geometry and the rest are read off this one table. -/

namespace Sys2Proof.Machine

/-- The parts of the state, one for each field. -/
inductive Part where
  | geo | prm | mem | ma | pi | ltc | me | pw | bu | sc | dr | cx | eu | li | port | free | pending
  deriving DecidableEq

/-- The part stands in `t` as it stood in `s`. -/
def Part.same (s t : State) : Part → Prop
  | .geo => t.geo = s.geo
  | .prm => t.prm = s.prm
  | .mem => t.mem = s.mem
  | .ma => t.ma = s.ma
  | .pi => t.pi = s.pi
  | .ltc => t.ltc = s.ltc
  | .me => t.me = s.me
  | .pw => t.pw = s.pw
  | .bu => t.bu = s.bu
  | .sc => t.sc = s.sc
  | .dr => t.dr = s.dr
  | .cx => t.cx = s.cx
  | .eu => t.eu = s.eu
  | .li => t.li = s.li
  | .port => t.port = s.port
  | .free => t.free = s.free
  | .pending => t.pending = s.pending

/-- Every part but those listed stands as it was. -/
def Framed (ps : List Part) (s t : State) : Prop := ∀ p, p ∉ ps → p.same s t

theorem framed_iff (ps : List Part) (s t : State) : Framed ps s t ↔
    (.geo ∉ ps → t.geo = s.geo) ∧ (.prm ∉ ps → t.prm = s.prm) ∧ (.mem ∉ ps → t.mem = s.mem) ∧
    (.ma ∉ ps → t.ma = s.ma) ∧ (.pi ∉ ps → t.pi = s.pi) ∧ (.ltc ∉ ps → t.ltc = s.ltc) ∧ (.me ∉ ps → t.me = s.me) ∧
    (.pw ∉ ps → t.pw = s.pw) ∧ (.bu ∉ ps → t.bu = s.bu) ∧ (.sc ∉ ps → t.sc = s.sc) ∧ (.dr ∉ ps → t.dr = s.dr) ∧
    (.cx ∉ ps → t.cx = s.cx) ∧ (.eu ∉ ps → t.eu = s.eu) ∧ (.li ∉ ps → t.li = s.li) ∧
    (.port ∉ ps → t.port = s.port) ∧ (.free ∉ ps → t.free = s.free) ∧ (.pending ∉ ps → t.pending = s.pending) := by
  constructor
  · intro h
    exact ⟨h .geo, h .prm, h .mem, h .ma, h .pi, h .ltc, h .me, h .pw, h .bu, h .sc, h .dr, h .cx, h .eu, h .li,
      h .port, h .free, h .pending⟩
  · rintro ⟨h1, h2, h3, h4, h5, h6, h7, h8, h9, h10, h11, h12, h13, h14, h15, h16, h17⟩ p
    cases p <;> assumption

/-- Where the step answers a next state, every part but those listed stands there as it was. -/
def FramedAfter (ps : List Part) (s : State) : Host.Outcome State Fault Refusal → Prop
  | .next t => Framed ps s t
  | .fault _ | .refused _ => True

theorem FramedAfter.next {ps : List Part} {s t : State} {o : Host.Outcome State Fault Refusal}
    (h : FramedAfter ps s o) (ho : o = .next t) : Framed ps s t := by
  subst ho
  exact h

namespace Framed

variable {ps : List Part} {s : State}

theorem refl : Framed ps s s := fun p _ => by cases p <;> rfl

theorem ite {c : Prop} [Decidable c] {t u : State} (ht : c → Framed ps s t) (hu : ¬ c → Framed ps s u) :
    Framed ps s (if c then t else u) := by
  split
  · exact ht ‹_›
  · exact hu ‹_›

theorem after_access {t : State} (h : Framed ps s t) : FramedAfter ps s (s.access t) := by
  unfold State.access
  split
  · exact h
  · trivial

theorem after_granted {cells : List Host.Cell} {f : State → State} (hs : Framed ps s (f s))
    (hw : Framed ps s (f (s.writeMem cells))) : FramedAfter ps s (s.granted cells f) := by
  unfold State.granted
  split
  · exact hs
  · exact after_access hw

/-- A command changes LI's reply and what its own rule changes. -/
theorem after_command {c : HostCommand} {p : List Byte} {lenOk : Nat → Bool} {f : State → State} (hli : .li ∈ ps)
    (hf : Framed ps s (f s)) : FramedAfter ps s (s.command c p lenOk f) := by
  refine ite (fun _ => ite (fun _ => hf) fun _ => ?_) fun _ => refl
  simp [framed_iff, hli]

end Framed

/-- The parts a row can change. -/
def changedBy : Instr → List Part
  | .powerOn | .resetNAssert => [.geo, .prm, .mem, .ma, .pi, .ltc, .me, .pw, .bu, .sc, .dr, .cx, .eu, .li]
  | .reset _ => [.geo, .prm, .ma, .pi, .ltc, .me, .pw, .bu, .sc, .dr, .cx, .eu, .li]
  | .resetNRises | .refreshDue => [.ma]
  | .dieSensingComplete _ => [.ma, .li]
  | .firstSlot => [.mem, .ma, .pi, .bu, .dr, .cx, .eu, .li]
  | .secondSlot => [.mem, .ma, .bu, .dr, .cx, .eu, .li]
  | .frameStart => [.prm, .pi, .ltc, .me, .sc, .dr, .li]
  | .line _ _ => [.mem, .pi]
  | .frameEnd => [.mem, .pi, .me, .sc, .li]
  | .shutterEdge | .finish _ | .resumeSkip _ | .resumePlace _ | .lookup | .judge => [.pi, .me, .sc, .li]
  | .transactionStart | .transactionEnd _ | .nop _ | .readIdentity _ | .readStatus _ | .readEvents _
  | .setEventEnables _ | .readLandmark _ | .findLandmarks _ | .examineLandmark _ | .readPlacement _ | .readCoverage _
  | .readClosure _ | .writeDirectives _ | .readDirectives _ | .readSlots _ => [.li]
  | .configure _ => [.geo, .ltc, .bu, .li]
  | .setParameters _ => [.prm, .li]
  | .setMasks _ | .clearConditions _ | .setMark _ | .readCapture _ | .setCaptureAction _ => [.sc, .li]
  | .arm _ => [.geo, .prm, .pi, .ltc, .me, .bu, .sc, .dr, .li]
  | .abort _ => [.pi, .me, .sc, .cx, .eu, .li, .port]
  | .abortClearStep => [.pi, .ltc, .me, .pw, .bu, .sc, .li]
  | .resumeAccept _ => [.pi, .ltc, .me, .pw, .bu, .sc, .li]
  | .release _ => [.prm, .pi, .ltc, .me, .pw, .bu, .sc, .dr, .li]
  | .hint _ => [.me, .li]
  | .pinLandmark _ | .unpinLandmark _ | .retireLandmark _ | .retireRegion _ => [.ltc, .li]
  | .setList _ | .dirStop | .dirSkip | .dirNext | .dirNextAndStop | .dirSignal | .dirHint | .dirMasks | .dirMark
  | .dirRetireRegion | .dirBlend => [.prm, .ltc, .me, .sc, .dr, .li]
  | .resumeRollback _ | .checkpoint _ | .rollback _ => [.cx, .li]
  | .exportStart _ | .exportStop _ => [.eu, .li, .port]
  | .exportLine => [.eu, .li, .port, .free]
  | .matchBankTake => [.pi, .me]
  | .solve | .footprintRead => [.me]
  | .push => [.pi, .me, .pw, .bu, .sc, .li]
  | .batchOpening | .hitClaim | .reviveClaim | .missClaim => [.ltc, .me]
  | .admissionClaim => [.pi, .ltc, .me, .sc, .li]
  | .staleCountClaim => [.me, .pw, .sc]
  | .blendTake | .blendEndClaim => [.pi, .pw, .bu]
  | .seamFix | .blockWrite | .blendEnd | .retirementClaim => [.pw, .bu]
  | .retireBehind => [.ltc, .bu]
  | .closureJoin | .joinColumn => [.bu, .sc]
  | .commitAllOpenBlocks => [.pw, .bu, .sc, .li]
  | .copyPhase => [.cx]
  | .saveComplete => [.me, .cx, .li]
  | .verifyEnd => [.pi, .me, .sc, .cx, .li]
  | .rollbackReplace => [.pi, .ltc, .me, .pw, .bu, .sc, .cx, .li]
  | .retireRegionClaim => [.ltc]
  | .directiveFault => [.dr, .li]

namespace Framed

variable {ps : List Part} {s : State} {p : List Byte}

/-! #### The parts of commands that answer in several ways -/

theorem resume {f : Condition → State} (hli : .li ∈ ps) (hf : ∀ c, Framed ps s (f c)) : Framed ps s (s.resume f) := by
  have refused (r : Reason) : Framed ps s (s.refuse r) := by simp [framed_iff, hli]
  unfold State.resume
  split
  · exact ite (fun _ => refused _) fun _ => hf _
  all_goals exact refused _

theorem resumeHeld {f : Pass → State} {u : State} (hf : ∀ q, Framed ps s ((f q).answer []))
    (hu : Framed ps s (u.answer [])) :
    Framed ps s (s.resumeHeld f u) := by
  unfold State.resumeHeld
  split
  · exact hf _
  · exact hu

theorem named {f : Landmark → State} (hli : .li ∈ ps) (hf : ∀ r, Framed ps s (f r)) : Framed ps s (s.named p f) := by
  have refused (r : Reason) : Framed ps s (s.refuse r) := by simp [framed_iff, hli]
  refine ite (fun _ => refused _) fun _ => ite (fun _ => refused _) fun _ => ?_
  split
  · exact ite (fun _ => hf _) fun _ => refused _
  · exact refused _

theorem takeInbound {bytes : List Byte} : Framed [.li] s (s.takeInbound bytes) := by
  unfold State.takeInbound
  (repeat' split) <;> simp [framed_iff]

theorem grantRing {r : Ring} : Framed [.mem, .ma, .bu, .cx, .eu, .li] s (s.grantRing r) := by
  simp [framed_iff]

theorem after_secondSlot : FramedAfter [.mem, .ma, .bu, .dr, .cx, .eu, .li] s s.secondSlot := by
  unfold State.secondSlot
  split
  · exact after_access (by simp [framed_iff, State.readWord])
  · split
    · exact after_access (by simp [framed_iff])
    · exact refl

theorem trans {t u : State} (h : Framed ps s t) (h' : Framed ps t u) : Framed ps s u :=
  fun p hp => by cases p <;> exact (h' _ hp).trans (h _ hp)

theorem mono {qs : List Part} {t : State} (h : Framed ps s t) (hsub : ∀ p ∈ ps, p ∈ qs) : Framed qs s t :=
  fun p hp => h p fun hmem => hp (hsub p hmem)

theorem after_firstSlot : FramedAfter (changedBy .firstSlot) s (execFirstSlot s) := by
  unfold execFirstSlot
  split
  · exact after_access (by simp [framed_iff, changedBy, State.writeSegment])
  · split
    · simp [FramedAfter, framed_iff, changedBy, State.serveRefresh]
    · have h := after_secondSlot (s := s)
      cases ho : s.secondSlot with
      | next t => exact (h.next ho).mono (by decide)
      | fault | refused => trivial

theorem after_line {luma : List Byte} {chroma : List (Byte × Byte)} :
    FramedAfter (changedBy (.line luma chroma)) s (execLine luma chroma s) := by
  unfold execLine
  split
  · exact after_granted (by simp [framed_iff, changedBy]) (by simp [framed_iff, changedBy])
  · exact refl

theorem after_frameEnd : FramedAfter (changedBy .frameEnd) s (execFrameEnd s) := by
  unfold execFrameEnd
  split
  · exact after_granted (by simp [framed_iff, changedBy]) (by simp [framed_iff, changedBy])
  · exact refl

theorem after_directiveStep {row : Directive → Bool} :
    FramedAfter [.prm, .ltc, .me, .sc, .dr, .li] s (s.directiveStep row) := by
  unfold State.directiveStep
  (repeat' split) <;> simp [FramedAfter, framed_iff]

theorem after_transactionEnd {bytes : List Byte} : FramedAfter [.li] s (execTransactionEnd bytes s) := by
  unfold execTransactionEnd
  split
  · exact trans (t := { s with li := { s.li with transaction := none } }) (by simp [framed_iff])
      (ite (fun _ => refl) fun _ => takeInbound)
  · exact refl

theorem commandReset : Framed (changedBy (.reset p)) s s.commandReset := by
  simp [framed_iff, changedBy, State.commandReset]

theorem runConfigure : Framed (changedBy (.configure p)) s (s.runConfigure p) := by
  unfold State.runConfigure
  dsimp only
  (repeat' split) <;> simp [framed_iff, changedBy, State.configure]

theorem runSetParameters : Framed (changedBy (.setParameters p)) s (s.runSetParameters p) := by
  unfold State.runSetParameters
  (repeat' split) <;> simp [framed_iff, changedBy]

theorem clearFlags : Framed [.sc, .li] s (s.clearFlags.answer []) := by
  unfold State.clearFlags
  split <;> simp [framed_iff]

theorem runArm : Framed (changedBy (.arm p)) s (s.runArm p) := by
  unfold State.runArm
  (repeat' split) <;> simp [framed_iff, changedBy]

theorem runReadPlacement {d v : Nat} : Framed [.li] s (s.runReadPlacement d v) := by
  unfold State.runReadPlacement
  (repeat' split) <;> simp [framed_iff]

end Framed

open Framed in
/-- After a row's step every part of the state that `changedBy` does not list stands as it was. -/
theorem exec_framed (c : Instr) (s : State) : FramedAfter (changedBy c) s (exec c s) := by
  cases c with
  | powerOn | resetNAssert =>
    simp [exec, execPowerOn, execResetNAssert, FramedAfter, framed_iff, changedBy, State.wholeReset]
  | firstSlot => exact after_firstSlot
  | secondSlot => exact after_secondSlot
  | line => exact after_line
  | frameEnd => exact after_frameEnd
  | transactionEnd => exact after_transactionEnd
  | dirStop | dirSkip | dirNext | dirNextAndStop | dirSignal | dirHint | dirMasks | dirMark | dirRetireRegion
  | dirBlend => exact after_directiveStep
  | resetNRises | refreshDue | abortClearStep | blendTake | closureJoin | commitAllOpenBlocks | dieSensingComplete
  | shutterEdge | frameStart | transactionStart | exportLine | matchBankTake | lookup | solve | judge | push
  | batchOpening | footprintRead | hitClaim | reviveClaim | missClaim | admissionClaim | staleCountClaim | seamFix
  | blockWrite | blendEnd | retireBehind | retirementClaim | blendEndClaim | joinColumn | copyPhase | saveComplete
  | verifyEnd | rollbackReplace | retireRegionClaim | directiveFault =>
    simp only [exec,
      execResetNRises, execRefreshDue, execAbortClearStep, execBlendTake, execClosureJoin,
      execCommitAllOpenBlocks, execDieSensingComplete, execShutterEdge, execFrameStart, execTransactionStart,
      execExportLine, execMatchBankTake, execLookup, execSolve, execJudge, execPush, execBatchOpening,
      execFootprintRead, execHitClaim, execReviveClaim, execMissClaim, execAdmissionClaim, execStaleCountClaim,
      execSeamFix, execBlockWrite, execBlendEnd, execRetireBehind, execRetirementClaim, execBlendEndClaim,
      execJoinColumn, execCopyPhase, execSaveComplete, execVerifyEnd, execRollbackReplace, execRetireRegionClaim,
      execDirectiveFault]
    (repeat' split) <;> simp [FramedAfter, framed_iff, changedBy]
  | reset p => exact show FramedAfter _ s (execReset p s) from after_command (by simp [changedBy]) commandReset
  | configure p => exact show FramedAfter _ s (execConfigure p s) from after_command (by simp [changedBy]) runConfigure
  | setParameters p =>
    exact show FramedAfter _ s (execSetParameters p s) from after_command (by simp [changedBy]) runSetParameters
  | clearConditions p =>
    exact show FramedAfter _ s (execClearConditions p s) from after_command (by simp [changedBy]) clearFlags
  | arm p => exact show FramedAfter _ s (execArm p s) from after_command (by simp [changedBy]) runArm
  | readPlacement p =>
    exact show FramedAfter _ s (execReadPlacement p s) from after_command (by simp [changedBy]) runReadPlacement
  | resumeAccept p =>
    refine show FramedAfter _ s (execResumeAccept p s) from
      after_command (by simp [changedBy]) (resume (by simp [changedBy]) fun c => resumeHeld ?_ ?_)
    · simp [framed_iff, changedBy]
    · unfold State.acceptNothing
      split <;> simp [framed_iff, changedBy]
  | resumeSkip p =>
    exact show FramedAfter _ s (execResumeSkip p s) from
      after_command (by simp [changedBy]) (resume (by simp [changedBy]) fun _ =>
        resumeHeld (by simp [framed_iff, changedBy]) (by simp [framed_iff, changedBy]))
  | resumePlace p =>
    refine show FramedAfter _ s (execResumePlace p s) from
      after_command (by simp [changedBy]) (resume (by simp [changedBy]) fun _ =>
        ite (fun _ => ?_) fun _ => ite (fun _ => ?_) fun _ => resumeHeld ?_ ?_)
    all_goals simp [framed_iff, changedBy]
  | pinLandmark p =>
    refine show FramedAfter _ s (execPinLandmark p s) from
      after_command (by simp [changedBy]) (named (by simp [changedBy]) fun _ =>
        ite (fun _ => ?_) fun _ => ite (fun _ => ?_) fun _ => ?_)
    all_goals simp [framed_iff, changedBy]
  | unpinLandmark p =>
    refine show FramedAfter _ s (execUnpinLandmark p s) from
      after_command (by simp [changedBy]) (named (by simp [changedBy]) fun _ => ite (fun _ => ?_) fun _ => ?_)
    all_goals simp [framed_iff, changedBy]
  | retireLandmark p =>
    refine show FramedAfter _ s (execRetireLandmark p s) from
      after_command (by simp [changedBy]) (named (by simp [changedBy]) fun _ => ite (fun _ => ?_) fun _ => ?_)
    all_goals simp [framed_iff, changedBy]
  | nop p | readIdentity p | readStatus p | readEvents p | setEventEnables p | setMasks p | finish p | abort p
  | release p | hint p | setMark p | readCapture p | setCaptureAction p | readLandmark p | findLandmarks p
  | examineLandmark p | retireRegion p | readCoverage p | readClosure p | writeDirectives p | readDirectives p
  | setList p | checkpoint p | rollback p | resumeRollback p | readSlots p | exportStart p | exportStop p =>
    simp only [exec,
      execNop, execReadIdentity, execReadStatus, execReadEvents, execSetEventEnables, execSetMasks, execFinish,
      execAbort, execRelease, execHint, execSetMark, execReadCapture, execSetCaptureAction, execReadLandmark,
      execFindLandmarks, execExamineLandmark, execRetireRegion, execReadCoverage, execReadClosure,
      execWriteDirectives, execReadDirectives, execSetList, execCheckpoint, execRollback, execResumeRollback,
      execReadSlots, execExportStart, execExportStop]
    refine after_command (by simp [changedBy]) ?_
    (repeat' split) <;> simp [framed_iff, changedBy]

theorem exec_same {c : Instr} {s t : State} (h : exec c s = .next t) {p : Part} (hp : p ∉ changedBy c) : p.same s t :=
  (exec_framed c s).next h p hp

/-! ### From rows to steps -/

/-- A step is a row's step from the state with the queue's rest, or leaves the state as it is. -/
theorem step_cases {s t : State} (h : step s = .next t) :
    (∃ c rest, s.pending = c :: rest ∧ exec c { s with pending := rest } = .next t) ∨ (s.pending = [] ∧ t = s) := by
  unfold step at h
  split at h
  · exact .inl ⟨_, _, ‹_›, h⟩
  · cases h
    exact .inr ⟨‹_›, rfl⟩

/-- What every row keeps and does not mention the queue, every step keeps. -/
theorem step_keeps {P : State → Prop} (hqueue : ∀ s q, P s → P { s with pending := q })
    (hexec : ∀ c s t, P s → exec c s = .next t → P t) (s t : State) (h : P s) (hstep : step s = .next t) : P t := by
  obtain ⟨c, rest, -, hc⟩ | ⟨-, rfl⟩ := step_cases hstep
  · exact hexec c _ t (hqueue s rest h) hc
  · exact h

/-- Settles O1. -/
theorem stepRunsTheFrontCommand : Obligations.StepRunsTheFrontCommand := by
  refine ⟨fun c rest s => rfl, fun s h => ?_⟩
  rw [step, h]

/-! ### Queue, geometry, presence map and canvas memory (R1, R4, R6, R7, R122) -/

theorem access_next_iff {s t u : State} : s.access u = .next t ↔ s.memoryFits = true ∧ u = t := by
  unfold State.access
  split <;> simp_all

/-- What a second slot can do: DR's word read, a grant to the first ring member that waits, or nothing. -/
theorem secondSlot_cases {s t : State} (h : s.secondSlot = .next t) :
    (s.readerWaits = true ∧ s.memoryFits = true ∧ t = s.readWord) ∨
    (∃ r, s.memoryFits = true ∧ s.ringWaits r = true ∧ t = s.grantRing r) ∨ t = s := by
  unfold State.secondSlot at h
  split at h
  · obtain ⟨hfits, rfl⟩ := access_next_iff.mp h
    exact .inl ⟨‹_›, hfits, rfl⟩
  · split at h
    · obtain ⟨hfits, rfl⟩ := access_next_iff.mp h
      exact .inr (.inl ⟨_, hfits, List.find?_some ‹_›, rfl⟩)
    · cases h
      exact .inr (.inr rfl)

/-- What a first slot can do: PI's segment, a due refresh, or what a second slot can do. -/
theorem firstSlot_cases {s t : State} (h : exec .firstSlot s = .next t) :
    (s.pi.waiting ≠ [] ∧ s.memoryFits = true ∧ t = s.writeSegment) ∨ t = s.serveRefresh ∨ s.secondSlot = .next t := by
  simp only [exec, execFirstSlot] at h
  split at h
  · obtain ⟨hfits, rfl⟩ := access_next_iff.mp h
    exact .inl ⟨by simp_all, hfits, rfl⟩
  · split at h
    · cases h
      exact .inr (.inl rfl)
    · exact .inr (.inr h)

@[simp] theorem grantRing_ma (s : State) (r : Ring) : (s.grantRing r).ma = { s.ma with rotation := r } := by
  cases r with
  | bu => exact (State.blendBurst_keeps _).2.2.1
  | link => exact (State.linkBurst_keeps _).2.2.1
  | eu | cx => rfl

theorem secondSlot_dies {s t : State} (h : s.secondSlot = .next t) : t.ma.dies = s.ma.dies := by
  obtain ⟨-, -, rfl⟩ | ⟨r, -, -, rfl⟩ | rfl := secondSlot_cases h
  · rfl
  · simp
  · rfl

theorem firstSlot_dies {s t : State} (h : exec .firstSlot s = .next t) : t.ma.dies = s.ma.dies := by
  obtain ⟨-, -, rfl⟩ | rfl | h := firstSlot_cases h
  · rfl
  · rfl
  · exact secondSlot_dies h

/-- Where a command answers, LI had not taken it, or its length was refused, or its own rule answered. -/
theorem command_cases {s t : State} {c : HostCommand} {p : List Byte} {lenOk : Nat → Bool} {f : State → State}
    (h : s.command c p lenOk f = .next t) :
    t = s ∨ t = s.refuse .badLength ∨ s.delivers c p = true ∧ lenOk p.length = true ∧ t = f s := by
  unfold State.command at h
  injection h with h
  subst h
  split
  · split
    · exact .inr (.inr ⟨‹_›, ‹_›, rfl⟩)
    · exact .inr (.inl rfl)
  · exact .inl rfl

theorem reset_dies {s t : State} {p : List Byte} (h : exec (.reset p) s = .next t) : t.ma.dies = s.ma.dies := by
  obtain rfl | rfl | ⟨-, -, rfl⟩ := command_cases (show execReset p s = .next t from h) <;> rfl

theorem dies_kept {c : Instr} {s t : State} (h : exec c s = .next t) (hpower : c ≠ .powerOn) (hpin : c ≠ .resetNAssert)
    (hsense : ∀ d, c ≠ .dieSensingComplete d) : t.ma.dies = s.ma.dies := by
  cases c with
  | powerOn => exact absurd rfl hpower
  | resetNAssert => exact absurd rfl hpin
  | dieSensingComplete d => exact absurd rfl (hsense d)
  | firstSlot => exact firstSlot_dies h
  | secondSlot => exact secondSlot_dies h
  | reset => exact reset_dies h
  | resetNRises => cases h; rfl
  | refreshDue =>
    simp only [exec, execRefreshDue, Host.Outcome.next.injEq] at h
    subst h
    split <;> rfl
  | _ => exact congrArg Arbiter.dies (exec_same h (p := .ma) (by simp [changedBy]))

theorem geo_unchanged_of_setsGeometry {c : Instr} (h : c.setsGeometry = false) : Part.geo ∉ changedBy c := by
  cases c <;> simp [Instr.setsGeometry, changedBy] at h ⊢

theorem pending_unchanged (c : Instr) : Part.pending ∉ changedBy c := by
  cases c <;> simp [changedBy]

/-- Settles O10, by the table of what each row can change: the queue is in no row's list, and the geometry only in those of
`Instr.setsGeometry`. Of MA those rows that touch it leave the presence map alone. -/
theorem queueAndGeometryAreKept : Obligations.QueueAndGeometryAreKept := fun c _ _ h =>
  ⟨exec_same h (pending_unchanged c), fun hset => exec_same h (geo_unchanged_of_setsGeometry hset), dies_kept h⟩

theorem mem_unchanged_of_writesMemory {c : Instr} (h : c.writesMemory = false) : Part.mem ∉ changedBy c := by
  cases c <;> simp [Instr.writesMemory, changedBy] at h ⊢

theorem linkBurst_wf {s : State} (h : s.mem.wf) : s.linkBurst.mem.wf := by
  unfold State.linkBurst
  split
  · exact State.writeMem_wf _ _ h
  all_goals exact h

theorem blendBurst_wf {s : State} (h : s.mem.wf) : s.blendBurst.mem.wf := by
  unfold State.blendBurst
  split
  · exact Memory.writeAll_wf _ _ h
  · split
    case h_1 => simpa using h
    case h_2 | h_3 => exact Memory.writeAll_wf _ _ h
    all_goals exact h
  · exact h

theorem grantRing_wf {s : State} {r : Ring} (h : s.mem.wf) : (s.grantRing r).mem.wf := by
  cases r with
  | bu => exact blendBurst_wf (s := { s with ma := _ }) h
  | link => exact linkBurst_wf (s := { s with ma := _ }) h
  | eu | cx => exact h

theorem secondSlot_wf {s t : State} (h : s.mem.wf) (ho : s.secondSlot = .next t) : t.mem.wf := by
  obtain ⟨-, -, rfl⟩ | ⟨r, -, -, rfl⟩ | rfl := secondSlot_cases ho
  · exact h
  · exact grantRing_wf h
  · exact h

/-- PI's grants write cells before the step's own effect, or none and then memory is not accessed. -/
theorem granted_cases {s t : State} {cells : List Host.Cell} {f : State → State} (h : s.granted cells f = .next t) :
    cells = [] ∧ t = f s ∨ s.memoryFits = true ∧ t = f (s.writeMem cells) := by
  unfold State.granted at h
  split at h
  · cases h
    exact .inl ⟨by simp_all, rfl⟩
  · obtain ⟨hfits, rfl⟩ := access_next_iff.mp h
    exact .inr ⟨hfits, rfl⟩

theorem granted_wf {s t : State} {cells : List Host.Cell} {f : State → State} (hf : ∀ u, (f u).mem = u.mem)
    (h : s.mem.wf) (ho : s.granted cells f = .next t) : t.mem.wf := by
  obtain ⟨-, rfl⟩ | ⟨-, rfl⟩ := granted_cases ho <;> rw [hf]
  · exact h
  · exact State.writeMem_wf _ _ h

theorem exec_wf (c : Instr) (s t : State) (h : s.mem.wf) (ho : exec c s = .next t) : t.mem.wf := by
  cases c with
  | powerOn | resetNAssert =>
    cases ho
    exact Memory.lose_wf _
  | firstSlot =>
    obtain ⟨-, -, rfl⟩ | rfl | ho := firstSlot_cases ho
    · exact State.writeMem_wf _ _ h
    · exact h
    · exact secondSlot_wf h ho
  | secondSlot => exact secondSlot_wf h ho
  | line luma chroma =>
    simp only [exec, execLine] at ho
    split at ho
    · refine granted_wf ?_ h ho
      exact fun _ => rfl
    · cases ho
      exact h
  | frameEnd =>
    simp only [exec, execFrameEnd] at ho
    split at ho
    · refine granted_wf ?_ h ho
      exact fun _ => by simp
    · cases ho
      exact h
  | _ =>
    rw [exec_same ho (p := .mem) (by simp [changedBy])]
    exact h

/-- Settles O8. Cells are only ever written by `Memory.writeAll`, which keeps addresses rising, and only the six rows of
`Instr.writesMemory` have memory among the parts they change. -/
theorem memoryStaysAsItWas : Obligations.MemoryStaysAsItWas := by
  refine ⟨step_keeps (fun _ _ h => h) exec_wf, fun c s t hc ho a => ?_⟩
  rw [exec_same ho (mem_unchanged_of_writesMemory hc)]

end Sys2Proof.Machine

/-! ### What the bookkeeping of a sweep keeps (R27, R121, R187)

Three laws speak of the sweep state, the condition flags, the four frame counters, the banks without an outcome, and LI's
event flags and enables: the counters balance, a held cause keeps its flag, a raised event stays raised. `BookLaw` lists the
few things a row can do to those, and `BookLaw.exec_keeps` says that a predicate kept by each of them is kept by every row
but the resets and the two that LI's event registers belong to. -/

namespace Sys2Proof.Machine

/-- Sweep state, condition flags, frame counters, event flags and enables stand as they were. -/
structure SameLedger (s t : State) : Prop where
  sweep : t.sc.sweep = s.sc.sweep
  flags : t.sc.flags = s.sc.flags
  started : t.sc.started = s.sc.started
  placed : t.sc.placed = s.sc.placed
  dropped : t.sc.dropped = s.sc.dropped
  setAside : t.sc.setAside = s.sc.setAside
  events : t.li.events = s.li.events
  enables : t.li.enables = s.li.enables

theorem SameLedger.of_parts {s t : State} (hsc : t.sc = s.sc) (hli : t.li = s.li) : SameLedger s t := by
  constructor <;> simp [hsc, hli]

/-- A predicate that each elementary act of the bookkeeping keeps. -/
structure BookLaw (P : State → Prop) : Prop where
  /-- nothing of the ledger moves, and as many banks as before wait for an outcome -/
  idle : ∀ {s t : State}, P s → SameLedger s t → t.openBanks = s.openBanks → P t
  /-- an event is raised (R187) -/
  raise : ∀ {s : State} (e : Event), P s → P (s.raise e)
  /-- a bank stops waiting and an outcome is counted (R26) -/
  settled : ∀ {s t : State} (lf : LastFrame), P s → SameLedger s t → t.openBanks + 1 = s.openBanks →
    P (t.recordOutcome lf)
  /-- a counted frame takes its outcome at its start (R18) -/
  dropped : ∀ {s : State} (lf : LastFrame), P s → P (s.countFrame.recordOutcome lf)
  /-- a counted frame takes a bank (R18) -/
  taken : ∀ {s t : State}, P s → SameLedger s.countFrame t → t.openBanks = s.openBanks + 1 → P t
  /-- a condition's flag is set (R124) -/
  flag : ∀ {s : State} (c : Condition), P s → P (s.setFlag c)
  /-- the sweep is held by a cause whose flag stands (R125) -/
  held : ∀ {s : State} {c : Condition}, P s → s.sc.flags.getLsbD c.bit = true →
    P { s with sc := { s.sc with sweep := .held c } }
  /-- the sweep enters a state that is not HELD -/
  freed : ∀ {s : State} {w : SweepState}, P s → w.isHeld = false → P { s with sc := { s.sc with sweep := w } }
  /-- CLEAR CONDITIONS (R127) -/
  clearFlags : ∀ {s : State}, P s → P s.clearFlags
  /-- ARM frees every bank and clears counters and flags (R122) -/
  armed : ∀ {s : State}, P s → P { s with pi := s.pi.armed, sc := s.sc.armed }
  /-- a rollback restores the condition flags, and the sweep is SWEEPING (R179) -/
  restored : ∀ {s : State} (f : BitVec 8), P s → P { s with sc := { s.sc with sweep := .sweeping, flags := f } }

/-! #### Banks that wait for an outcome -/

@[simp] theorem bank_setBank_same (s : State) (b : BankId) (k : Bank) : (s.setBank b k).bank b = k := by
  cases b <;> rfl

theorem bank_setBank_other (s : State) {b c : BankId} (k : Bank) (h : c ≠ b) : (s.setBank b k).bank c = s.bank c := by
  cases b <;> cases c <;> simp_all [State.setBank, State.bank, Banks.set, Banks.get]

theorem openBanks_eq (s : State) : s.openBanks =
    (s.bank .b0).state.isOpen.toNat + (s.bank .b1).state.isOpen.toNat + (s.bank .b2).state.isOpen.toNat := by
  unfold State.openBanks bankIds
  simp only [List.countP_cons, List.countP_nil]
  cases (s.bank .b0).state.isOpen <;> cases (s.bank .b1).state.isOpen <;> cases (s.bank .b2).state.isOpen <;> rfl

theorem openBanks_congr {s t : State} (h : ∀ b, (t.bank b).state.isOpen = (s.bank b).state.isOpen) :
    t.openBanks = s.openBanks := by
  rw [openBanks_eq, openBanks_eq, h, h, h]

theorem openBanks_of_banks {s t : State} (h : t.pi.banks = s.pi.banks) : t.openBanks = s.openBanks := by
  unfold State.openBanks State.bank
  rw [h]

theorem openBanks_setBank (s : State) (b : BankId) (k : Bank) :
    (s.setBank b k).openBanks + (s.bank b).state.isOpen.toNat = s.openBanks + k.state.isOpen.toNat := by
  rw [openBanks_eq, openBanks_eq]
  cases b <;> simp only [State.setBank, State.bank, Banks.set, Banks.get] <;> omega

theorem openBanks_setBank_same {s : State} {b : BankId} {k : Bank} (h : k.state.isOpen = (s.bank b).state.isOpen) :
    (s.setBank b k).openBanks = s.openBanks := by
  have := openBanks_setBank s b k
  rw [h] at this
  omega

theorem openBanks_setBank_closed {s : State} {b : BankId} {k : Bank} (hopen : (s.bank b).state.isOpen = true)
    (h : k.state.isOpen = false) : (s.setBank b k).openBanks + 1 = s.openBanks := by
  have := openBanks_setBank s b k
  rw [h, hopen] at this
  exact this

theorem openBanks_setBank_opened {s : State} {b : BankId} {k : Bank} (hclosed : (s.bank b).state.isOpen = false)
    (h : k.state.isOpen = true) : (s.setBank b k).openBanks = s.openBanks + 1 := by
  have := openBanks_setBank s b k
  rw [h, hclosed] at this
  exact this

/-- Marking a storing bank leaves its state. -/
@[simp] theorem markStoring_bank_state (s : State) (m : DropMark) (b : BankId) :
    ((s.markStoring m).bank b).state = (s.bank b).state := by
  unfold State.markStoring
  split
  · rename_i c _
    split
    · by_cases h : b = c
      · subst h
        simp
      · rw [bank_setBank_other _ _ h]
    · rfl
  · rfl

theorem settle_bank_self_closed (s : State) (b : BankId) (lf : LastFrame) :
    ((s.settle b lf).bank b).state.isOpen = false := by
  by_cases h : (s.bank b).state.isOpen = true
  · have hpi : (s.settle b lf).pi.banks = (s.setBank b (s.bank b).freed).pi.banks := by
      simp [State.settle, h, State.setBank]
    unfold State.bank
    rw [hpi]
    exact congrArg (fun k : Bank => k.state.isOpen) (bank_setBank_same s b (s.bank b).freed)
  · simp [State.settle, h]

theorem settle_bank_stays_closed (s : State) (b c : BankId) (lf : LastFrame)
    (h : (s.bank c).state.isOpen = false) : ((s.settle b lf).bank c).state.isOpen = false := by
  by_cases hb : c = b
  · subst hb
    exact settle_bank_self_closed s c lf
  · by_cases hopen : (s.bank b).state.isOpen = true
    · have hpi : (s.settle b lf).pi.banks = (s.setBank b (s.bank b).freed).pi.banks := by
        simp [State.settle, hopen, State.setBank]
      have hbank : (s.settle b lf).bank c = s.bank c := by
        unfold State.bank
        rw [hpi]
        exact bank_setBank_other s _ hb
      rw [hbank, h]
    · simpa [State.settle, hopen] using h

theorem settleIntake_bank (s : State) (b c : BankId) (o : FrameOutcome) : (s.settleIntake b o).bank c =
    (s.settle b (LastFrame.ofIntake ((s.bank b).serial.getD 0#16) o)).bank c := by
  simp [State.settleIntake, State.bank]

/-- Once every bank has been settled no frame waits for an outcome. -/
theorem foldl_settleIntake_openBanks (s : State) (o : FrameOutcome) :
    (bankIds.foldl (fun s b => s.settleIntake b o) s).openBanks = 0 := by
  have self (s : State) (b : BankId) : ((s.settleIntake b o).bank b).state.isOpen = false := by
    rw [settleIntake_bank]
    exact settle_bank_self_closed _ _ _
  have stays {s : State} (b : BankId) {c : BankId} (h : (s.bank c).state.isOpen = false) :
      ((s.settleIntake b o).bank c).state.isOpen = false := by
    rw [settleIntake_bank]
    exact settle_bank_stays_closed _ _ _ _ h
  rw [openBanks_eq]
  simp only [bankIds, List.foldl_cons, List.foldl_nil]
  rw [stays .b2 (stays .b1 (self s .b0)), stays .b2 (self _ .b1), self _ .b2]
  rfl

namespace BookLaw

variable {P : State → Prop} (L : BookLaw P) {s : State}

theorem ite {c : Prop} [Decidable c] {t u : State} (ht : P t) (hu : P u) : P (if c then t else u) := by
  split
  · exact ht
  · exact hu

include L

/-- An operation that leaves SC and LI alone and the banks too is none of the law's business. -/
theorem of_parts {t : State} (h : P s) (hsc : t.sc = s.sc) (hli : t.li = s.li) (hbanks : t.pi.banks = s.pi.banks) :
    P t :=
  L.idle h (.of_parts hsc hli) (openBanks_of_banks hbanks)

/-! #### Operations that leave the ledger as it was -/

theorem setPass {p : Option Pass} (h : P s) : P (s.setPass p) := L.of_parts h rfl rfl rfl

theorem setMatcher {m : Matcher} (h : P s) : P { s with me := m } := L.of_parts h rfl rfl rfl

theorem setQueue {q : List BankId} (h : P s) : P { s with pi := { s.pi with queue := q } } := L.of_parts h rfl rfl rfl

theorem reply {r : Reply} (h : P s) : P (s.reply r) := L.idle h (by constructor <;> rfl) rfl

theorem answer {data : List Byte} (h : P s) : P (s.answer data) := L.reply h

theorem refuse {r : Reason} (h : P s) : P (s.refuse r) := L.reply h

theorem setProcessing {q : Option Processing} (h : P s) : P { s with li := { s.li with processing := q } } :=
  L.idle h (by constructor <;> rfl) rfl

theorem leaveStore (h : P s) : P s.leaveStore := L.of_parts h rfl rfl rfl

theorem leaveHeld (h : P s) : P s.leaveHeld := L.freed h rfl

theorem clearHint {v : Serial} (h : P s) : P (s.clearHint v) := L.of_parts h (by simp) (by simp) (by simp)

theorem markStoring {m : DropMark} (h : P s) : P (s.markStoring m) :=
  L.idle h (.of_parts (by simp) (by simp)) (openBanks_congr fun b => by simp)

theorem setCaptureResult {r : CaptureResult} (h : P s) : P (s.setCaptureResult r) :=
  L.idle h (by constructor <;> rfl) rfl

theorem captureTook {r : CaptureResult} (h : P s) : P (s.captureTook r) := L.idle h (by constructor <;> rfl) rfl

theorem markFinishWaits {w : Bool} (h : P s) : P { s with sc := { s.sc with markFinishWaits := w } } :=
  L.idle h (by constructor <;> rfl) rfl

theorem dropWaitingFinish (h : P s) : P s.dropWaitingFinish :=
  ite (L.setCaptureResult (L.markFinishWaits h)) (L.markFinishWaits h)

theorem loadMark {u : Bool} {a : MarkAction} {n : Nat} (h : P s) : P (s.loadMark u a n) := by
  cases u <;> exact L.idle h (by constructor <;> rfl) rfl

theorem disarmMark {u : Bool} (h : P s) : P (s.disarmMark u) := by
  cases u <;> exact L.idle h (by constructor <;> rfl) rfl

theorem setMasks {m : BitVec 8} (h : P s) : P (s.setMasks m) := L.idle h (by constructor <;> rfl) rfl

/-! #### Outcomes, holds and sweep states -/

theorem settle {b : BankId} {lf : LastFrame} (h : P s) : P (s.settle b lf) := by
  unfold State.settle
  split
  · refine L.settled lf h (by constructor <;> rfl) ?_
    exact openBanks_setBank_closed ‹_› rfl
  · exact h

theorem settleIntake {b : BankId} {o : FrameOutcome} (h : P s) : P (s.settleIntake b o) := L.clearHint (L.settle h)

theorem foldl_settleIntake {l : List BankId} {o : FrameOutcome} (h : P s) :
    P (l.foldl (fun s b => s.settleIntake b o) s) :=
  List.foldlRecOn l _ h fun _ hs _ _ => L.settleIntake hs

theorem releaseQueue (h : P s) : P s.releaseQueue := L.foldl_settleIntake h

theorem abandonBanks (h : P s) : P s.abandonBanks := by
  refine L.idle (s := bankIds.foldl (fun s b => s.settleIntake b .abandoned) _)
    (L.foldl_settleIntake (L.foldl_settleIntake ?_)) (by constructor <;> rfl) ?_
  · split
    · exact L.settleIntake h
    · exact h
  · rw [foldl_settleIntake_openBanks]
    rfl

theorem report {c : Condition} (h : P s) : P (s.report c).1 := by
  have hflag : (s.setFlag c).sc.flags.getLsbD c.bit = true := by
    cases c <;> simp [State.setFlag, Condition.mask, Condition.bit]
  unfold State.report
  dsimp only
  split
  · exact L.raise _ (L.markStoring (L.held (L.flag c h) hflag))
  · exact L.flag c h

theorem enterClosing (h : P s) : P s.enterClosing := L.releaseQueue (L.markStoring (L.freed h rfl))

/-! #### The end of a pass and of a sweep -/

theorem settlePass {p : Pass} {lf : LastFrame} (h : P s) : P (s.settlePass p lf) := by
  unfold State.settlePass
  split
  · exact L.settle h
  · exact h

theorem endPassWith {p : Pass} {o : FrameOutcome} (h : P s) : P (s.endPassWith p o) := L.setPass (L.settlePass h)

theorem stopPass (h : P s) : P s.stopPass := by
  unfold State.stopPass
  split
  · exact ite (L.endPassWith h) h
  · exact h

theorem meetStop (h : P s) : P s.meetStop := ite (L.stopPass h) h

theorem giveUpHeld (h : P s) : P s.giveUpHeld := by
  unfold State.giveUpHeld
  split
  · split
    case h_1 | h_2 => exact L.endPassWith h
    case h_3 => exact L.setPass h
    all_goals exact h
  · exact h

theorem finishArmed (h : P s) : P s.finishArmed := by
  refine L.raise _ (L.releaseQueue (L.markStoring (L.freed ?_ rfl)))
  split
  · exact L.endPassWith h
  · exact h

theorem finishSweep (h : P s) : P s.finishSweep := by
  unfold State.finishSweep
  split
  case h_1 => exact L.finishArmed h
  case h_2 => exact L.enterClosing h
  case h_3 => exact L.enterClosing (L.giveUpHeld h)
  all_goals exact h

/-! #### Context operations and the jobs of EU -/

theorem takeWaitingFinish (h : P s) : P s.takeWaitingFinish := by
  have hcapture {t : State} (ht : P t) : P (if t.sc.captureFinishWaits then
      if t.sc.sweep.canFinish then (t.setCaptureResult .taken).finishSweep else t.setCaptureResult .none
    else t) := ite (ite (L.finishSweep (L.setCaptureResult ht)) (L.setCaptureResult ht)) ht
  exact hcapture (ite (L.finishSweep (L.markFinishWaits h)) h)

theorem setContext {c : Context} (h : P s) : P { s with cx := c } := L.of_parts h rfl rfl rfl

theorem endRollback {k : SlotId} {r : RollbackResult} (h : P s) : P (s.endRollback k r) := L.raise _ (L.setContext h)

theorem endJob {r : JobResult} (h : P s) : P (s.endJob r) := L.raise _ (L.of_parts h rfl rfl rfl)

theorem stopJob (h : P s) : P s.stopJob := by
  unfold State.stopJob
  split
  · exact ite (L.of_parts h rfl rfl rfl) (L.endJob h)
  · exact h
  · exact h

theorem stopContext (h : P s) : P s.stopContext := by
  unfold State.stopContext
  split
  case h_1 => exact h
  case h_4 | h_5 => exact L.dropWaitingFinish (L.endRollback h)
  all_goals exact L.setContext h

theorem afterLine (h : P s) : P s.afterLine := ite (L.endJob h) (L.of_parts h rfl rfl rfl)

theorem verifyFails {k : SlotId} {r : RollbackResult} (h : P s) : P (s.verifyFails k r) :=
  L.takeWaitingFinish (L.endRollback h)

/-! #### Directive lists -/

theorem setReader {d : Reader} (h : P s) : P { s with dr := d } := L.of_parts h rfl rfl rfl

theorem applyDirective {v : Serial} {d : Directive} (h : P s) : P (s.applyDirective v d) := by
  cases d with
  | signal => exact L.setReader (L.raise _ h)
  | hint dx dy => exact L.setReader (L.of_parts h (by simp) (by simp) (by simp))
  | mark u a n => exact L.setReader (L.loadMark h)
  | masks m => exact L.setReader (L.setMasks h)
  | stop | skip | next | nextAndStop | retireRegion | blend => exact L.of_parts h rfl rfl rfl

theorem directiveFault (h : P s) : P s.directiveFault := L.raise _ (L.setReader h)

theorem applyWord {v : Serial} {w : ReadWord} (h : P s) : P (s.applyWord v w) := by
  unfold State.applyWord
  split
  · exact L.applyDirective h
  · exact L.directiveFault h

theorem closeGap (h : P s) : P s.closeGap := by
  unfold State.closeGap
  split
  · exact L.setReader (L.applyWord h)
  · exact L.setReader h
  · exact h

theorem openGap {v : Serial} (h : P s) : P (s.openGap v) := ite (ite (L.setReader (L.closeGap h)) (L.closeGap h)) h

theorem setList {n : Nat} {e : Bool} (h : P s) : P (s.setList n e) := by
  cases e
  · exact L.setReader (L.closeGap h)
  · exact L.setReader h

/-! #### Frame intake -/

theorem countFrame_dropAtStart {o : FrameOutcome} (h : P s) : P (s.countFrame.dropAtStart o) :=
  L.clearHint (L.dropped _ h)

theorem countFrame_takeBank (h : P s) : P s.countFrame.takeBank := by
  unfold State.takeBank
  split
  · rename_i b hfind
    have hfree : (s.countFrame.bank b).state = .free := by simpa using List.find?_some hfind
    refine L.taken h (by constructor <;> rfl) ?_
    exact openBanks_setBank_opened (s := s.countFrame) (congrArg BankState.isOpen hfree) rfl
  · exact L.countFrame_dropAtStart h

theorem frameStart (h : P s) : P s.frameStart := by
  unfold State.frameStart
  split
  case h_3 | h_4 => exact L.openGap (L.countFrame_takeBank h)
  case h_5 => exact L.openGap (L.countFrame_dropAtStart h)
  case h_6 => exact L.countFrame_dropAtStart h
  all_goals exact h

theorem closeUnended (h : P s) : P s.closeUnended := by
  unfold State.closeUnended
  split
  · exact L.leaveStore (L.settleIntake h)
  · exact h

theorem queueBank {b : BankId} (hfilling : (s.bank b).state = .filling) (h : P s) : P (s.queueBank b) := by
  refine L.idle h (by constructor <;> rfl) ?_
  exact openBanks_setBank_same (b := b) (k := { (s.bank b).completeCandidates s.geo with state := .queued })
    (congrArg BankState.isOpen hfilling).symm

theorem closeFrame {b : BankId} (h : P s) : P (s.closeFrame b) := by
  unfold State.closeFrame
  split
  · exact L.settleIntake h
  · split
    · exact L.settleIntake h
    · exact L.settleIntake h
    · split
      · exact L.queueBank ‹_› h
      · exact h

/-! #### The judge -/

theorem judgeReport {p : Pass} {c : Condition} {f : State → State} (h : P s) (hf : ∀ {t : State}, P t → P (f t)) :
    P (s.judgeReport p c f) := ite (L.setPass (L.report h)) (hf (L.report h))

theorem canvasEnd {p : Pass} (h : P s) : P (s.canvasEnd p) := L.endPassWith (ite (L.enterClosing h) h)

theorem check5 {p : Pass} (h : P s) : P (s.check5 p) := ite (L.setPass h) (L.judgeReport h L.canvasEnd)

theorem check4 {p : Pass} (h : P s) : P (s.check4 p) := ite (L.judgeReport h L.check5) (L.check5 h)

theorem check3 {p : Pass} (h : P s) : P (s.check3 p) := ite (L.judgeReport h L.check4) (L.check4 h)

theorem dwell {p : Pass} (h : P s) : P (s.dwell p) := ite (L.setPass (L.settlePass h)) (L.endPassWith h)

theorem check2 {p : Pass} (h : P s) : P (s.check2 p) :=
  ite (L.judgeReport h L.endPassWith) (ite (L.dwell h) (L.check3 h))

theorem unplaced {p : Pass} (h : P s) : P (s.unplaced p) := L.setPass (L.settlePass h)

theorem lostDefault {p : Pass} (h : P s) : P (s.lostDefault p) := L.unplaced (L.setMatcher h)

theorem lowMatchDefault {p : Pass} (h : P s) : P (s.lowMatchDefault p) :=
  ite (L.check2 (L.setMatcher h)) (L.judgeReport h L.lostDefault)

theorem check1 {p : Pass} (h : P s) : P (s.check1 p) := by
  unfold State.check1
  split
  · exact ite (L.check2 (L.setMatcher h)) (ite (L.unplaced h) (L.judgeReport h L.lowMatchDefault))
  · exact ite (L.unplaced h) (L.judgeReport h L.lowMatchDefault)

/-! #### The push and admission -/

theorem markFinish (h : P s) : P s.markFinish := ite h (ite (L.markFinishWaits h) (ite (L.enterClosing h) h))

theorem markAction {a : MarkAction} (h : P s) : P (s.markAction a) := by
  cases a with
  | signal => exact h
  | finish => exact L.markFinish h
  | cueSet | cueClear | cueToggle => exact L.idle h (by constructor <;> rfl) rfl

theorem evalMark {u : Bool} (h : P s) : P (s.evalMark u) := ite (L.markAction (L.raise _ (L.disarmMark h))) h

theorem setClosure {c : Closure} (h : P s) : P { s with sc := { s.sc with closure := c } } :=
  L.idle h (by constructor <;> rfl) rfl

theorem detectClosure {v : Serial} {t : ClosureTest} (h : P s) : P (s.detectClosure v t) :=
  ite (ite (L.enterClosing (L.raise _ (L.setClosure h))) (L.raise _ (L.setClosure h))) h

theorem closureResult {p : Pass} (h : P s) : P (s.closureResult p) := by
  unfold State.closureResult
  split
  · split
    · exact L.detectClosure h
    · exact L.setClosure h
  · exact h

theorem setProgress {x : Int} (h : P s) : P (s.setProgress x) := L.idle h (by constructor <;> rfl) rfl

theorem drivePace {d : Int} (h : P s) : P (s.drivePace d) := L.idle h (by constructor <;> rfl) rfl

theorem pushReport {p : Pass} (h : P s) : P (s.pushReport p) :=
  L.closureResult (L.drivePace (L.evalMark (L.evalMark (L.setProgress h))))

theorem originSweeping {p : Pass} (h : P s) : P (s.originSweeping p) := ite (L.freed h rfl) h

theorem enterPush {p : Pass} {b : BankId} (hmatching : (s.bank b).state = .matching) (h : P s) :
    P (s.enterPush p b) := by
  have hbank : (s.originSweeping p).bank b = s.bank b := by
    unfold State.originSweeping
    split <;> rfl
  refine L.setPass (L.pushReport (L.raise _ (L.settled _ (L.originSweeping (p := p) h) (by constructor <;> rfl) ?_)))
  refine openBanks_setBank_closed (s := s.originSweeping p) ?_ rfl
  rw [hbank, hmatching]
  rfl

theorem takePush {p : Pass} {b : BankId} {a : Bool} (hmatching : (s.bank b).state = .matching) (h : P s) :
    P (s.takePush p b a) := by
  have hreport : ((s.report .windowOverflow).1.bank b).state = .matching := by
    rw [← hmatching]
    unfold State.report
    dsimp only
    split
    · exact markStoring_bank_state _ _ _
    · rfl
  have hforce {t : State} (ht : (t.bank b).state = .matching) (hP : P t) : P ((t.forceVictim p.serial).enterPush p b) :=
    L.enterPush (by simpa [State.bank] using ht) (L.of_parts hP (by simp) (by simp) (by simp))
  exact ite (ite (ite h (hforce hmatching h))
    (ite (L.setPass (L.report h)) (ite h (hforce hreport (L.report h))))) (L.enterPush hmatching h)

theorem pushMatching {p : Pass} {a : Bool} (h : P s) : P (s.pushMatching p a) := by
  unfold State.pushMatching
  split
  · split
    · exact L.takePush ‹_› h
    · exact h
  · exact h

theorem admissionAnswered {p : Pass} {t : Table × Bool} (h : P s) : P (s.admissionAnswered p t) :=
  L.of_parts h rfl rfl rfl

theorem takeAdmission {p : Pass} {a : Admission} {b : Bool} (h : P s) : P (s.takeAdmission p a b) := by
  refine ite (L.admissionAnswered h) ?_
  split
  · exact L.admissionAnswered h
  · exact ite (L.admissionAnswered h) (ite (L.setPass (L.report h)) (L.admissionAnswered (L.report h)))

/-! #### The host's commands -/

theorem resume {f : Condition → State} (h : P s) (hf : ∀ c, P (f c)) : P (s.resume f) := by
  unfold State.resume
  split
  · exact ite (L.refuse h) (hf _)
  all_goals exact L.refuse h

theorem resumeHeld {f : Pass → State} {empty : State} (hf : ∀ p, P (f p)) (hempty : P empty) :
    P (s.resumeHeld f empty) := by
  unfold State.resumeHeld
  refine L.answer ?_
  split
  · exact hf _
  · exact hempty

theorem acceptParked {p : Pass} (h : P s) : P (s.acceptParked p) := by
  unfold State.acceptParked
  dsimp only
  split
  · exact ite (L.setPass (L.leaveHeld h)) (L.takeAdmission (L.leaveHeld h))
  · exact L.setPass (L.leaveHeld h)

theorem acceptPush {p : Pass} (h : P s) : P (s.acceptPush p) :=
  ite (L.setPass (L.leaveHeld h)) (L.pushMatching (L.leaveHeld h))

theorem acceptDefault {p : Pass} {c : Condition} (h : P s) : P (s.acceptDefault p c) := by
  cases c with
  | lowMatch => exact L.lowMatchDefault (L.leaveHeld h)
  | lost => exact L.lostDefault (L.leaveHeld h)
  | reversal => exact L.endPassWith (L.leaveHeld h)
  | vertical => exact L.check4 (L.leaveHeld h)
  | speed => exact L.check5 (L.leaveHeld h)
  | windowOverflow => exact L.acceptPush h
  | tableFull => exact L.acceptParked h
  | canvasFull => exact L.endPassWith (L.enterClosing h)

theorem acceptNothing {c : Condition} (h : P s) : P (s.acceptNothing c) := ite (L.enterClosing h) (L.leaveHeld h)

theorem skipHeld {p : Pass} {c : Condition} (h : P s) : P (s.skipHeld p c) :=
  ite (L.setPass (L.leaveHeld h)) (L.endPassWith (L.leaveHeld h))

theorem placeHeld {p : Pass} {x y : Int} (h : P s) : P (s.placeHeld p x y) := L.check2 (L.setMatcher (L.leaveHeld h))

theorem arm {d : Direction} {c r : Nat} (h : P s) : P (s.arm d c r) :=
  L.armed (s := (State.clearMatcher _)) (L.of_parts (L.closeGap h) rfl rfl rfl)

theorem runArm {p : List Byte} (h : P s) : P (s.runArm p) := by
  refine ite (L.refuse h) (ite (L.refuse h) ?_)
  split
  · exact L.refuse h
  · exact ite (L.refuse h) (ite (L.refuse h) (ite (L.refuse h) (L.answer (L.arm h))))

theorem runFinish (h : P s) : P s.runFinish := ite (L.refuse h) (ite (L.refuse h) (L.answer (L.finishSweep h)))

theorem abortStop (h : P s) : P s.abortStop := L.stopJob (L.stopPass (L.stopContext (L.setProcessing h)))

theorem closeAtRelease (h : P s) : P s.closeAtRelease := by
  unfold State.closeAtRelease
  split
  · exact L.leaveStore (L.settleIntake h)
  · exact h

theorem toIdle (h : P s) : P s.toIdle :=
  L.idle (L.freed (w := .idle) h rfl) (by constructor <;> rfl) rfl

theorem release (h : P s) : P s.release := L.toIdle (L.closeAtRelease (L.closeGap h))

theorem fillCapture (h : P s) : P s.fillCapture := L.raise _ (L.idle h (by constructor <;> rfl) rfl)

theorem captureAct (h : P s) : P s.captureAct := by
  have waits : P { s with sc := { s.sc with captureFinishWaits := true } } := L.idle h (by constructor <;> rfl) rfl
  exact ite h (ite (L.captureTook h) (ite (L.captureTook waits) (ite (L.finishSweep (L.captureTook h)) h)))

theorem finishClosing (h : P s) : P s.finishClosing :=
  L.raise _ (L.freed (s := { State.commitBlocks _ _ with pw := [] }) (L.of_parts h rfl rfl rfl) rfl)

theorem replaceWith {k : SlotId} {m : Image} (h : P s) : P (s.replaceWith k m) :=
  L.dropWaitingFinish (L.endRollback (L.idle (L.restored m.flags (L.abandonBanks h)) (by constructor <;> rfl) rfl))

theorem setClosureState {c : ClosureState} (h : P s) : P (s.setClosureState c) := L.setClosure h

theorem setBlender {b : Blender} (h : P s) : P { s with bu := b } := L.of_parts h rfl rfl rfl

theorem joinAdvance {j : Join} (h : P s) : P (s.joinAdvance j) :=
  ite (L.setBlender h) (ite (L.setBlender h) (L.setClosureState (L.setBlender h)))

end BookLaw

/-! #### Every row -/

/-- Where the step answers a next state, the predicate holds there. -/
def After (P : State → Prop) : Host.Outcome State Fault Refusal → Prop
  | .next t => P t
  | .fault _ | .refused _ => True

theorem After.next {P : State → Prop} {o : Host.Outcome State Fault Refusal} {t : State} (h : After P o)
    (ho : o = .next t) : P t := by
  subst ho
  exact h

namespace BookLaw

variable {P : State → Prop} (L : BookLaw P) {s : State} {p : List Byte}

include L

theorem after_command {c : HostCommand} {lenOk : Nat → Bool} {f : State → State} (h : P s) (hf : P (f s)) :
    After P (s.command c p lenOk f) :=
  ite (P := P) (ite hf (L.refuse h)) h

/-- A row that leaves SC, PI and LI alone keeps the predicate. -/
theorem after_other {c : Instr} {t : State} (h : P s) (ho : exec c s = .next t) (hsc : .sc ∉ changedBy c)
    (hpi : .pi ∉ changedBy c) (hli : .li ∉ changedBy c) : P t :=
  L.of_parts h (exec_same ho hsc) (exec_same ho hli) (congrArg Intake.banks (exec_same (p := .pi) ho hpi))

theorem linkBurst (h : P s) : P s.linkBurst := by
  unfold State.linkBurst
  split
  · exact L.answer (L.of_parts (t := s.writeMem _) h rfl rfl rfl)
  · exact L.answer h
  all_goals exact h

theorem grantRing {r : Ring} (h : P s) : P (s.grantRing r) := by
  cases r with
  | bu => exact L.of_parts h (by simp) (by simp [State.grantRing]) (by simp)
  | link => exact L.linkBurst (L.of_parts h rfl rfl rfl)
  | eu | cx => exact L.of_parts h rfl rfl rfl

theorem after_secondSlot {t : State} (h : P s) (ho : s.secondSlot = .next t) : P t := by
  obtain ⟨-, -, rfl⟩ | ⟨r, -, -, rfl⟩ | rfl := secondSlot_cases ho
  · exact L.of_parts h rfl rfl rfl
  · exact L.grantRing h
  · exact h

theorem after_firstSlot {t : State} (h : P s) (ho : exec .firstSlot s = .next t) : P t := by
  obtain ⟨-, -, rfl⟩ | rfl | ho := firstSlot_cases ho
  · exact L.of_parts h rfl rfl rfl
  · exact L.of_parts h rfl rfl rfl
  · exact L.after_secondSlot h ho

theorem after_line {luma : List Byte} {chroma : List (Byte × Byte)} {t : State} (h : P s)
    (ho : exec (.line luma chroma) s = .next t) : P t := by
  have hline (u : State) (hu : P u) (hbanks : u.pi.banks = s.pi.banks) (b : BankId) (k : Intake) (v : Bank)
      (hk : k.banks = s.pi.banks) (hv : v.state = (s.bank b).state) : P (({ u with pi := k }).setBank b v) := by
    refine L.idle hu (by constructor <;> rfl) ?_
    refine (openBanks_setBank_same (s := { u with pi := k }) ?_).trans (openBanks_of_banks (hk.trans hbanks.symm))
    rw [hv]
    simp [State.bank, hk]
  have hstate (b : BankId) : ((s.bank b).addLine s.geo luma chroma).state = (s.bank b).state := by
    simp only [Bank.addLine, Bank.feedGuide, Bank.addGuideRow]
    (repeat' split) <;> rfl
  simp only [exec, execLine] at ho
  split at ho
  · obtain ⟨-, rfl⟩ | ⟨-, rfl⟩ := granted_cases ho
    · exact hline s h rfl _ _ _ (Intake.fill_keeps _ _).2.2.2 (hstate _)
    · exact hline (s.writeMem _) (L.of_parts h rfl rfl rfl) rfl _ _ _ (Intake.fill_keeps _ _).2.2.2 (hstate _)
  · cases ho
    exact h

theorem after_frameEnd {t : State} (h : P s) (ho : exec .frameEnd s = .next t) : P t := by
  simp only [exec, execFrameEnd] at ho
  split at ho
  · obtain ⟨-, rfl⟩ | ⟨-, rfl⟩ := granted_cases ho
    · exact L.leaveStore (L.closeFrame h)
    · exact L.leaveStore (L.closeFrame (L.of_parts (t := s.writeMem _) h rfl rfl rfl))
  · cases ho
    exact h

theorem after_transactionStart (h : P s) : After P (execTransactionStart s) :=
  ite (P := P) h (ite (L.idle h (by constructor <;> rfl) rfl) (L.idle h (by constructor <;> rfl) rfl))

theorem takeInbound {bytes : List Byte} (h : P s) : P (s.takeInbound bytes) := by
  unfold State.takeInbound
  split
  · refine ite (L.refuse h) (ite h ?_)
    split
    · exact L.setProcessing h
    · exact L.refuse h
  · exact h
  · exact h

theorem after_transactionEnd {bytes : List Byte} (h : P s) : After P (execTransactionEnd bytes s) := by
  have hend : P { s with li := { s.li with transaction := none } } := L.idle h (by constructor <;> rfl) rfl
  unfold execTransactionEnd
  split
  · exact ite (P := P) hend (L.takeInbound hend)
  · exact h

theorem after_dieSensingComplete {dies : BitVec 4} (h : P s) : After P (execDieSensingComplete dies s) := by
  unfold execDieSensingComplete
  split
  · exact ite (P := P) h (L.reply (L.of_parts h rfl rfl rfl))
  · exact h

theorem after_shutterEdge (h : P s) : After P (execShutterEdge s) := by
  unfold execShutterEdge
  split
  case h_1 | h_2 => exact h
  all_goals exact L.captureAct (L.fillCapture h)

theorem after_matchBankTake (h : P s) : After P (execMatchBankTake s) := by
  have taken {b : BankId} {rest : List BankId} (hqueued : (s.bank b).state = .queued) : P (s.takeQueued b rest) := by
    refine L.idle h (by constructor <;> rfl) ?_
    exact openBanks_setBank_same (b := b) (congrArg BankState.isOpen hqueued).symm
  unfold execMatchBankTake
  split
  · split
    · exact h
    · rename_i b rest _ _ hq
      obtain ⟨-, hqueued⟩ : s.stopping = false ∧ (s.bank b).state = .queued := by simpa using hq
      split
      case h_1 | h_2 => exact L.of_parts (taken (rest := rest) hqueued) (by simp) (by simp) (by simp)
      all_goals exact h
  · exact h

theorem after_lookup (h : P s) : After P (execLookup s) := by
  unfold execLookup
  split
  · split
    case h_1 | h_2 => exact L.meetStop (L.setPass h)
    all_goals exact h
  · exact h

theorem after_judge (h : P s) : After P (execJudge s) := by
  unfold execJudge
  split
  · exact ite (P := P) (L.check1 h) h
  · exact h

theorem after_push (h : P s) : After P (execPush s) := by
  unfold execPush
  split
  · split
    case h_1 => exact ite (P := P) h (L.pushMatching h)
    all_goals exact h
  · exact h

theorem after_admissionClaim (h : P s) : After P (execAdmissionClaim s) := by
  unfold execAdmissionClaim
  split
  · split
    · exact ite (P := P) (L.takeAdmission h) h
    · exact h
  · exact h

theorem after_staleCountClaim (h : P s) : After P (execStaleCountClaim s) := by
  unfold execStaleCountClaim
  split
  · split
    · dsimp only
      rw [State.ite_updateRecord, State.ite_sc]
      refine L.idle h ?_ rfl
      constructor <;> simp only [State.setPass] <;> split <;> rfl
    · exact h
  · exact h

theorem after_blendTake (h : P s) : After P (execBlendTake s) := by
  unfold execBlendTake
  split
  · split
    · rename_i r _
      split
      · rename_i b hfind
        have hplaced : (s.bank b).state = .placed ∧ (s.bank b).serial = some r.serial := by
          simpa using List.find?_some hfind
        refine L.idle h (by constructor <;> rfl) ?_
        exact openBanks_setBank_same (s := s.updateRecord r.serial _) (b := b)
          (congrArg BankState.isOpen hplaced.1).symm
      · exact h
    · exact h
  · exact h

theorem finishBlend {b : BlendPass} (h : P s) : P (s.finishBlend b) := by
  unfold State.finishBlend
  dsimp only
  split
  · rename_i hblending
    refine L.idle h (by constructor <;> rfl) ?_
    exact openBanks_setBank_same (s := s.updateRecord b.serial _) (b := b.bank) (congrArg BankState.isOpen hblending).symm
  · exact L.of_parts h rfl rfl rfl

theorem after_blendEndClaim (h : P s) : After P (execBlendEndClaim s) := by
  unfold execBlendEndClaim
  split
  · exact ite (P := P) (L.finishBlend h) h
  · exact h

theorem after_joinColumn (h : P s) : After P (execJoinColumn s) := by
  unfold execJoinColumn
  split
  · exact ite (P := P) h (ite (L.joinAdvance h) h)
  · exact h

theorem after_saveComplete (h : P s) : After P (execSaveComplete s) := by
  unfold execSaveComplete
  split
  case h_1 => exact ite (P := P) h (L.raise _ (L.of_parts h rfl rfl rfl))
  all_goals exact h

theorem after_verifyEnd (h : P s) : After P (execVerifyEnd s) := by
  unfold execVerifyEnd
  split
  case h_1 k _ =>
    refine ite (P := P) h ?_
    split
    · exact ite (ite (L.stopPass (L.setContext h)) (L.verifyFails h)) (L.verifyFails h)
    · exact L.verifyFails h
  all_goals exact h

theorem after_rollbackReplace (h : P s) : After P (execRollbackReplace s) := by
  unfold execRollbackReplace
  split
  case h_1 =>
    split
    · exact ite (P := P) (L.replaceWith h) h
    · exact h
  all_goals exact h

theorem after_exportLine (h : P s) : After P (execExportLine s) := by
  have sent : P s.sendLine := L.of_parts h rfl rfl rfl
  unfold execExportLine
  split
  · exact h
  · exact ite (P := P) (L.afterLine sent) h
  · exact ite (P := P) (L.endJob h) (ite (L.endJob sent) h)

theorem after_directiveStep {row : Directive → Bool} (h : P s) : After P (s.directiveStep row) := by
  unfold State.directiveStep
  split
  · exact ite (P := P) (L.applyDirective h) h
  · exact h

theorem after_directiveFault (h : P s) : After P (execDirectiveFault s) := by
  unfold execDirectiveFault
  split
  · exact ite (P := P) (L.directiveFault h) h
  all_goals exact h

theorem after_setMark (h : P s) : After P (execSetMark p s) := by
  refine L.after_command h ?_
  split
  · exact L.answer (L.loadMark h)
  · exact L.refuse h

theorem after_setCaptureAction (h : P s) : After P (execSetCaptureAction p s) := by
  refine L.after_command h ?_
  split
  · exact L.idle h (by constructor <;> rfl) rfl
  · exact L.refuse h

theorem after_setList (h : P s) : After P (execSetList p s) := by
  refine L.after_command h ?_
  split
  · exact ite (L.refuse h) (L.answer (L.setList h))
  · exact L.refuse h

theorem after_resumePlace (h : P s) : After P (execResumePlace p s) :=
  L.after_command h (L.resume h fun _ => ite (L.refuse h) (ite (L.refuse h)
    (L.resumeHeld (fun _ => L.placeHeld h) (L.leaveHeld h))))

theorem setTable {t : Table} (h : P s) : P { s with ltc := t } := L.of_parts h rfl rfl rfl

theorem runConfigure (h : P s) : P (s.runConfigure p) := by
  have accepted {g : Geometry} : P ((s.configure g).answer []) := L.answer (L.of_parts h rfl rfl rfl)
  exact ite (L.refuse h) (ite (L.refuse h) (ite (L.refuse h) (ite (L.refuse h) (ite (L.refuse h) (ite (L.refuse h)
    (ite (L.refuse h) (ite (L.refuse h) accepted)))))))

theorem runSetParameters (h : P s) : P (s.runSetParameters p) :=
  ite (L.refuse h) (ite (L.refuse h) (L.answer (L.of_parts h rfl rfl rfl)))

theorem named {f : Landmark → State} (h : P s) (hf : ∀ r, P (f r)) : P (s.named p f) := by
  refine ite (L.refuse h) (ite (L.refuse h) ?_)
  split
  · exact ite (hf _) (L.refuse h)
  · exact L.refuse h

theorem runReadPlacement {depth view : Nat} (h : P s) : P (s.runReadPlacement depth view) := by
  unfold State.runReadPlacement
  (repeat' split) <;> exact L.reply h

theorem runExport (h : P s) : P (s.runExport p) := by
  refine ite (L.refuse h) ?_
  split
  · exact ite (L.refuse h) (ite (L.refuse h) (ite (L.refuse h) (ite (L.refuse h) (ite (L.refuse h)
      (L.answer (L.of_parts h rfl rfl rfl))))))
  · exact L.refuse h

theorem after_readLandmark (h : P s) : After P (execReadLandmark p s) := by
  refine L.after_command h ?_
  split
  · exact L.answer h
  · exact L.refuse h

theorem after_resumeRollback (h : P s) : After P (execResumeRollback p s) := by
  refine L.after_command h (ite (L.refuse h) (ite (L.refuse h) ?_))
  split
  · exact L.reply (L.setContext h)
  · exact L.refuse h

theorem after_checkpoint (h : P s) : After P (execCheckpoint p s) := by
  refine L.after_command h (ite (L.refuse h) (ite (L.refuse h) ?_))
  split
  · exact L.refuse h
  · exact ite (L.refuse h) (L.reply (L.of_parts h (by simp) (by simp) (by simp)))

theorem after_rollback (h : P s) : After P (execRollback p s) := by
  refine L.after_command h (ite (L.refuse h) (ite (L.refuse h) ?_))
  split
  · exact L.refuse h
  · exact ite (L.refuse h) (ite (L.refuse h) (L.reply (L.setContext h)))

end BookLaw

/-- The rows that a bookkeeping law is not asked about: the resets, and the two commands LI's event registers belong to. -/
def setsEvents : Instr → Bool
  | .powerOn | .resetNAssert | .reset _ | .readEvents _ | .setEventEnables _ => true
  | _ => false

namespace BookLaw

variable {P : State → Prop} (L : BookLaw P) {s t : State}

include L

theorem exec_keeps (c : Instr) (hc : setsEvents c = false) (h : P s) (ho : exec c s = .next t) : P t := by
  refine After.next (P := P) ?_ ho
  cases c with
  | powerOn | resetNAssert | reset | readEvents | setEventEnables => simp [setsEvents] at hc
  | firstSlot => rw [ho]; exact L.after_firstSlot h ho
  | secondSlot => rw [ho]; exact L.after_secondSlot h ho
  | line => rw [ho]; exact L.after_line h ho
  | frameEnd => rw [ho]; exact L.after_frameEnd h ho
  | dieSensingComplete => exact L.after_dieSensingComplete h
  | shutterEdge => exact L.after_shutterEdge h
  | frameStart => exact L.frameStart (L.closeUnended h)
  | transactionStart => exact L.after_transactionStart h
  | transactionEnd => exact L.after_transactionEnd h
  | setMasks p => exact show After P (execSetMasks p s) from L.after_command h (L.answer (L.setMasks h))
  | clearConditions p => exact show After P (execClearConditions p s) from L.after_command h (L.answer (L.clearFlags h))
  | arm p => exact show After P (execArm p s) from L.after_command h (L.runArm h)
  | finish p => exact show After P (execFinish p s) from L.after_command h (L.runFinish h)
  | abort p => exact show After P (execAbort p s) from L.after_command h (ite (L.refuse h) (L.abortStop h))
  | abortClearStep => exact ite (P := P) (L.answer (L.raise _ (L.toIdle (L.abandonBanks h)))) h
  | resumeAccept p =>
    exact show After P (execResumeAccept p s) from
      L.after_command h (L.resume h fun _ => L.resumeHeld (fun _ => L.acceptDefault h) (L.acceptNothing h))
  | resumeSkip p =>
    exact show After P (execResumeSkip p s) from
      L.after_command h (L.resume h fun _ => L.resumeHeld (fun _ => L.skipHeld h) (L.leaveHeld h))
  | resumePlace => exact L.after_resumePlace h
  | release p =>
    exact show After P (execRelease p s) from L.after_command h (ite (L.refuse h) (L.answer (L.release h)))
  | setMark => exact L.after_setMark h
  | readCapture p =>
    exact show After P (execReadCapture p s) from L.after_command h (L.idle h (by constructor <;> rfl) rfl)
  | setCaptureAction => exact L.after_setCaptureAction h
  | setList => exact L.after_setList h
  | exportStop p =>
    exact show After P (execExportStop p s) from L.after_command h (ite (L.refuse h) (L.answer (L.stopJob h)))
  | exportLine => exact L.after_exportLine h
  | matchBankTake => exact L.after_matchBankTake h
  | lookup => exact L.after_lookup h
  | judge => exact L.after_judge h
  | push => exact L.after_push h
  | admissionClaim => exact L.after_admissionClaim h
  | staleCountClaim => exact L.after_staleCountClaim h
  | blendTake => exact L.after_blendTake h
  | blendEndClaim => exact L.after_blendEndClaim h
  | closureJoin => exact ite (P := P) (ite (L.setClosureState h) (L.setBlender h)) h
  | joinColumn => exact L.after_joinColumn h
  | commitAllOpenBlocks => exact ite (P := P) (L.finishClosing h) h
  | saveComplete => exact L.after_saveComplete h
  | verifyEnd => exact L.after_verifyEnd h
  | rollbackReplace => exact L.after_rollbackReplace h
  | dirStop | dirSkip | dirNext | dirNextAndStop | dirSignal | dirHint | dirMasks | dirMark | dirRetireRegion
  | dirBlend => exact L.after_directiveStep h
  | directiveFault => exact L.after_directiveFault h
  | nop p => exact show After P (execNop p s) from L.after_command h (L.answer h)
  | readIdentity p => exact show After P (execReadIdentity p s) from L.after_command h (L.answer h)
  | readStatus p => exact show After P (execReadStatus p s) from L.after_command h (L.answer h)
  | configure p => exact show After P (execConfigure p s) from L.after_command h (L.runConfigure h)
  | setParameters p => exact show After P (execSetParameters p s) from L.after_command h (L.runSetParameters h)
  | resumeRollback => exact L.after_resumeRollback h
  | hint p =>
    exact show After P (execHint p s) from
      L.after_command h (ite (L.refuse h) (ite (L.refuse h) (L.answer (L.setMatcher h))))
  | readLandmark => exact L.after_readLandmark h
  | findLandmarks p =>
    exact show After P (execFindLandmarks p s) from L.after_command h (ite (L.refuse h) (L.answer h))
  | examineLandmark p => exact show After P (execExamineLandmark p s) from L.after_command h (L.answer h)
  | pinLandmark p =>
    exact show After P (execPinLandmark p s) from L.after_command h (L.named h fun _ =>
      ite (L.answer h) (ite (L.refuse h) (L.answer (L.setTable h))))
  | unpinLandmark p =>
    exact show After P (execUnpinLandmark p s) from L.after_command h (L.named h fun _ =>
      ite (L.answer (L.setTable h)) (L.answer h))
  | retireLandmark p =>
    exact show After P (execRetireLandmark p s) from L.after_command h (L.named h fun _ =>
      ite (L.refuse h) (L.answer (L.setTable h)))
  | retireRegion p =>
    exact show After P (execRetireRegion p s) from
      L.after_command h (ite (L.refuse h) (ite (L.refuse h) (L.answer (L.setTable h))))
  | readPlacement p => exact show After P (execReadPlacement p s) from L.after_command h (L.runReadPlacement h)
  | readCoverage p =>
    exact show After P (execReadCoverage p s) from L.after_command h (ite (L.refuse h) (L.answer h))
  | readClosure p => exact show After P (execReadClosure p s) from L.after_command h (L.answer h)
  | writeDirectives p =>
    exact show After P (execWriteDirectives p s) from
      L.after_command h (ite (L.refuse h) (ite (L.refuse h) (ite (L.refuse h) (L.setProcessing h))))
  | readDirectives p =>
    exact show After P (execReadDirectives p s) from
      L.after_command h (ite (L.refuse h) (ite (L.refuse h) (ite (L.refuse h) (ite (L.refuse h) (L.setProcessing h)))))
  | checkpoint => exact L.after_checkpoint h
  | rollback => exact L.after_rollback h
  | readSlots p => exact show After P (execReadSlots p s) from L.after_command h (L.answer h)
  | exportStart p => exact show After P (execExportStart p s) from L.after_command h (L.runExport h)
  | _ =>
    rw [ho]
    exact L.after_other h ho (by simp [changedBy]) (by simp [changedBy]) (by simp [changedBy])

end BookLaw
/-! #### The three laws -/

/-- An outcome is counted once, whichever it is (R26). -/
theorem recordOutcome_counts (s : State) (lf : LastFrame) :
    (s.recordOutcome lf).sc.placed + (s.recordOutcome lf).sc.dropped + (s.recordOutcome lf).sc.setAside =
      s.sc.placed + s.sc.dropped + s.sc.setAside + 1#32 := by
  unfold State.recordOutcome
  split
  · simp only [State.raise_sc]
    bv_omega
  · split
    · simp only
      bv_omega
    · simp only
      bv_omega

theorem recordOutcome_openBanks (s : State) (lf : LastFrame) : (s.recordOutcome lf).openBanks = s.openBanks :=
  openBanks_of_banks (by simp)

theorem armed_openBanks (s : State) (k : Intake) (h : s.pi = k.armed) : s.openBanks = 0 := by
  rw [openBanks_eq]
  simp [State.bank, h, Intake.armed, Banks.get, Bank.freed, BankState.isOpen]

/-- R27: what the counters count and the banks that wait for an outcome move together. -/
theorem countLaw_bookLaw : BookLaw CountLaw where
  idle {s t} h k hopen := by
    unfold CountLaw at *
    rw [k.started, k.placed, k.dropped, k.setAside, hopen, h]
  raise _ h := h
  settled {s t} lf h k hopen := by
    unfold CountLaw at *
    rw [recordOutcome_openBanks, recordOutcome_counts, (State.recordOutcome_parts t lf).2.2.2.2.2.2.2.2.2.2.2.2.2.1,
      k.started, k.placed, k.dropped, k.setAside, h, ← hopen]
    bv_omega
  dropped {s} lf h := by
    unfold CountLaw at *
    have hopen : s.countFrame.openBanks = s.openBanks := rfl
    rw [recordOutcome_openBanks, recordOutcome_counts, (State.recordOutcome_parts _ lf).2.2.2.2.2.2.2.2.2.2.2.2.2.1, hopen]
    show s.sc.started + 1#32 = s.sc.placed + s.sc.dropped + s.sc.setAside + 1#32 + _
    rw [h]
    bv_omega
  taken {s t} h k hopen := by
    unfold CountLaw at *
    rw [k.started, k.placed, k.dropped, k.setAside, hopen]
    show s.sc.started + 1#32 = s.sc.placed + s.sc.dropped + s.sc.setAside + _
    rw [h]
    bv_omega
  flag _ h := h
  held h _ := h
  freed h _ := h
  clearFlags {s} h := by
    unfold State.clearFlags
    split <;> exact h
  armed {s} _ := by
    unfold CountLaw
    rw [armed_openBanks _ s.pi rfl]
    rfl
  restored _ h := h

/-- R121: a flag is only cleared where it is not the held cause's, and only a set flag's cause is held. -/
theorem heldLaw_bookLaw : BookLaw HeldLaw where
  idle {s t} h k _ c hc := by
    rw [k.flags]
    exact h c (k.sweep ▸ hc)
  raise _ h := h
  settled {s t} lf h k _ c hc := by
    rw [(State.recordOutcome_parts t lf).1, k.sweep] at hc
    rw [(State.recordOutcome_parts t lf).2.1, k.flags]
    exact h c hc
  dropped {s} lf h c hc := by
    rw [(State.recordOutcome_parts _ lf).1] at hc
    rw [(State.recordOutcome_parts _ lf).2.1]
    exact h c hc
  taken h k _ c hc := by
    rw [k.flags]
    exact h c (k.sweep ▸ hc)
  flag c h d hd := by
    have := h d hd
    simp [State.setFlag, this]
  held {s c} h hflag d hd := by
    cases hd
    exact hflag
  freed {s w} _ hw c hc := by
    cases hc
    simp [SweepState.isHeld] at hw
  clearFlags {s} h c hc := by
    unfold State.clearFlags at hc ⊢
    cases hsweep : s.sc.sweep with
    | held d =>
      simp only [hsweep] at hc ⊢
      cases hc
      have hmask : c.mask.getLsbD c.bit = true := by cases c <;> decide
      simp [h c hsweep, hmask]
    | idle | armed | sweeping | closing | finished => simp [hsweep] at hc
  armed _ c hc := by cases hc
  restored _ _ c hc := by cases hc

/-- R187: since the state `s₀` no flag has been cleared and no enable changed. -/
def EventsKept (s₀ s : State) : Prop :=
  (∀ e : Event, s₀.li.events.getLsbD e.bit = true → s.li.events.getLsbD e.bit = true) ∧ s.li.enables = s₀.li.enables

theorem eventsKept_of_li {s₀ s t : State} (h : EventsKept s₀ s) (hevents : t.li.events = s.li.events)
    (henables : t.li.enables = s.li.enables) : EventsKept s₀ t := by
  unfold EventsKept at *
  rw [hevents, henables]
  exact h

theorem eventsKept_raise {s₀ s : State} (e : Event) (h : EventsKept s₀ s) : EventsKept s₀ (s.raise e) := by
  obtain ⟨hset, henables⟩ := h
  refine ⟨fun d hd => ?_, henables⟩
  simp [State.raise, State.driveEvents, hset d hd]

theorem eventsKept_recordOutcome {s₀ s : State} (lf : LastFrame) (h : EventsKept s₀ s) :
    EventsKept s₀ (s.recordOutcome lf) :=
  BookLaw.ite (eventsKept_raise _ (eventsKept_of_li h rfl rfl)) (BookLaw.ite h h)

theorem eventsKept_bookLaw (s₀ : State) : BookLaw (EventsKept s₀) where
  idle h k _ := eventsKept_of_li h k.events k.enables
  raise := eventsKept_raise
  settled lf h k _ := eventsKept_recordOutcome lf (eventsKept_of_li h k.events k.enables)
  dropped lf h := eventsKept_recordOutcome lf (eventsKept_of_li h rfl rfl)
  taken h k _ := eventsKept_of_li h k.events k.enables
  flag _ h := h
  held h _ := h
  freed h _ := h
  clearFlags {s} h := eventsKept_of_li h (by unfold State.clearFlags; split <;> rfl)
    (by unfold State.clearFlags; split <;> rfl)
  armed h := h
  restored _ h := h

/-- The rows left out of `BookLaw.exec_keeps` leave SC's counters balanced and its held cause flagged: the resets put SC and
the banks at their reset values, and the two commands of the event registers touch neither. -/
theorem setsEvents_keeps {P : State → Prop} (hreply : ∀ {s t : State}, P s → t.sc = s.sc → t.pi = s.pi → P t)
    (hreset : ∀ {t : State}, t.sc = Control.empty → t.pi = Intake.empty → P t) {c : Instr} {s t : State}
    (hc : setsEvents c = true) (h : P s) (ho : exec c s = .next t) : P t := by
  cases c with
  | powerOn | resetNAssert =>
    cases ho
    exact hreset rfl rfl
  | reset p =>
    obtain rfl | rfl | ⟨-, -, rfl⟩ := command_cases (show execReset p s = .next t from ho)
    · exact h
    · exact hreply h rfl rfl
    · exact hreset rfl rfl
  | readEvents | setEventEnables =>
    exact hreply h (exec_same ho (p := .sc) (by simp [changedBy])) (exec_same ho (p := .pi) (by simp [changedBy]))
  | _ => simp [setsEvents] at hc

theorem countLaw_exec (c : Instr) (s t : State) (h : CountLaw s) (ho : exec c s = .next t) : CountLaw t := by
  by_cases hc : setsEvents c = true
  · refine setsEvents_keeps (fun hs hsc hpi => ?_) (fun hsc hpi => ?_) hc h ho
    · unfold CountLaw at *
      rw [hsc, openBanks_of_banks (congrArg Intake.banks hpi), hs]
    · unfold CountLaw
      rw [hsc, openBanks_of_banks (s := State.reset) (congrArg Intake.banks hpi)]
      rfl
  · exact countLaw_bookLaw.exec_keeps c (by simpa using hc) h ho

theorem heldLaw_exec (c : Instr) (s t : State) (h : HeldLaw s) (ho : exec c s = .next t) : HeldLaw t := by
  by_cases hc : setsEvents c = true
  · refine setsEvents_keeps (fun hs hsc _ c hcause => ?_) (fun hsc _ c hcause => ?_) hc h ho
    · rw [hsc] at hcause ⊢
      exact hs c hcause
    · rw [hsc] at hcause
      cases hcause
  · exact heldLaw_bookLaw.exec_keeps c (by simpa using hc) h ho

/-- Settles O3. Both laws are kept by every act `BookLaw` lists: a bank that stops waiting has its outcome counted, and a
cause is held only once its flag is set. -/
theorem countsBalanceAndHeldCauseKeepsItsFlag : Obligations.CountsBalanceAndHeldCauseKeepsItsFlag :=
  ⟨step_keeps (fun _ _ h => h) countLaw_exec, rfl, step_keeps (fun _ _ h => h) heldLaw_exec⟩

/-- Settles O9. Of the rows `BookLaw.exec_keeps` leaves out, SET EVENT ENABLES alone is asked about here, and it leaves the
flags as they are. -/
theorem eventFlagsStaySet : Obligations.EventFlagsStaySet := by
  intro c s t hc ho
  by_cases hset : ∃ p, c = .setEventEnables p
  · obtain ⟨p, rfl⟩ := hset
    refine ⟨fun e he => ?_, fun hne => absurd rfl (hne p)⟩
    obtain rfl | rfl | ⟨-, -, rfl⟩ := command_cases (show execSetEventEnables p s = .next t from ho)
    · exact he
    · exact he
    · split <;> exact he
  · have hother : setsEvents c = false := by
      cases c <;> simp_all [setsEvents, Instr.clearsEvents]
    obtain ⟨hevents, henables⟩ :=
      (eventsKept_bookLaw s).exec_keeps c hother ⟨fun _ he => he, rfl⟩ ho
    exact ⟨hevents, fun _ => henables⟩

end Sys2Proof.Machine

/-! ### The commit line only moves ahead (R105) -/

namespace Sys2Proof.Machine

@[simp] theorem commitBlocks_commitLine (s : State) (sel : Nat → Serial → Bool) :
    (s.commitBlocks sel).bu.commitLine = s.bu.commitLine := rfl

@[simp] theorem forceVictim_commitLine (s : State) (v : Serial) :
    (s.forceVictim v).bu.commitLine = s.bu.commitLine := by
  unfold State.forceVictim
  split <;> rfl

@[simp] theorem takePush_commitLine (s : State) (p : Pass) (b : BankId) (a : Bool) :
    (s.takePush p b a).bu.commitLine = s.bu.commitLine := by
  unfold State.takePush
  (repeat' split) <;> simp

@[simp] theorem pushMatching_commitLine (s : State) (p : Pass) (a : Bool) :
    (s.pushMatching p a).bu.commitLine = s.bu.commitLine := by
  unfold State.pushMatching
  (repeat' split) <;> simp

@[simp] theorem acceptDefault_commitLine (s : State) (p : Pass) (c : Condition) :
    (s.acceptDefault p c).bu.commitLine = s.bu.commitLine := by
  cases c with
  | windowOverflow =>
    simp only [State.acceptDefault, State.acceptPush]
    split <;> simp
  | _ => simp [State.acceptDefault]

theorem acceptNothing_bu (s : State) (c : Condition) : (s.acceptNothing c).bu = s.bu := by
  unfold State.acceptNothing
  split <;> simp

@[simp] theorem blendBurst_commitLine (s : State) : s.blendBurst.bu.commitLine = s.bu.commitLine := by
  unfold State.blendBurst
  split
  · rfl
  · split
    case h_1 =>
      unfold State.burstMeasure
      split <;> rfl
    all_goals rfl
  · rfl

theorem secondSlot_commitLine {s t : State} (h : s.secondSlot = .next t) : t.bu.commitLine = s.bu.commitLine := by
  obtain ⟨-, -, rfl⟩ | ⟨r, -, -, rfl⟩ | rfl := secondSlot_cases h
  · rfl
  · cases r with
    | bu => exact blendBurst_commitLine _
    | link => exact congrArg Blender.commitLine (State.linkBurst_keeps _).2.2.2.2.2.2.2.1
    | eu | cx => rfl
  · rfl

/-- A resume that is answered acts on the held frame's pass, or on nothing where there is none. -/
theorem resume_cases {s : State} {f : Pass → Condition → State} {empty : Condition → State}
    {P : State → Prop} (hrefuse : ∀ r, P (s.refuse r)) (hpass : ∀ p c, P ((f p c).answer []))
    (hempty : ∀ c, P ((empty c).answer [])) : P (s.resume fun c => s.resumeHeld (fun p => f p c) (empty c)) := by
  unfold State.resume State.resumeHeld
  split
  · split
    · exact hrefuse _
    · split
      · exact hpass _ _
      · exact hempty _
  all_goals exact hrefuse _

theorem resumeAccept_commitLine {s t : State} {p : List Byte} (h : exec (.resumeAccept p) s = .next t) :
    t.bu.commitLine = s.bu.commitLine := by
  obtain rfl | rfl | ⟨-, -, rfl⟩ := command_cases (show execResumeAccept p s = .next t from h)
  · rfl
  · rfl
  · exact resume_cases (P := fun t => t.bu.commitLine = s.bu.commitLine) (fun _ => rfl) (fun _ _ => by simp)
      (fun _ => by simp [acceptNothing_bu])

theorem configure_commitLine {s t : State} {p : List Byte} (h : exec (.configure p) s = .next t) :
    t.bu.commitLine = s.bu.commitLine := by
  obtain rfl | rfl | ⟨-, -, rfl⟩ := command_cases (show execConfigure p s = .next t from h)
  · rfl
  · rfl
  · unfold State.runConfigure
    dsimp only
    (repeat' split) <;> rfl

/-- The rows of BU that change its pass, its join or the coverage map, and leave the commit line. -/
theorem commitLine_kept {c : Instr} {s t : State} (hc : c.restartsLine = false) (hend : c ≠ .blendEnd)
    (h : exec c s = .next t) : t.bu.commitLine = s.bu.commitLine := by
  cases c with
  | powerOn | resetNAssert | reset | arm | release | abortClearStep | rollbackReplace => simp [Instr.restartsLine] at hc
  | blendEnd => exact absurd rfl hend
  | configure => exact configure_commitLine h
  | resumeAccept => exact resumeAccept_commitLine h
  | secondSlot => exact secondSlot_commitLine h
  | firstSlot =>
    obtain ⟨-, -, rfl⟩ | rfl | h := firstSlot_cases h
    · rfl
    · rfl
    · exact secondSlot_commitLine h
  | push =>
    simp only [exec, execPush, Host.Outcome.next.injEq] at h
    subst h
    (repeat' split) <;> simp
  | blendTake | seamFix | blockWrite | retireBehind | retirementClaim | blendEndClaim | closureJoin | joinColumn
  | commitAllOpenBlocks =>
    simp only [exec, execBlendTake, execSeamFix, execBlockWrite, execRetireBehind, execRetirementClaim,
      execBlendEndClaim, execClosureJoin, execJoinColumn, execCommitAllOpenBlocks, State.finishBlend,
      State.joinAdvance, Host.Outcome.next.injEq] at h
    subst h
    (repeat' split) <;> rfl
  | _ => exact congrArg Blender.commitLine (exec_same (p := .bu) h (by simp [changedBy]))

/-- Settles O7. BLEND_END alone moves the line, to the greater of the line and the seam's end (R116). -/
theorem commitLineOnlyMovesAhead : Obligations.CommitLineOnlyMovesAhead := by
  intro c s t hc h
  by_cases hend : c = .blendEnd
  · subst hend
    simp only [exec, execBlendEnd, Host.Outcome.next.injEq] at h
    subst h
    split
    · split
      · exact le_max_left _ _
      · rfl
    · rfl
  · rw [commitLine_kept hc hend h]

/-! ### The Directive Reader's registers stay in range (chapter 9, R165) -/

/-- The pointers a directive carries lie in the directive area. -/
theorem field_le {w : Word32} {lo width : Nat} : field w lo width ≤ 2 ^ width - 1 :=
  Nat.le_sub_one_of_lt (Nat.mod_lt _ (Nat.two_pow_pos width))

theorem decodeDirective_next_le {n : Nat} {w : Word32} {p : Nat}
    (h : decodeDirective n w = some (.next p) ∨ decodeDirective n w = some (.nextAndStop p)) : p ≤ 1023 := by
  have hfield : field w 0 10 ≤ 1023 := field_le
  unfold decodeDirective at h
  split at h <;> simp_all

namespace ReaderLaw

variable {s t : State}

/-- The law is about DR alone. -/
theorem of_dr (h : ReaderLaw s) (hdr : t.dr = s.dr) : ReaderLaw t := by
  unfold ReaderLaw
  rw [hdr]
  exact h

theorem ite {c : Prop} [Decidable c] {t u : State} (ht : ReaderLaw t) (hu : ReaderLaw u) :
    ReaderLaw (if c then t else u) := by
  split
  · exact ht
  · exact hu

theorem dropGap (h : ReaderLaw s) : ReaderLaw s.dropGap := by
  obtain ⟨hstart, hread, hbudget, hfault, -⟩ := h
  exact ⟨hstart, hread, hbudget, hfault, fun hgap => absurd hgap Bool.false_ne_true⟩

theorem setStart {p : Nat} (hp : p ≤ 1023) (h : ReaderLaw s) : ReaderLaw (s.setStart p) := by
  obtain ⟨-, hread, hbudget, hfault, hgap⟩ := h
  exact ⟨hp, hread, hbudget, hfault, hgap⟩

/-- After a directive of a gap in progress the budget is at most 16, and the gap goes on only below that. -/
theorem flow {next : Option Nat} (hgap : s.dr.gap.isSome = true) (hnext : ∀ n, next = some n → n ≤ 1023)
    (h : ReaderLaw s) : ReaderLaw (s.flow next) := by
  obtain ⟨hstart, hread, -, hfault, hbudget⟩ := h
  have hless := hbudget hgap
  refine ⟨hstart, ?_, hless, hfault, fun hg => ?_⟩
  · cases next with
    | none => exact hread
    | some n => exact hnext n rfl
  · simp only [State.flow] at hg ⊢
    split at hg
    · simp at hg
    · simp_all
      omega

theorem offsetAfter_le (s : State) (n : Nat) (h : s.offsetAfter = some n) : n ≤ 1023 := by
  unfold State.offsetAfter at h
  split at h
  · cases h
    omega
  · cases h

theorem directiveFault (h : ReaderLaw s) : ReaderLaw s.directiveFault := by
  obtain ⟨hstart, hread, hbudget, -, -⟩ := h
  refine ⟨hstart, hread, hbudget, fun n hn => ?_, fun hgap => absurd hgap Bool.false_ne_true⟩
  cases hn
  exact hread

theorem applyDirective {v : Serial} {d : Directive} (hgap : s.dr.gap.isSome = true)
    (hd : ∀ p, d = .next p ∨ d = .nextAndStop p → p ≤ 1023) (h : ReaderLaw s) : ReaderLaw (s.applyDirective v d) := by
  have onward {u : State} (hu : u.dr = s.dr) : ReaderLaw (u.flow s.offsetAfter) :=
    flow (by rw [hu]; exact hgap) (offsetAfter_le s) (h.of_dr hu)
  cases d with
  | stop => exact flow hgap (fun _ hn => by cases hn) h
  | skip => exact onward rfl
  | next p =>
    have hp := hd p (.inl rfl)
    exact flow (s := s.setStart p) hgap (fun n hn => by cases hn; exact hp) (h.setStart hp)
  | nextAndStop p => exact flow (s := s.setStart p) hgap (fun _ hn => by cases hn) (h.setStart (hd p (.inr rfl)))
  | signal => exact onward rfl
  | hint dx dy => exact onward (by simp)
  | masks m => exact onward rfl
  | mark u a n => exact onward (by simp)
  | retireRegion first count => exact onward rfl
  | blend f => exact onward rfl

theorem applyWord {v : Serial} {w : ReadWord} (hgap : s.dr.gap.isSome = true) (h : ReaderLaw s) :
    ReaderLaw (s.applyWord v w) := by
  unfold State.applyWord
  split
  · rename_i d hdecode
    exact h.applyDirective hgap fun p hp => decodeDirective_next_le (hp.imp (· ▸ hdecode) (· ▸ hdecode))
  · exact h.directiveFault

theorem closeGap (h : ReaderLaw s) : ReaderLaw s.closeGap := by
  unfold State.closeGap
  split
  · rename_i hgap
    exact (h.applyWord (by simp [hgap])).dropGap
  · exact h.dropGap
  · exact h

theorem openGap {v : Serial} (h : ReaderLaw s) : ReaderLaw (s.openGap v) := by
  unfold State.openGap
  split
  · dsimp only
    split
    · obtain ⟨hstart, -, -, hfault, -⟩ := h.closeGap
      exact ⟨hstart, hstart, Nat.zero_le _, hfault, fun _ => by simp⟩
    · exact h.closeGap
  · exact h

theorem readWord (h : ReaderLaw s) : ReaderLaw s.readWord := by
  obtain ⟨hstart, hread, hbudget, hfault, hgap⟩ := h
  exact ⟨hstart, hread, hbudget, hfault, fun hg => hgap (by simpa [State.readWord] using hg)⟩

theorem frameStart (h : ReaderLaw s) : ReaderLaw s.frameStart := by
  have counted : ReaderLaw s.countFrame := h
  unfold State.frameStart
  split
  case h_3 | h_4 => exact openGap (counted.of_dr (by simp))
  case h_5 => exact openGap (counted.of_dr (by simp))
  case h_6 => exact counted.of_dr (by simp)
  all_goals exact h

theorem setList {n : Nat} {e : Bool} (hn : n ≤ 1023) (h : ReaderLaw s) : ReaderLaw (s.setList n e) := by
  have loaded {u : State} (hu : ReaderLaw u) : ReaderLaw { u with dr := { u.dr with startPtr := n, enabled := e } } := by
    obtain ⟨-, hread, hbudget, hfault, hgap⟩ := hu
    exact ⟨hn, hread, hbudget, hfault, hgap⟩
  cases e
  · exact loaded h.closeGap
  · exact loaded h

theorem secondSlot (h : ReaderLaw s) (ho : s.secondSlot = .next t) : ReaderLaw t := by
  obtain ⟨-, -, rfl⟩ | ⟨r, -, -, rfl⟩ | rfl := secondSlot_cases ho
  · exact h.readWord
  · exact h.of_dr (by simp)
  · exact h

theorem after_directiveStep {row : Directive → Bool} (h : ReaderLaw s) : After ReaderLaw (s.directiveStep row) := by
  unfold State.directiveStep State.readDirective
  cases hgap : s.dr.gap with
  | none => exact h
  | some g =>
    obtain ⟨frame, _ | w⟩ := g
    · exact h
    · cases hdecode : decodeDirective w.nBins w.word with
      | none =>
        simp only [hdecode, Option.map_none]
        exact h
      | some d =>
        simp only [hdecode, Option.map_some]
        exact ite (h.applyDirective (by simp [hgap]) fun p hp =>
          decodeDirective_next_le (hp.imp (· ▸ hdecode) (· ▸ hdecode))) h

theorem exec (c : Instr) (s t : State) (h : ReaderLaw s) (ho : exec c s = .next t) : ReaderLaw t := by
  have atReset : ReaderLaw State.reset := by
    refine ⟨?_, ?_, ?_, ?_, ?_⟩ <;> simp [State.reset, Reader.empty]
  cases c with
  | powerOn | resetNAssert =>
    cases ho
    exact atReset
  | reset p =>
    obtain rfl | rfl | ⟨-, -, rfl⟩ := command_cases (show execReset p s = .next t from ho)
    · exact h
    · exact h
    · exact atReset
  | firstSlot =>
    obtain ⟨-, -, rfl⟩ | rfl | ho := firstSlot_cases ho
    · exact h
    · exact h
    · exact h.secondSlot ho
  | secondSlot => exact h.secondSlot ho
  | frameStart =>
    cases ho
    exact frameStart (h.of_dr (by simp))
  | arm p =>
    obtain rfl | rfl | ⟨-, -, rfl⟩ := command_cases (show execArm p s = .next t from ho)
    · exact h
    · exact h
    · refine ite h (ite h ?_)
      split
      · exact h
      · exact ite h (ite h (ite h (h.closeGap.of_dr rfl)))
  | release p =>
    obtain rfl | rfl | ⟨-, -, rfl⟩ := command_cases (show execRelease p s = .next t from ho)
    · exact h
    · exact h
    · exact ite h (h.closeGap.of_dr (by simp [State.release]))
  | setList p =>
    obtain rfl | rfl | ⟨-, -, rfl⟩ := command_cases (show execSetList p s = .next t from ho)
    · exact h
    · exact h
    · split
      · split
        · exact h
        · exact h.setList (Nat.le_of_not_lt ‹_›)
      · exact h
  | dirStop | dirSkip | dirNext | dirNextAndStop | dirSignal | dirHint | dirMasks | dirMark | dirRetireRegion
  | dirBlend => exact h.after_directiveStep.next ho
  | directiveFault =>
    simp only [Machine.exec, execDirectiveFault, Host.Outcome.next.injEq] at ho
    subst ho
    split
    · exact ite h.directiveFault h
    · exact h
    · exact h
  | _ => exact h.of_dr (exec_same (p := .dr) ho (by simp [changedBy]))

end ReaderLaw

/-! ### The line buffer stays in range (R15, R24) -/

/-- What `BufferLaw` speaks of: the port and the two segments of the line buffer. -/
def State.buffer (s : State) : Option BankId × List Host.Cell × List Host.Cell :=
  (s.pi.port, s.pi.waiting, s.pi.filling)

/-- Port and line buffer as reset, ARM, RELEASE and a frame's end leave them. -/
def emptyBuffer : Option BankId × List Host.Cell × List Host.Cell := (none, [], [])

theorem buffer_of_pi {s t : State} (h : t.pi = s.pi) : t.buffer = s.buffer := by
  unfold State.buffer
  rw [h]

@[simp] theorem buffer_setPass (s : State) (p : Option Pass) : (s.setPass p).buffer = s.buffer := rfl
@[simp] theorem buffer_setMode (s : State) (m : TrackMode) (n : Nat) : (s.setMode m n).buffer = s.buffer := rfl
@[simp] theorem buffer_leaveHeld (s : State) : s.leaveHeld.buffer = s.buffer := rfl
@[simp] theorem buffer_solvedAt (s : State) (p : Pass) (x y : Int) : (s.solvedAt p x y).buffer = s.buffer := rfl
@[simp] theorem buffer_answer (s : State) (d : List Byte) : (s.answer d).buffer = s.buffer := rfl
@[simp] theorem buffer_raise (s : State) (e : Event) : (s.raise e).buffer = s.buffer := rfl
@[simp] theorem buffer_leaveStore (s : State) : s.leaveStore.buffer = emptyBuffer := rfl

@[simp] theorem buffer_settlePass (s : State) (p : Pass) (lf : LastFrame) : (s.settlePass p lf).buffer = s.buffer := by
  simp [State.buffer]

@[simp] theorem buffer_endPassWith (s : State) (p : Pass) (o : FrameOutcome) :
    (s.endPassWith p o).buffer = s.buffer := by simp [State.buffer]

@[simp] theorem buffer_enterClosing (s : State) : s.enterClosing.buffer = s.buffer := by simp [State.buffer]

@[simp] theorem buffer_report (s : State) (c : Condition) : (s.report c).1.buffer = s.buffer := by simp [State.buffer]

@[simp] theorem buffer_finishSweep (s : State) : s.finishSweep.buffer = s.buffer := by simp [State.buffer]

@[simp] theorem buffer_canvasEnd (s : State) (p : Pass) : (s.canvasEnd p).buffer = s.buffer := by simp [State.buffer]

@[simp] theorem buffer_closeGap (s : State) : s.closeGap.buffer = s.buffer := buffer_of_pi (by simp)

theorem buffer_judgeReport (s : State) (p : Pass) (c : Condition) {f : State → State}
    (hf : ∀ t : State, (f t).buffer = t.buffer) : (s.judgeReport p c f).buffer = s.buffer :=
  judgeReport_keeps State.buffer s p c f buffer_report buffer_setPass hf

theorem buffer_ite {c : Prop} [Decidable c] {t u : State} {v : Option BankId × List Host.Cell × List Host.Cell}
    (ht : t.buffer = v) (hu : u.buffer = v) : (if c then t else u).buffer = v := by
  split
  · exact ht
  · exact hu

@[simp] theorem buffer_check5 (s : State) (p : Pass) : (s.check5 p).buffer = s.buffer :=
  buffer_ite rfl (buffer_judgeReport _ _ _ fun t => buffer_canvasEnd t _)

@[simp] theorem buffer_check4 (s : State) (p : Pass) : (s.check4 p).buffer = s.buffer :=
  buffer_ite (buffer_judgeReport _ _ _ fun t => buffer_check5 t _) (buffer_check5 s _)

@[simp] theorem buffer_check3 (s : State) (p : Pass) : (s.check3 p).buffer = s.buffer :=
  buffer_ite (buffer_judgeReport _ _ _ fun t => buffer_check4 t _) (buffer_check4 s _)

@[simp] theorem buffer_dwell (s : State) (p : Pass) : (s.dwell p).buffer = s.buffer :=
  buffer_ite (by simp) (by simp)

@[simp] theorem buffer_check2 (s : State) (p : Pass) : (s.check2 p).buffer = s.buffer :=
  buffer_ite (buffer_judgeReport _ _ _ fun t => buffer_endPassWith t _ _)
    (buffer_ite (buffer_dwell s _) (buffer_check3 s _))

@[simp] theorem buffer_unplaced (s : State) (p : Pass) : (s.unplaced p).buffer = s.buffer := by
  simp [State.unplaced]

@[simp] theorem buffer_lostDefault (s : State) (p : Pass) : (s.lostDefault p).buffer = s.buffer := by
  simp [State.lostDefault]

@[simp] theorem buffer_lowMatchDefault (s : State) (p : Pass) : (s.lowMatchDefault p).buffer = s.buffer :=
  buffer_ite (by simp) (buffer_judgeReport _ _ _ fun t => buffer_lostDefault t _)

theorem buffer_check1 (s : State) (p : Pass) : (s.check1 p).buffer = s.buffer := by
  have hlow : (s.judgeReport p .lowMatch fun s => s.lowMatchDefault p).buffer = s.buffer :=
    buffer_judgeReport _ _ _ fun t => buffer_lowMatchDefault t _
  unfold State.check1
  split
  · exact buffer_ite (by simp) (buffer_ite (by simp) hlow)
  · exact buffer_ite (by simp) hlow

@[simp] theorem buffer_enterPush (s : State) (p : Pass) (b : BankId) : (s.enterPush p b).buffer = s.buffer := by
  simp [State.enterPush, State.buffer]

@[simp] theorem buffer_forceVictim (s : State) (v : Serial) : (s.forceVictim v).buffer = s.buffer :=
  buffer_of_pi (by simp)

@[simp] theorem buffer_pushMatching (s : State) (p : Pass) (a : Bool) : (s.pushMatching p a).buffer = s.buffer := by
  unfold State.pushMatching State.takePush
  (repeat' split) <;> simp

@[simp] theorem buffer_takeAdmission (s : State) (p : Pass) (a : Admission) (b : Bool) :
    (s.takeAdmission p a b).buffer = s.buffer := by
  have answered (u : State) (t : Table × Bool) : (u.admissionAnswered p t).buffer = u.buffer := rfl
  unfold State.takeAdmission
  dsimp only
  (repeat' split) <;> simp [answered]

theorem buffer_acceptDefault (s : State) (p : Pass) (c : Condition) : (s.acceptDefault p c).buffer = s.buffer := by
  cases c with
  | windowOverflow => exact buffer_ite (by simp) (by simp)
  | tableFull =>
    simp only [State.acceptDefault, State.acceptParked]
    (repeat' split) <;> simp
  | _ => simp [State.acceptDefault, State.verticalDefault, State.speedDefault]

theorem buffer_captureAct (s : State) : s.captureAct.buffer = s.buffer :=
  buffer_ite rfl (buffer_ite rfl (buffer_ite rfl (buffer_ite (by simp; rfl) rfl)))

namespace BufferLaw

variable {s t : State} {p : List Byte}

theorem of_buffer (h : BufferLaw s) (hb : t.buffer = s.buffer) : BufferLaw t := by
  simp only [State.buffer, Prod.mk.injEq] at hb
  obtain ⟨hport, hwaiting, hfilling⟩ := hb
  unfold BufferLaw
  rw [hport, hwaiting, hfilling]
  exact h

theorem of_empty (hb : t.buffer = emptyBuffer) : BufferLaw t := by
  simp only [State.buffer, emptyBuffer, Prod.mk.injEq] at hb
  obtain ⟨hport, hwaiting, hfilling⟩ := hb
  unfold BufferLaw
  rw [hport, hwaiting, hfilling]
  exact ⟨Nat.zero_le _, by decide, fun _ => ⟨rfl, rfl⟩⟩

theorem ite {c : Prop} [Decidable c] {t u : State} (ht : BufferLaw t) (hu : BufferLaw u) :
    BufferLaw (if c then t else u) := by
  split
  · exact ht
  · exact hu

theorem closeUnended (h : BufferLaw s) : BufferLaw s.closeUnended := by
  unfold State.closeUnended
  split
  · exact of_empty rfl
  · exact h

/-- A port that stores may stand over the same line buffer as one that waits. -/
theorem setPort {b : BankId} (h : BufferLaw s) : BufferLaw (s.setPort (some b)) := by
  obtain ⟨hwaiting, hfilling, -⟩ := h
  exact ⟨hwaiting, hfilling, fun hport => by cases hport⟩

theorem frameStart (h : BufferLaw s) : BufferLaw s.frameStart := by
  have counted : BufferLaw s.countFrame := h
  have dropped (o : FrameOutcome) : BufferLaw (s.countFrame.dropAtStart o) :=
    counted.of_buffer (buffer_of_pi (by simp))
  have gap {u : State} (v : Serial) (hu : BufferLaw u) : BufferLaw (u.openGap v) := hu.of_buffer (buffer_of_pi (by simp))
  have bank : BufferLaw s.countFrame.takeBank := by
    unfold State.takeBank
    split
    · exact setPort (counted.of_buffer rfl)
    · exact dropped _
  unfold State.frameStart
  split
  case h_3 | h_4 => exact gap _ bank
  case h_5 => exact gap _ (dropped _)
  case h_6 => exact dropped _
  all_goals exact h

/-- A line leaves less than a segment filling, and a segment that it fills is a full one (R15). -/
theorem fill {cells : List Host.Cell} (h : BufferLaw s) :
    (s.pi.fill cells).2.waiting.length ≤ segmentBytes ∧ (s.pi.fill cells).2.filling.length < segmentBytes := by
  refine ⟨?_, ?_⟩
  · by_cases hshort : s.pi.filling.length + cells.length < segmentBytes
    · rw [Intake.fill_short _ _ hshort]
      exact h.1
    · exact (Intake.fill_waiting_length _ _ (Nat.le_of_not_lt hshort)).le
  · rw [Intake.fill_filling_length]
    exact Nat.mod_lt _ (by decide)

theorem after_line {luma : List Byte} {chroma : List (Byte × Byte)} (h : BufferLaw s)
    (ho : exec (.line luma chroma) s = .next t) : BufferLaw t := by
  simp only [exec, execLine] at ho
  split at ho
  · rename_i b hport
    obtain ⟨hwaiting, hfilling⟩ := h.fill (cells := s.geo.lineCells (s.bankBase b) (s.bank b).lineCount luma chroma)
    have hstored : (s.lineFill b luma chroma).2.port = some b := by simp [State.lineFill, hport]
    obtain ⟨-, rfl⟩ | ⟨-, rfl⟩ := granted_cases ho
    all_goals exact ⟨hwaiting, hfilling, fun hnone => by cases hstored.symm.trans hnone⟩
  · cases ho
    exact h

theorem after_frameEnd (h : BufferLaw s) (ho : exec .frameEnd s = .next t) : BufferLaw t := by
  simp only [exec, execFrameEnd] at ho
  split at ho
  · obtain ⟨-, rfl⟩ | ⟨-, rfl⟩ := granted_cases ho
    all_goals exact of_empty rfl
  · cases ho
    exact h

theorem after_command {c : HostCommand} {lenOk : Nat → Bool} {f : State → State} (h : BufferLaw s)
    (hf : BufferLaw (f s)) (ho : s.command c p lenOk f = .next t) : BufferLaw t := by
  obtain rfl | rfl | ⟨-, -, rfl⟩ := command_cases ho
  · exact h
  · exact h
  · exact hf

theorem closeAtRelease (h : BufferLaw s) : BufferLaw s.closeAtRelease := by
  unfold State.closeAtRelease
  split
  · exact of_empty rfl
  · exact h

theorem runArm (h : BufferLaw s) : BufferLaw (s.runArm p) := by
  refine ite h (ite h ?_)
  split
  · exact h
  · exact ite h (ite h (ite h (of_empty rfl)))

theorem exec (c : Instr) (s t : State) (h : BufferLaw s) (ho : exec c s = .next t) : BufferLaw t := by
  cases c with
  | powerOn | resetNAssert =>
    cases ho
    exact of_empty rfl
  | reset p => exact h.after_command (of_empty rfl) (show execReset p s = .next t from ho)
  | firstSlot =>
    obtain ⟨-, -, rfl⟩ | rfl | ho := firstSlot_cases ho
    · obtain ⟨-, hfilling, hawait⟩ := h
      exact ⟨Nat.zero_le _, hfilling, fun hport => ⟨rfl, (hawait hport).2⟩⟩
    · exact h
    · obtain ⟨-, -, rfl⟩ | ⟨r, -, -, rfl⟩ | rfl := secondSlot_cases ho
      · exact h
      · exact h.of_buffer (buffer_of_pi (by simp))
      · exact h
  | frameStart =>
    cases ho
    exact h.closeUnended.frameStart
  | line => exact h.after_line ho
  | frameEnd => exact h.after_frameEnd ho
  | shutterEdge =>
    simp only [Machine.exec, execShutterEdge, Host.Outcome.next.injEq] at ho
    subst ho
    split
    case h_1 | h_2 => exact h
    all_goals exact h.of_buffer (buffer_captureAct _)
  | finish p =>
    refine h.after_command ?_ (show execFinish p s = .next t from ho)
    exact h.of_buffer (buffer_ite rfl (buffer_ite rfl (by simp)))
  | arm p => exact h.after_command h.runArm (show execArm p s = .next t from ho)
  | abort p =>
    refine h.after_command ?_ (show execAbort p s = .next t from ho)
    refine h.of_buffer (buffer_ite rfl ?_)
    simp [State.abortStop, State.buffer]
  | abortClearStep =>
    simp only [Machine.exec, execAbortClearStep, Host.Outcome.next.injEq] at ho
    subst ho
    split
    · exact of_empty rfl
    · exact h
  | resumeAccept p =>
    refine h.after_command ?_ (show execResumeAccept p s = .next t from ho)
    exact resume_cases (fun _ => h) (fun _ _ => h.of_buffer (by simp [buffer_acceptDefault]))
      (fun _ => h.of_buffer (buffer_ite (c := _ = _) (by simp) rfl))
  | resumeSkip p =>
    refine h.after_command ?_ (show execResumeSkip p s = .next t from ho)
    exact resume_cases (fun _ => h) (fun _ _ => h.of_buffer (buffer_ite (c := _ = _) rfl (by simp))) (fun _ => h)
  | resumePlace p =>
    refine h.after_command ?_ (show execResumePlace p s = .next t from ho)
    have placed (q : Pass) (dx dy : Int) : (s.placeHeld q dx dy).buffer = s.buffer := buffer_check2 _ _
    unfold State.resume State.resumeHeld
    split
    · refine ite h (ite h (ite h ?_))
      split
      · exact h.of_buffer (placed _ _ _)
      · exact h
    all_goals exact h
  | release p =>
    refine h.after_command ?_ (show execRelease p s = .next t from ho)
    have hclosed : BufferLaw s.closeGap := h.of_buffer (buffer_closeGap s)
    exact ite h (hclosed.closeAtRelease.of_buffer (buffer_of_pi (by simp [State.release])))
  | matchBankTake =>
    have taken {b : BankId} {rest : List BankId} {u : State} (hu : u.pi = (s.takeQueued b rest).pi) : BufferLaw u :=
      h.of_buffer (buffer_of_pi (s := s.takeQueued b rest) hu)
    simp only [Machine.exec, execMatchBankTake, Host.Outcome.next.injEq] at ho
    subst ho
    split
    · refine ite h ?_
      split
      case h_1 => exact taken (State.beginOrigin_keeps _ _).2.2.2.2.1
      case h_2 => exact taken (State.beginMatch_keeps _ _).2.2.2.2.1
      all_goals exact h
    · exact h
  | lookup =>
    have hstop (u : State) : u.meetStop.buffer = u.buffer := by simp [State.buffer]
    simp only [Machine.exec, execLookup, Host.Outcome.next.injEq] at ho
    subst ho
    split
    · split
      case h_1 | h_2 => exact h.of_buffer (hstop _)
      all_goals exact h
    · exact h
  | judge =>
    simp only [Machine.exec, execJudge, Host.Outcome.next.injEq] at ho
    subst ho
    split
    · exact ite (h.of_buffer (buffer_check1 _ _)) h
    · exact h
  | push =>
    simp only [Machine.exec, execPush, Host.Outcome.next.injEq] at ho
    subst ho
    split
    · split
      case h_1 => exact ite h (h.of_buffer (buffer_pushMatching _ _ _))
      all_goals exact h
    · exact h
  | admissionClaim =>
    simp only [Machine.exec, execAdmissionClaim, Host.Outcome.next.injEq] at ho
    subst ho
    split
    · split
      · exact ite (h.of_buffer (buffer_takeAdmission _ _ _ _)) h
      · exact h
    · exact h
  | blendTake =>
    simp only [Machine.exec, execBlendTake, Host.Outcome.next.injEq] at ho
    subst ho
    refine ite ?_ h
    split
    · split <;> exact h
    · exact h
  | blendEndClaim =>
    have finished (b : BlendPass) : BufferLaw (s.finishBlend b) := by
      unfold State.finishBlend
      dsimp only
      split <;> exact h
    simp only [Machine.exec, execBlendEndClaim, Host.Outcome.next.injEq] at ho
    subst ho
    split
    · exact ite (finished _) h
    · exact h
  | verifyEnd =>
    have fails (k : SlotId) (r : RollbackResult) : BufferLaw (s.verifyFails k r) :=
      h.of_buffer (by simp [State.verifyFails, State.endRollback, State.buffer])
    have stops (k : SlotId) : BufferLaw (s.setOp (.apply k)).stopPass := h.of_buffer (by simp [State.buffer])
    simp only [Machine.exec, execVerifyEnd, Host.Outcome.next.injEq] at ho
    subst ho
    split
    case h_1 =>
      refine ite h ?_
      split
      · exact ite (ite (stops _) (fails _ _)) (fails _ _)
      · exact fails _ _
    all_goals exact h
  | rollbackReplace =>
    have replaced (k : SlotId) (m : Image) : BufferLaw (s.replaceWith k m) := by
      refine of_empty ?_
      unfold State.replaceWith
      dsimp only
      rw [buffer_of_pi (State.dropWaitingFinish_keeps _).2.2.2.2.1]
      rfl
    simp only [Machine.exec, execRollbackReplace, Host.Outcome.next.injEq] at ho
    subst ho
    split
    case h_1 =>
      split
      · exact ite (replaced _ _) h
      · exact h
    all_goals exact h
  | _ => exact h.of_buffer (buffer_of_pi (exec_same (p := .pi) ho (by simp [changedBy])))

end BufferLaw

/-- Settles O6. -/
theorem readerAndLineBufferStayInRange : Obligations.ReaderAndLineBufferStayInRange :=
  ⟨step_keeps (fun _ _ h => h) ReaderLaw.exec, step_keeps (fun _ _ h => h) BufferLaw.exec⟩

end Sys2Proof.Machine

/-! ### The Landmark Table under every row (R33, R34)

`TableKept` lists what a row can do to the Landmark Table; `TableKept.exec_keeps` says that a predicate of tables that each of
those acts keeps is kept by every row but the resets, CONFIGURE and the replace step, which build a new table. -/

namespace Sys2Proof.Machine

/-- A predicate of tables that each elementary act on the table keeps. -/
structure TableKept (Q : Table → Prop) : Prop where
  /-- claims of directives wait or are taken (R37) -/
  claims : ∀ {t : Table} (r : List (Nat × Nat)), Q t → Q { t with regionClaims := r }
  /-- a landmark retires (R40) -/
  retire : ∀ {t : Table} (i : Nat), Q t → Q (t.retire i)
  /-- the table is cleared (R54) -/
  clear : ∀ {t : Table}, Q t → Q t.clear
  /-- the pass marks are cleared (R42) -/
  clearMarks : ∀ {t : Table}, Q t → Q t.clearMarks
  /-- a live record is rewritten, its PINNED and ORIGIN as they were -/
  rewrite : ∀ {t : Table} {i : Nat} {old r : Landmark}, Q t → t.lm i = some old → r.pinned = old.pinned →
    r.origin = old.origin → Q (t.put i r)
  /-- an index leaves one list for another that has room (R35) -/
  move : ∀ {t : Table} (i j k : Nat), Q t → (t.bin j).length < 8 →
    Q { t with bins := (t.bins.modify k fun l => l.filter fun n => !decide (n = i)).modify j fun l => l ++ [i] }
  /-- a FREE entry is admitted to a list with room (R47) -/
  enter : ∀ {t : Table} {i : Nat} (g : Geometry) (a : Admission) (v : Serial) (o : Bool), Q t → i < t.entries.length →
    t.lm i = none → (t.bin (g.binOf a.x)).length < 8 → Q (t.admitLandmark g i a v o)
  /-- PINNED is set on a landmark that had it clear (R55) -/
  pin : ∀ {t : Table} {i : Nat} {r : Landmark}, Q t → t.lm i = some r → r.pinned = false → Q (t.pin i r)
  /-- PINNED is cleared on a landmark that had it set (R56) -/
  unpin : ∀ {t : Table} {i : Nat} {r : Landmark}, Q t → t.lm i = some r → r.pinned = true → Q (t.unpin i r)

/-! #### Single entries and lists of the table -/

theorem Table.lm_lt {t : Table} {i : Nat} {r : Landmark} (h : t.lm i = some r) : i < t.entries.length := by
  unfold Table.lm at h
  by_contra hge
  rw [List.getElem?_eq_none (Nat.le_of_not_lt hge)] at h
  cases h

theorem Table.freeEntry_some {t : Table} {i : Nat} (h : t.freeEntry = some i) :
    i < t.entries.length ∧ t.lm i = none := by
  obtain ⟨hlt, hfree, -⟩ := List.findIdx?_eq_some_iff_getElem.mp h
  refine ⟨hlt, ?_⟩
  unfold Table.lm
  rw [List.getElem?_eq_getElem hlt]
  simpa using hfree

/-- A list that has room has room when an index has left some list. -/
theorem Table.bin_retire_length_le (t : Table) (i j : Nat) : ((t.retire i).bin j).length ≤ (t.bin j).length := by
  unfold Table.retire
  split
  · exact Nat.le_refl _
  · simp only [Table.bin, List.getElem?_modify]
    cases t.bins[j]? with
    | none => simp
    | some l =>
      simp only [Option.getD_some]
      split
      · exact List.length_filter_le _ _
      · exact Nat.le_refl _

theorem Table.retire_lm_self (t : Table) (i : Nat) : (t.retire i).lm i = none := by
  unfold Table.retire
  split
  · assumption
  · simp only [Table.lm, List.getElem?_modify]
    cases t.entries[i]? <;> rfl

@[simp] theorem Table.retire_entries_length (t : Table) (i : Nat) :
    (t.retire i).entries.length = t.entries.length := by
  unfold Table.retire
  split <;> simp

/-- The victim of eviction is a live entry. -/
theorem Table.evictionVictim_lt {t : Table} {v : Serial} {i : Nat} (h : t.evictionVictim v = some i) :
    i < t.entries.length := by
  unfold Table.evictionVictim at h
  obtain ⟨⟨j, r⟩, hbest, rfl⟩ := Option.map_eq_some_iff.mp h
  have live (l : List Nat) (best : Option (Nat × Landmark)) (hb : ∀ e, best = some e → e.1 < t.entries.length) :
      ∀ e, l.foldl (fun (best : Option (Nat × Landmark)) i =>
        match best, t.lm i with
        | none, some r => some (i, r)
        | some (j, b), some r => if Landmark.weaker v r b then some (i, r) else some (j, b)
        | best, none => best) best = some e → e.1 < t.entries.length := by
    induction l generalizing best with
    | nil => exact hb
    | cons i l ih =>
      refine ih _ fun e he => ?_
      dsimp only at he
      cases hlm : t.lm i with
      | none =>
        simp only [hlm] at he
        exact hb e he
      | some r =>
        have hlt := Table.lm_lt hlm
        simp only [hlm] at he
        cases best with
        | none =>
          cases he
          exact hlt
        | some b =>
          dsimp only at he
          split at he
          · cases he
            exact hlt
          · exact hb e he
  exact live _ none (fun _ he => by cases he) (j, r) hbest

namespace TableKept

variable {Q : Table → Prop} (K : TableKept Q) {s : State} {t : Table}

include K

theorem retireAll (is : List Nat) (h : Q t) : Q (t.retireAll is) :=
  List.foldlRecOn is _ h fun _ ht i _ => K.retire i ht

theorem putMoving {g : Geometry} {i : Nat} {old r : Landmark} (h : Q t) (hlive : t.lm i = some old)
    (hpinned : r.pinned = old.pinned) (horigin : r.origin = old.origin) : Q (t.putMoving g i r) := by
  unfold Table.putMoving
  dsimp only
  split
  · exact K.rewrite h hlive hpinned horigin
  · rename_i hroom
    exact K.rewrite (K.move i (g.binOf r.x) r.bin h (Nat.lt_of_not_le (not_or.mp hroom).2)) hlive hpinned horigin

theorem applyHit {g : Geometry} {n : Nat} {v : Serial} {c : UpdateClaim} {r : Landmark} (h : Q t)
    (hlive : t.lm c.index = some r) : Q (t.applyHit g n v c r) := by
  unfold Table.applyHit
  dsimp only
  split
  · exact K.rewrite h hlive rfl rfl
  · exact K.putMoving h hlive rfl rfl

theorem applyRevive {n : Nat} {v : Serial} {c : UpdateClaim} {r : Landmark} (h : Q t)
    (hlive : t.lm c.index = some r) : Q (t.applyRevive n v c r) := K.rewrite h hlive rfl rfl

theorem applyMiss {n : Nat} {c : UpdateClaim} {r : Landmark} (h : Q t) (hlive : t.lm c.index = some r) :
    Q (t.applyMiss n c r) := by
  unfold Table.applyMiss
  split
  · rename_i r' hmissed
    have hkept : r'.pinned = r.pinned ∧ r'.origin = r.origin := by
      unfold Landmark.missed at hmissed
      dsimp only at hmissed
      (repeat' split at hmissed) <;> simp only [Option.some.injEq, reduceCtorEq] at hmissed <;> subst hmissed <;>
        exact ⟨rfl, rfl⟩
    exact K.rewrite h hlive hkept.1 hkept.2
  · exact K.retire _ h

omit K in
theorem takeClaim {p : Pass} {c : UpdateClaim} {f : Landmark → Table} (h : Q s.ltc)
    (hf : ∀ r, s.ltc.lm c.index = some r → Q (f r)) : Q (s.takeClaim p c f).ltc := by
  unfold State.takeClaim
  split
  · rename_i r hclaimed
    refine hf r ?_
    unfold Table.claimed at hclaimed
    split at hclaimed
    · exact hclaimed
    · cases hclaimed
  · exact h

theorem admitEvicting {g : Geometry} {a : Admission} {v : Serial} {o : Bool} (h : Q t)
    (hroom : (t.bin (g.binOf a.x)).length < 8) : Q (t.admitEvicting g a v o).1 := by
  unfold Table.admitEvicting
  split
  · rename_i i hvictim
    refine K.enter g a v o (K.retire i h) ?_ (t.retire_lm_self i) ?_
    · simpa using Table.evictionVictim_lt hvictim
    · exact Nat.lt_of_le_of_lt (t.bin_retire_length_le i _) hroom
  · exact h

theorem takeAdmission {p : Pass} {a : Admission} {b : Bool} (h : Q s.ltc) : Q (s.takeAdmission p a b).ltc := by
  unfold State.takeAdmission
  dsimp only
  split
  · exact h
  · rename_i hroom
    have hlen : (s.ltc.bin (s.geo.binOf a.x)).length < 8 :=
      Nat.lt_of_not_le (not_or.mp (not_or.mp hroom).2).2
    split
    · obtain ⟨hlt, hfree⟩ := Table.freeEntry_some ‹_›
      exact K.enter s.geo a p.serial _ h hlt hfree hlen
    · split
      · exact K.admitEvicting h hlen
      · split
        · simpa using h
        · exact K.admitEvicting h hlen

theorem applyDirective {v : Serial} {d : Directive} (h : Q s.ltc) : Q (s.applyDirective v d).ltc := by
  cases d with
  | retireRegion first count => exact K.claims _ h
  | hint dx dy =>
    have : (s.hintFor v dx dy).ltc = s.ltc := by simp
    exact show Q (s.hintFor v dx dy).ltc from this ▸ h
  | mark u a n => exact show Q (s.loadMark u a n).ltc from (by simpa using h)
  | stop | skip | next | nextAndStop | signal | masks | blend => exact h

theorem closeGap (h : Q s.ltc) : Q s.closeGap.ltc := by
  unfold State.closeGap
  split
  · unfold State.applyWord
    split
    · exact K.applyDirective h
    · exact h
  · exact h
  · exact h

theorem openGap {v : Serial} (h : Q s.ltc) : Q (s.openGap v).ltc := by
  unfold State.openGap
  split
  · dsimp only
    split <;> exact K.closeGap h
  · exact h

theorem frameStart (h : Q s.ltc) : Q s.frameStart.ltc := by
  unfold State.frameStart
  split
  case h_3 | h_4 | h_5 => exact K.openGap (by simpa using h)
  case h_6 => simpa using h
  all_goals exact h

omit K in
theorem named {p : List Byte} {f : Landmark → State} (h : Q s.ltc)
    (hf : ∀ r, s.ltc.lm (u8At p 0) = some r → Q (f r).ltc) : Q (s.named p f).ltc := by
  unfold State.named
  split
  · exact h
  · split
    · exact h
    · split
      · split
        · exact hf _ ‹_›
        · exact h
      · exact h

theorem acceptDefault {p : Pass} {c : Condition} (h : Q s.ltc) : Q (s.acceptDefault p c).ltc := by
  cases c with
  | tableFull =>
    simp only [State.acceptDefault, State.acceptParked]
    split
    · split
      · exact h
      · exact K.takeAdmission h
    · exact h
  | _ => simpa [State.acceptDefault] using h

omit K in
theorem after_command {c : HostCommand} {p : List Byte} {lenOk : Nat → Bool} {f : State → State}
    (hf : Q s.ltc → Q (f s).ltc) : After (fun u => Q s.ltc → Q u.ltc) (s.command c p lenOk f) := by
  intro h
  split
  · split
    · exact hf h
    · exact h
  · exact h

theorem after_hitClaim : After (fun u => Q s.ltc → Q u.ltc) (execHitClaim s) := by
  intro h
  split
  · split
    · exact takeClaim h fun r hr => K.applyHit h hr
    · exact h
    · exact h
  · exact h

theorem after_reviveClaim : After (fun u => Q s.ltc → Q u.ltc) (execReviveClaim s) := by
  intro h
  split
  · split
    · exact takeClaim h fun r hr => K.applyRevive h hr
    · exact h
    · exact h
  · exact h

theorem after_missClaim : After (fun u => Q s.ltc → Q u.ltc) (execMissClaim s) := by
  intro h
  split
  · split
    · split
      · exact takeClaim h fun r hr => K.applyMiss h hr
      · exact h
    · exact h
  · exact h

theorem after_admissionClaim : After (fun u => Q s.ltc → Q u.ltc) (execAdmissionClaim s) := by
  intro h
  split
  · split
    · split
      · exact K.takeAdmission h
      · exact h
    · exact h
  · exact h

theorem after_batchOpening : After (fun u => Q s.ltc → Q u.ltc) (execBatchOpening s) := by
  intro h
  split
  · split
    · exact K.clearMarks h
    · exact h
  · exact h

theorem after_retireBehind : After (fun u => Q s.ltc → Q u.ltc) (execRetireBehind s) := by
  intro h
  split
  · split
    · exact K.retireAll _ h
    all_goals exact h
  · exact h

theorem retireVictims {first count : Nat} (h : Q s.ltc) : Q (s.retireRegion first count).ltc := K.retireAll _ h

theorem after_retireRegionClaim : After (fun u => Q s.ltc → Q u.ltc) (execRetireRegionClaim s) := by
  intro h
  split
  · split
    · exact h
    · exact K.retireVictims (K.claims _ h)
  · exact h

theorem after_directiveStep {row : Directive → Bool} : After (fun u => Q s.ltc → Q u.ltc) (s.directiveStep row) := by
  intro h
  split
  · split
    · exact K.applyDirective h
    · exact h
  · exact h

theorem after_abortClearStep : After (fun u => Q s.ltc → Q u.ltc) (execAbortClearStep s) := by
  intro h
  split
  · exact K.clear (by simpa using h)
  · exact h

theorem release (h : Q s.ltc) : Q s.release.ltc := K.clear (by simpa using K.closeGap h)

theorem after_release {p : List Byte} : After (fun u => Q s.ltc → Q u.ltc) (execRelease p s) := by
  refine after_command fun h => ?_
  split
  · exact h
  · exact K.release h

theorem runArm {p : List Byte} (h : Q s.ltc) : Q (s.runArm p).ltc := by
  unfold State.runArm
  repeat' split
  case h_2.isFalse.isFalse.isFalse => exact K.closeGap h
  all_goals exact h

theorem after_arm {p : List Byte} : After (fun u => Q s.ltc → Q u.ltc) (execArm p s) := after_command K.runArm

theorem setList {n : Nat} {b : Bool} (h : Q s.ltc) : Q (s.setList n b).ltc := by
  cases b with
  | true => exact h
  | false => exact K.closeGap h

theorem after_pinLandmark {p : List Byte} : After (fun u => Q s.ltc → Q u.ltc) (execPinLandmark p s) := by
  refine after_command fun h => named h fun r hlive => ?_
  split
  · exact h
  · split
    · exact h
    · exact K.pin h hlive (Bool.not_eq_true _ ▸ ‹_›)

theorem after_unpinLandmark {p : List Byte} : After (fun u => Q s.ltc → Q u.ltc) (execUnpinLandmark p s) := by
  refine after_command fun h => named h fun r hlive => ?_
  split
  · exact K.unpin h hlive ‹_›
  · exact h

theorem after_retireLandmark {p : List Byte} : After (fun u => Q s.ltc → Q u.ltc) (execRetireLandmark p s) := by
  refine after_command fun h => named h fun r hlive => ?_
  split
  · exact h
  · exact K.retire _ h

theorem after_retireRegion {p : List Byte} : After (fun u => Q s.ltc → Q u.ltc) (execRetireRegion p s) := by
  refine after_command fun h => ?_
  split
  · exact h
  · split
    · exact h
    · exact K.retireVictims h

theorem after_setList {p : List Byte} : After (fun u => Q s.ltc → Q u.ltc) (execSetList p s) := by
  refine after_command fun h => ?_
  split
  · split
    · exact h
    · exact K.setList (n := u16At p 0) h
  · exact h

theorem after_resumeAccept {p : List Byte} : After (fun u => Q s.ltc → Q u.ltc) (execResumeAccept p s) := by
  refine after_command fun h => ?_
  refine resume_cases (P := fun u => Q u.ltc) (fun _ => h) (fun q c => K.acceptDefault h) fun c => ?_
  unfold State.acceptNothing
  split
  · simpa using h
  · exact h

end TableKept

/-- The rows that build a new table: the resets, CONFIGURE and the replace step of a rollback. -/
def buildsTable : Instr → Bool
  | .powerOn | .resetNAssert | .reset _ | .configure _ | .rollbackReplace => true
  | _ => false

theorem TableKept.exec_keeps {Q : Table → Prop} (K : TableKept Q) (c : Instr) {s t : State}
    (hc : buildsTable c = false) (h : Q s.ltc) (ho : exec c s = .next t) : Q t.ltc := by
  cases c
  case powerOn | resetNAssert | reset | configure | rollbackReplace => exact absurd hc (by simp [buildsTable])
  case frameStart =>
    cases ho
    exact K.frameStart (by simpa using h)
  case arm p => exact K.after_arm.next ho h
  case abortClearStep => exact K.after_abortClearStep.next ho h
  case resumeAccept p => exact K.after_resumeAccept.next ho h
  case release p =>
    exact K.after_release.next ho h
  case pinLandmark p => exact K.after_pinLandmark.next ho h
  case unpinLandmark p => exact K.after_unpinLandmark.next ho h
  case retireLandmark p => exact K.after_retireLandmark.next ho h
  case retireRegion p => exact K.after_retireRegion.next ho h
  case setList p => exact K.after_setList.next ho h
  case dirStop | dirSkip | dirNext | dirNextAndStop | dirSignal | dirHint | dirMasks | dirMark | dirRetireRegion
    | dirBlend => exact K.after_directiveStep.next ho h
  case batchOpening => exact K.after_batchOpening.next ho h
  case hitClaim => exact K.after_hitClaim.next ho h
  case reviveClaim => exact K.after_reviveClaim.next ho h
  case missClaim => exact K.after_missClaim.next ho h
  case admissionClaim => exact K.after_admissionClaim.next ho h
  case retireBehind => exact K.after_retireBehind.next ho h
  case retireRegionClaim => exact K.after_retireRegionClaim.next ho h
  all_goals
    have hsame : t.ltc = s.ltc := exec_same (p := .ltc) ho (by simp [changedBy])
    rw [hsame]
    exact h

end Sys2Proof.Machine

/-! ### Counts and list lengths of the table (R33, R34)

The predicates of tables that the laws speak of, each shown to be kept by every act of `TableKept`. -/

namespace Sys2Proof.Machine

theorem mem_modify_cases {α : Type} {L : List α} {i : Nat} {f : α → α} {a : α} (h : a ∈ L.modify i f) :
    a ∈ L ∨ ∃ a₀, L[i]? = some a₀ ∧ a = f a₀ := by
  obtain ⟨j, hj⟩ := List.mem_iff_getElem?.mp h
  rw [List.getElem?_modify] at hj
  obtain ⟨a₀, ha₀, rfl⟩ := Option.map_eq_some_iff.mp hj
  split
  · subst i
    exact .inr ⟨a₀, ha₀, rfl⟩
  · exact .inl (List.mem_iff_getElem?.mpr ⟨j, ha₀⟩)

/-- R34: no list of the table holds more than 8 indices. -/
def Table.listsShort (t : Table) : Prop := ∀ l ∈ t.bins, l.length ≤ 8

namespace Table.listsShort

theorem leave {L : List (List Nat)} (h : ∀ l ∈ L, l.length ≤ 8) (k i : Nat) :
    ∀ l ∈ L.modify k (fun l => l.filter fun n => !decide (n = i)), l.length ≤ 8 := by
  intro l hl
  obtain hl | ⟨l₀, hl₀, rfl⟩ := mem_modify_cases hl
  · exact h l hl
  · exact Nat.le_trans (List.length_filter_le _ _) (h l₀ (List.mem_of_getElem? hl₀))

theorem join {L : List (List Nat)} (h : ∀ l ∈ L, l.length ≤ 8) {j : Nat} (i : Nat) (hroom : (L[j]?.getD []).length < 8) :
    ∀ l ∈ L.modify j (fun l => l ++ [i]), l.length ≤ 8 := by
  intro l hl
  obtain hl | ⟨l₀, hl₀, rfl⟩ := mem_modify_cases hl
  · exact h l hl
  · rw [hl₀] at hroom
    simpa using hroom

theorem retire {t : Table} (i : Nat) (h : t.listsShort) : (t.retire i).listsShort := by
  unfold Table.retire
  split
  · exact h
  · exact leave h _ i

theorem kept : TableKept Table.listsShort where
  claims := fun _ h => h
  retire := fun i h => retire i h
  clear := fun _ l hl => by
    obtain ⟨_, -, rfl⟩ := List.mem_map.mp hl
    exact Nat.zero_le _
  clearMarks := fun h => h
  rewrite := fun h _ _ _ => h
  move := fun {t} i j k h hroom => join (leave h k i) i (by
    rw [List.getElem?_modify]
    unfold Table.bin at hroom
    cases hj : t.bins[j]? with
    | none => simp
    | some l =>
      rw [hj] at hroom
      have := List.length_filter_le (fun n => !decide (n = i)) l
      simp only [Option.getD_some] at hroom
      simp only [Option.map_eq_map, Option.map_some, Option.getD_some]
      split
      · exact Nat.lt_of_le_of_lt this hroom
      · exact hroom)
  enter := fun _ _ _ _ h _ _ hroom => join h _ hroom
  pin := fun h _ _ => h
  unpin := fun h _ _ => h

end Table.listsShort

/-! #### The three counts -/

theorem countP_modify {α : Type} (q : α → Bool) {L : List α} {i : Nat} (f : α → α) {e : α} (h : L[i]? = some e) :
    (L.modify i f).countP q + (q e).toNat = L.countP q + (q (f e)).toNat := by
  induction L generalizing i with
  | nil => simp at h
  | cons a L ih =>
    cases i with
    | zero =>
      obtain rfl : a = e := by simpa using h
      simp only [List.modify_zero_cons, List.countP_cons, Bool.toNat]
      cases q a <;> cases q (f a) <;> simp
    | succ i =>
      have := ih (i := i) (by simpa using h)
      simp only [List.modify_succ_cons, List.countP_cons]
      omega

/-- How many live records satisfy `f`. -/
def Table.countOf (t : Table) (f : Landmark → Bool) : Nat := t.entries.countP fun e => e.lm.any f

/-- R33: 256 entries, and the three counts are what they count. -/
structure Table.Counted (t : Table) : Prop where
  entries : t.entries.length = 256
  live : t.live = t.countOf fun _ => true
  pinned : t.pinned = t.countOf (·.pinned)
  origin : t.origin = t.countOf (·.origin)

theorem tableLaw_iff (s : State) : TableLaw s ↔ s.ltc.Counted := by
  have hlive : s.ltc.countOf (fun _ => true) = s.ltc.entries.countP fun e => e.lm.isSome := by
    unfold Table.countOf
    refine List.countP_congr fun e _ => ?_
    cases e.lm <;> rfl
  constructor
  · rintro ⟨h1, h2, h3, h4⟩
    exact ⟨h1, h2.trans hlive.symm, h3, h4⟩
  · rintro ⟨h1, h2, h3, h4⟩
    exact ⟨h1, h2.trans hlive, h3, h4⟩

theorem Table.entry_of_lm {t : Table} {i : Nat} {r : Landmark} (h : t.lm i = some r) :
    ∃ e, t.entries[i]? = some e ∧ e.lm = some r := by
  unfold Table.lm at h
  exact Option.bind_eq_some_iff.mp h

theorem Table.entry_of_free {t : Table} {i : Nat} (hlt : i < t.entries.length) (h : t.lm i = none) :
    ∃ e, t.entries[i]? = some e ∧ e.lm = none := by
  unfold Table.lm at h
  rw [List.getElem?_eq_getElem hlt] at h
  exact ⟨_, List.getElem?_eq_getElem hlt, h⟩

theorem Table.countOf_put {t : Table} {i : Nat} {old : Landmark} (f : Landmark → Bool) (r : Landmark)
    (h : t.lm i = some old) : (t.put i r).countOf f + (f old).toNat = t.countOf f + (f r).toNat := by
  obtain ⟨e, he, hlm⟩ := Table.entry_of_lm h
  have := countP_modify (fun e : Entry => e.lm.any f) (fun e => { e with lm := some r }) he
  simpa [Table.countOf, Table.put, hlm] using this

theorem Table.countOf_put_free {t : Table} {i : Nat} (f : Landmark → Bool) (r : Landmark) (hlt : i < t.entries.length)
    (h : t.lm i = none) : (t.put i r).countOf f = t.countOf f + (f r).toNat := by
  obtain ⟨e, he, hlm⟩ := Table.entry_of_free hlt h
  have := countP_modify (fun e : Entry => e.lm.any f) (fun e => { e with lm := some r }) he
  simpa [Table.countOf, Table.put, hlm] using this

theorem Table.countOf_retire {t : Table} {i : Nat} {r : Landmark} (f : Landmark → Bool) (h : t.lm i = some r) :
    (t.retire i).countOf f + (f r).toNat = t.countOf f := by
  obtain ⟨e, he, hlm⟩ := Table.entry_of_lm h
  have := countP_modify (fun e : Entry => e.lm.any f) (fun e => ⟨e.gen + 1#4, none⟩) he
  simp only [Table.retire, h]
  simpa [Table.countOf, hlm] using this

theorem Table.countOf_clearMarks (t : Table) (f : Landmark → Bool)
    (h : ∀ r : Landmark, f { r with passMark := false } = f r) : t.clearMarks.countOf f = t.countOf f := by
  unfold Table.countOf Table.clearMarks
  rw [List.countP_map]
  congr 1
  funext e
  cases hlm : e.lm <;> simp [hlm, h]

theorem Table.countOf_clear (t : Table) (f : Landmark → Bool) : t.clear.countOf f = 0 := by
  unfold Table.countOf Table.clear
  rw [List.countP_map, List.countP_eq_zero]
  intro e _
  cases hlm : e.lm <;> simp [hlm]

/-- The record an admission enters (R47). -/
def Landmark.admitted (g : Geometry) (a : Admission) (v : Serial) (o : Bool) : Landmark :=
  ⟨.tentative, false, o, a.x, a.y, a.descriptor, a.strength, 1, 0, v, v, g.binOf a.x, true⟩

theorem Table.countOf_empty (f : Landmark → Bool) : Table.empty.countOf f = 0 :=
  List.countP_eq_zero.mpr fun e he => by
    obtain rfl := List.eq_of_mem_replicate he
    simp

namespace Table.Counted

variable {t : Table}

theorem retire (i : Nat) (h : t.Counted) : (t.retire i).Counted := by
  cases hlm : t.lm i with
  | none => simpa [Table.retire, hlm] using h
  | some r =>
    have hlive := Table.countOf_retire (fun _ => true) hlm
    have hpinned := Table.countOf_retire (·.pinned) hlm
    have horigin := Table.countOf_retire (·.origin) hlm
    refine ⟨by simpa using h.entries, ?_, ?_, ?_⟩
    · rw [show (t.retire i).live = t.live - 1 by simp [Table.retire, hlm], h.live]
      simp only [Bool.toNat_true] at hlive
      omega
    · rw [show (t.retire i).pinned = t.pinned - r.pinned.toNat by simp [Table.retire, hlm], h.pinned]
      omega
    · rw [show (t.retire i).origin = t.origin - r.origin.toNat by simp [Table.retire, hlm], h.origin]
      omega

theorem rewrite {i : Nat} {old r : Landmark} (h : t.Counted) (hlive : t.lm i = some old) (hpinned : r.pinned = old.pinned)
    (horigin : r.origin = old.origin) : (t.put i r).Counted where
  entries := by simpa [Table.put] using h.entries
  live := by
    have := Table.countOf_put (fun _ => true) r hlive
    exact h.live.trans (by omega)
  pinned := by
    have := Table.countOf_put (·.pinned) r hlive
    rw [hpinned] at this
    exact h.pinned.trans (by omega)
  origin := by
    have := Table.countOf_put (·.origin) r hlive
    rw [horigin] at this
    exact h.origin.trans (by omega)

theorem admitLandmark {g : Geometry} {i : Nat} {a : Admission} {v : Serial} {o : Bool} (h : t.Counted)
    (hlt : i < t.entries.length) (hfree : t.lm i = none) : (t.admitLandmark g i a v o).Counted where
  entries := by simpa [Table.admitLandmark, Table.put] using h.entries
  live := (congrArg (· + 1) h.live).trans (Table.countOf_put_free (fun _ => true) _ hlt hfree).symm
  pinned := h.pinned.trans (Table.countOf_put_free (·.pinned) (Landmark.admitted g a v o) hlt hfree).symm
  origin := (congrArg (· + o.toNat) h.origin).trans
    (Table.countOf_put_free (·.origin) (Landmark.admitted g a v o) hlt hfree).symm

theorem setPinned {i n : Nat} {r : Landmark} {b : Bool} (h : t.Counted) (hlive : t.lm i = some r)
    (hn : n + r.pinned.toNat = t.pinned + b.toNat) : Table.Counted { t.put i { r with pinned := b } with pinned := n } where
  entries := by simpa [Table.put] using h.entries
  live := by
    have := Table.countOf_put (fun _ => true) { r with pinned := b } hlive
    exact h.live.trans (Nat.add_right_cancel this).symm
  pinned := by
    have := Table.countOf_put (·.pinned) { r with pinned := b } hlive
    rw [h.pinned] at hn
    exact Nat.add_right_cancel (hn.trans this.symm)
  origin := by
    have := Table.countOf_put (·.origin) { r with pinned := b } hlive
    exact h.origin.trans (Nat.add_right_cancel this).symm

theorem pinned_pos {i : Nat} {r : Landmark} (h : t.Counted) (hlive : t.lm i = some r) (hr : r.pinned = true) :
    0 < t.pinned := by
  have := Table.countOf_retire (·.pinned) hlive
  rw [h.pinned]
  simp only [hr, Bool.toNat_true] at this
  omega

theorem kept : TableKept Table.Counted where
  claims := fun _ h => ⟨h.entries, h.live, h.pinned, h.origin⟩
  retire := fun i h => retire i h
  clear := fun {t} h => ⟨by simpa [Table.clear] using h.entries, (t.countOf_clear _).symm, (t.countOf_clear _).symm,
    (t.countOf_clear _).symm⟩
  clearMarks := fun {t} h => ⟨by simpa [Table.clearMarks] using h.entries,
    h.live.trans (t.countOf_clearMarks _ fun _ => rfl).symm, h.pinned.trans (t.countOf_clearMarks _ fun _ => rfl).symm,
    h.origin.trans (t.countOf_clearMarks _ fun _ => rfl).symm⟩
  rewrite := rewrite
  move := fun _ _ _ h _ => ⟨h.entries, h.live, h.pinned, h.origin⟩
  enter := fun _ _ _ _ h hlt hfree _ => admitLandmark h hlt hfree
  pin := fun h hlive hr => setPinned h hlive (by simp [hr])
  unpin := fun h hlive hr => setPinned h hlive (by
    have := pinned_pos h hlive hr
    simp only [hr, Bool.toNat_true, Bool.toNat_false]
    omega)

theorem empty : Table.empty.Counted :=
  ⟨List.length_replicate, (Table.countOf_empty _).symm, (Table.countOf_empty _).symm, (Table.countOf_empty _).symm⟩

end Table.Counted

theorem bins_length_kept (n : Nat) : TableKept fun t => t.bins.length = n where
  claims := fun _ h => h
  retire := fun {t} i h => by
    unfold Table.retire
    split
    · exact h
    · simpa using h
  clear := fun h => by simpa [Table.clear] using h
  clearMarks := fun h => h
  rewrite := fun h _ _ _ => h
  move := fun _ _ _ h _ => by simpa using h
  enter := fun _ _ _ _ h _ _ _ => by simpa [Table.admitLandmark] using h
  pin := fun h _ _ => h
  unpin := fun h _ _ => h

/-! #### The rows that build a new table -/

theorem configure_ltc {s t : State} {p : List Byte} (h : exec (.configure p) s = .next t) :
    t.ltc = s.ltc ∧ t.geo = s.geo ∧ t.bu.coverage = s.bu.coverage ∨
      s.cx.op = .none ∧ t.ltc = { s.ltc with bins := List.replicate t.geo.nBins [] } ∧
        t.bu.coverage = List.replicate t.geo.nBlocks .blank := by
  obtain rfl | rfl | ⟨-, -, rfl⟩ := command_cases (show execConfigure p s = .next t from h)
  · exact .inl ⟨rfl, rfl, rfl⟩
  · exact .inl ⟨rfl, rfl, rfl⟩
  · unfold State.runConfigure
    dsimp only
    split
    · exact .inl ⟨rfl, rfl, rfl⟩
    · split
      · exact .inl ⟨rfl, rfl, rfl⟩
      · rename_i hbusy
        have hop : s.cx.op = .none := by
          simpa [State.contextBusy] using (not_or.mp hbusy).2
        repeat' split
        case isFalse.isFalse.isFalse.isFalse.isFalse.isFalse => exact .inr ⟨hop, rfl, rfl⟩
        all_goals exact .inl ⟨rfl, rfl, rfl⟩

theorem rollbackReplace_cases {s t : State} (h : exec .rollbackReplace s = .next t) :
    t = s ∨ ∃ k m, s.cx.op = .apply k ∧ (s.cx.slot k).image = some m ∧ t = s.replaceWith k m := by
  simp only [exec, execRollbackReplace, Host.Outcome.next.injEq] at h
  subst h
  split
  · split
    · split
      · exact .inr ⟨_, _, ‹_›, ‹_›, rfl⟩
      · exact .inl rfl
    · exact .inl rfl
  all_goals exact .inl rfl

end Sys2Proof.Machine

/-! ### The context operation and the configuration (R5, R122, R178)

Only VERIFY_END begins an apply, and only on an image that has passed the checks of R178; while an apply is under way no
row changes the geometry. -/

namespace Sys2Proof.Machine

/-- What a row does to the context operation: nothing that matters to an apply; or no apply is under way after it; or it is
the VERIFY_END that begins one. -/
def ContextStep (s t : State) : Prop :=
  (t.cx.op = s.cx.op ∧ t.cx.slot0 = s.cx.slot0 ∧ t.cx.slot1 = s.cx.slot1) ∨ (∀ k, t.cx.op ≠ .apply k) ∨
    ∃ k m, t.cx = { s.cx with op := .apply k } ∧ (s.cx.slot k).image = some m ∧ m.passes s.geo = true ∧ t.geo = s.geo

theorem ContextStep.of_cx {s t : State} (h : t.cx = s.cx) : ContextStep s t := .inl (by simp [h])

theorem ContextStep.of_op {s t : State} (h : ∀ k, t.cx.op ≠ .apply k) : ContextStep s t := .inr (.inl h)

theorem ContextStep.ite {s t u : State} {c : Prop} [Decidable c] (ht : ContextStep s t) (hu : ContextStep s u) :
    ContextStep s (if c then t else u) := by
  split
  · exact ht
  · exact hu

theorem ContextStep.after_command {s : State} {c : HostCommand} {p : List Byte} {lenOk : Nat → Bool} {f : State → State}
    (hf : ContextStep s (f s)) : After (ContextStep s) (s.command c p lenOk f) := by
  show ContextStep s _
  split
  · split
    · exact hf
    · exact .of_cx rfl
  · exact .of_cx rfl

theorem ContextStep.grantRing (s : State) (r : Ring) : ContextStep s (s.grantRing r) := by
  cases r with
  | cx => exact .inl ⟨rfl, rfl, rfl⟩
  | eu => exact .of_cx rfl
  | link => exact .of_cx (by simp [State.grantRing])
  | bu => exact .of_cx (by simp [State.grantRing])

theorem ContextStep.secondSlot {s t : State} (h : s.secondSlot = .next t) : ContextStep s t := by
  obtain ⟨-, -, rfl⟩ | ⟨r, -, -, rfl⟩ | rfl := secondSlot_cases h
  · exact .of_cx rfl
  · exact .grantRing s r
  · exact .of_cx rfl

theorem stopContext_op (s : State) (k : SlotId) : s.stopContext.cx.op ≠ .apply k := by
  unfold State.stopContext
  split
  · rename_i h
    simp [h]
  · rename_i h
    simp [Context.endSave, h]
  · rename_i h
    simp [Context.endSave, h]
  all_goals simp [State.endRollback]

theorem validImage_some {k : Slot} {m : Image} (h : k.validImage = some m) : k.state = .valid ∧ k.image = some m := by
  unfold Slot.validImage at h
  split at h
  · exact ⟨‹_›, h⟩
  · cases h

theorem ContextStep.verifyEnd (s : State) : After (ContextStep s) (execVerifyEnd s) := by
  have hfails (k : SlotId) (r : RollbackResult) : ContextStep s (s.verifyFails k r) :=
    .of_op (by simp [State.verifyFails, State.endRollback])
  show ContextStep s _
  split
  · split
    · exact .of_cx rfl
    · split
      · rename_i m hvalid
        split
        · split
          · refine .inr (.inr ⟨_, m, ?_, (validImage_some hvalid).2, ‹_›, ?_⟩) <;> simp [State.setOp]
          · exact hfails _ _
        · exact hfails _ _
      · exact hfails _ _
  all_goals exact .of_cx rfl

theorem exec_contextStep (c : Instr) {s t : State} (h : exec c s = .next t) : ContextStep s t := by
  cases c
  case powerOn | resetNAssert =>
    cases h
    exact .of_op fun k => by simp [State.wholeReset, State.reset, Context.empty]
  case reset p =>
    refine (show After (ContextStep s) (execReset p s) from ContextStep.after_command ?_).next h
    exact .of_op (by simp [State.commandReset, Context.afterReset])
  case firstSlot =>
    obtain ⟨-, -, rfl⟩ | rfl | h := firstSlot_cases h
    · exact .of_cx rfl
    · exact .of_cx rfl
    · exact .secondSlot h
  case secondSlot => exact .secondSlot h
  case abort p =>
    refine (show After (ContextStep s) (execAbort p s) from ContextStep.after_command ?_).next h
    refine .ite (.of_cx rfl) (.of_op fun k => ?_)
    simpa [State.abortStop] using stopContext_op _ k
  case resumeRollback p =>
    refine (show After (ContextStep s) (execResumeRollback p s) from ContextStep.after_command ?_).next h
    refine .ite (.of_cx rfl) (.ite (.of_cx rfl) ?_)
    split
    · exact .of_op (by simp [State.beginVerify])
    · exact .of_cx rfl
  case checkpoint p =>
    refine (show After (ContextStep s) (execCheckpoint p s) from ContextStep.after_command ?_).next h
    refine .ite (.of_cx rfl) (.ite (.of_cx rfl) ?_)
    split
    · exact .of_cx rfl
    · refine .ite (.of_cx rfl) (.of_op fun k => ?_)
      unfold State.beginSave
      split <;> simp [State.beginCopy, State.beginWait]
  case rollback p =>
    refine (show After (ContextStep s) (execRollback p s) from ContextStep.after_command ?_).next h
    refine .ite (.of_cx rfl) (.ite (.of_cx rfl) ?_)
    split
    · exact .of_cx rfl
    · exact .ite (.of_cx rfl) (.ite (.of_cx rfl) (.of_op (by simp [State.beginVerify])))
  case copyPhase =>
    refine (show After (ContextStep s) (execCopyPhase s) from ?_).next h
    show ContextStep s _
    split
    · exact .ite (.of_op (by simp [State.beginCopy])) (.of_cx rfl)
    all_goals exact .of_cx rfl
  case saveComplete =>
    refine (show After (ContextStep s) (execSaveComplete s) from ?_).next h
    show ContextStep s _
    split
    · exact .ite (.of_cx rfl) (.of_op (by simp [State.completeSave]))
    all_goals exact .of_cx rfl
  case verifyEnd => exact (ContextStep.verifyEnd s).next h
  case rollbackReplace =>
    obtain rfl | ⟨k, m, -, -, rfl⟩ := rollbackReplace_cases h
    · exact .of_cx rfl
    · exact .of_op (by simp [State.replaceWith, State.endRollback])
  all_goals exact .of_cx (exec_same (p := .cx) h (by simp [changedBy]))

theorem arm_cases {s t : State} {p : List Byte} (h : exec (.arm p) s = .next t) :
    t.geo = s.geo ∧ t.bu = s.bu ∧ t.ltc = s.ltc ∨
      s.cx.op = .none ∧ ∃ dir col row, t = (s.arm dir col row).answer [] := by
  obtain rfl | rfl | ⟨-, -, rfl⟩ := command_cases (show execArm p s = .next t from h)
  · exact .inl ⟨rfl, rfl, rfl⟩
  · exact .inl ⟨rfl, rfl, rfl⟩
  · unfold State.runArm
    split
    · exact .inl ⟨rfl, rfl, rfl⟩
    · split
      · exact .inl ⟨rfl, rfl, rfl⟩
      · rename_i hbusy
        have hop : s.cx.op = .none := by simpa [State.contextBusy] using hbusy
        repeat' split
        case h_2.isFalse.isFalse.isFalse => exact .inr ⟨hop, _, _, _, rfl⟩
        all_goals exact .inl ⟨rfl, rfl, rfl⟩

/-- Where the sweep's geometry or the configuration changes, no context operation is under way after the row. -/
theorem geo_kept_or_no_op (c : Instr) {s t : State} (h : exec c s = .next t) : t.geo = s.geo ∨ t.cx.op = .none := by
  cases c
  case powerOn | resetNAssert =>
    cases h
    exact .inr rfl
  case reset p =>
    obtain rfl | rfl | ⟨-, -, rfl⟩ := command_cases (show execReset p s = .next t from h)
    · exact .inl rfl
    · exact .inl rfl
    · exact .inr rfl
  case configure p =>
    have hcx : t.cx = s.cx := exec_same (p := .cx) h (by simp [changedBy])
    obtain ⟨-, hgeo, -⟩ | ⟨hop, -, -⟩ := configure_ltc h
    · exact .inl hgeo
    · exact .inr (hcx ▸ hop)
  case arm p =>
    have hcx : t.cx = s.cx := exec_same (p := .cx) h (by simp [changedBy])
    obtain ⟨hgeo, -, -⟩ | ⟨hop, -⟩ := arm_cases h
    · exact .inl hgeo
    · exact .inr (hcx ▸ hop)
  all_goals exact .inl (exec_same (p := .geo) h (by simp [changedBy]))

theorem Image.passes_apply {m : Image} {g : Geometry} (h : m.passes g = true) :
    m.windowOk = true ∧ m.coverage.length = g.nBlocks := by
  simp only [Image.passes, Bool.and_eq_true, decide_eq_true_eq] at h
  obtain ⟨⟨⟨⟨⟨⟨_, hgeo⟩, _⟩, _⟩, _⟩, hwindow⟩, hcoverage⟩ := h
  simp only [Image.coverageOk, Bool.and_eq_true, decide_eq_true_eq] at hcoverage
  exact ⟨hwindow, hgeo ▸ hcoverage.1⟩

theorem applyLaw_exec (c : Instr) {s t : State} (h : ApplyLaw s) (ho : exec c s = .next t) : ApplyLaw t := by
  intro k m hop himage
  obtain ⟨hsame, h0, h1⟩ | hnone | ⟨k', m', hcx, himage', hpasses, hgeo⟩ := exec_contextStep c ho
  · have hslot : t.cx.slot k = s.cx.slot k := by cases k <;> assumption
    obtain hgeo | hidle := geo_kept_or_no_op c ho
    · rw [hgeo]
      exact h k m (hsame ▸ hop) (hslot ▸ himage)
    · simp [hidle] at hop
  · exact absurd hop (hnone k)
  · obtain rfl : k' = k := by simpa [hcx] using hop
    have hslot : t.cx.slot k' = s.cx.slot k' := by cases k' <;> simp [hcx, Context.slot]
    rw [hslot, himage', Option.some.injEq] at himage
    subst himage
    rw [hgeo]
    exact Image.passes_apply hpasses

end Sys2Proof.Machine

/-! ### The Placement Window and the sizes of the tables (R6, R34, R87, R104) -/

namespace Sys2Proof.Machine

/-- The serials of the window, newest first. -/
def State.serials (s : State) : List Serial := s.pw.map (·.serial)

/-- R87: 0 to 8 records, no two of the same serial. -/
def SerialsOk (l : List Serial) : Prop := l.length ≤ 8 ∧ l.Nodup

theorem SerialsOk.nil : SerialsOk [] := ⟨Nat.zero_le _, List.nodup_nil⟩

theorem SerialsOk.sublist {l l' : List Serial} (h : SerialsOk l) (hsub : l'.Sublist l) : SerialsOk l' :=
  ⟨Nat.le_trans hsub.length_le h.1, h.2.sublist hsub⟩

theorem windowLaw_iff (s : State) : WindowLaw s ↔ SerialsOk s.serials ∧ ApplyLaw s := by
  simp [WindowLaw, SerialsOk, State.serials, and_assoc]

theorem serials_of_pw {s t : State} (h : t.pw = s.pw) : t.serials = s.serials := congrArg (List.map _) h

theorem map_serial_eq {l : List Placement} {f : Placement → Placement} (hf : ∀ r ∈ l, (f r).serial = r.serial) :
    (l.map f).map (·.serial) = l.map (·.serial) := by
  rw [List.map_map]
  exact List.map_congr_left hf

@[simp] theorem commitBlocks_serials (s : State) (sel : Nat → Serial → Bool) : (s.commitBlocks sel).serials = s.serials :=
  map_serial_eq fun _ _ => rfl

theorem updateRecord_serials (s : State) (v : Serial) {f : Placement → Placement} (hf : ∀ r, (f r).serial = r.serial) :
    (s.updateRecord v f).serials = s.serials := by
  refine map_serial_eq fun r _ => ?_
  split
  · exact hf r
  · rfl

@[simp] theorem openBlock_serials (s : State) (k : Nat) (v : Serial) : (s.openBlock k v).serials = s.serials := by
  simp only [State.serials, State.openBlock]
  split
  · rfl
  · refine map_serial_eq fun r _ => ?_
    repeat' split
    all_goals rfl

theorem retirePlacements_sublist (l : List Placement) : (retirePlacements l).Sublist l := by
  cases l with
  | nil => exact List.Sublist.refl _
  | cons r l => exact (List.filter_sublist).cons_cons r

theorem forceRetire_serials (s : State) (v : Serial) :
    (s.forceRetire v).serials = s.serials.filter fun x => !decide (x = v) := by
  have hcommit := commitBlocks_serials s fun _ o => decide (o = v)
  simp only [State.serials] at hcommit ⊢
  rw [← hcommit, List.filter_map]
  rfl

theorem any_serial_iff (s : State) (v : Serial) : (s.pw.any fun r => decide (r.serial = v)) = true ↔ v ∈ s.serials := by
  simp [State.serials]

theorem overflows_iff (s : State) (v : Serial) : s.overflows v = true ↔ v ∈ s.serials ∨ 8 ≤ s.serials.length := by
  simp [State.overflows, State.serials]

/-- A new serial enters a window with room (R92). -/
theorem SerialsOk.cons {s : State} {v : Serial} (h : SerialsOk s.serials) (hroom : s.overflows v = false) :
    SerialsOk (v :: s.serials) := by
  have hno := mt (overflows_iff s v).mpr (Bool.not_eq_true _ ▸ hroom)
  obtain ⟨hnew, hlen⟩ := not_or.mp hno
  exact ⟨Nat.lt_of_not_le hlen, List.nodup_cons.mpr ⟨hnew, h.2⟩⟩

/-- A victim gone leaves room (R93). -/
theorem forceVictim_room {s : State} {v : Serial} (h : SerialsOk s.serials) (hfull : s.overflows v = true) :
    (s.forceVictim v).overflows v = false := by
  have hdrop (w : Serial) (hw : w ∈ s.serials) : (s.serials.filter fun x => !decide (x = w)).length < 8 :=
    Nat.lt_of_lt_of_le (List.length_filter_lt_length_iff_exists.mpr ⟨w, hw, by simp⟩) h.1
  rw [← Bool.not_eq_true, overflows_iff, not_or, Nat.not_le]
  unfold State.forceVictim State.victim
  by_cases hclash : v ∈ s.serials
  · rw [if_pos ((any_serial_iff s v).mpr hclash)]
    dsimp only
    rw [forceRetire_serials]
    exact ⟨by simp, hdrop v hclash⟩
  · rw [if_neg (mt (any_serial_iff s v).mp hclash)]
    have hlt : 7 < s.pw.length := by
      have := ((overflows_iff s v).mp hfull).resolve_left hclash
      rwa [State.serials, List.length_map] at this
    rw [List.getElem?_eq_getElem hlt]
    dsimp only [Option.map_some]
    rw [forceRetire_serials]
    refine ⟨fun hv => hclash (List.mem_filter.mp hv).1, hdrop _ ?_⟩
    exact List.mem_map_of_mem (List.getElem_mem hlt)

theorem forceVictim_serials_sublist (s : State) (v : Serial) : (s.forceVictim v).serials.Sublist s.serials := by
  unfold State.forceVictim
  split
  · rw [forceRetire_serials]
    exact List.filter_sublist
  · exact List.Sublist.refl _

theorem enterPush_serials (s : State) (p : Pass) (b : BankId) : (s.enterPush p b).serials = p.serial :: s.serials := by
  have : (s.originSweeping p).pw = s.pw := by simp
  simp [State.serials, State.enterPush, Pass.placement]

theorem takePush_serials {s : State} {p : Pass} {b : BankId} {a : Bool} (h : SerialsOk s.serials) :
    SerialsOk (s.takePush p b a).serials := by
  have hreport : (s.report .windowOverflow).1.serials = s.serials := serials_of_pw (by simp)
  have hforce {u : State} (hu : SerialsOk u.serials) (hfull : u.overflows p.serial = true) :
      SerialsOk ((u.forceVictim p.serial).enterPush p b).serials := by
    rw [enterPush_serials]
    exact (hu.sublist (forceVictim_serials_sublist u _)).cons (forceVictim_room hu hfull)
  unfold State.takePush
  split
  · rename_i hfull
    split
    · split
      · exact h
      · exact hforce h hfull
    · split
      · exact hreport.symm ▸ h
      · split
        · exact h
        · refine hforce (hreport.symm ▸ h) ?_
          rw [overflows_iff, hreport]
          exact (overflows_iff s _).mp hfull
  · rename_i hroom
    rw [enterPush_serials]
    exact h.cons (Bool.not_eq_true _ ▸ hroom)

theorem pushMatching_serials {s : State} {p : Pass} {a : Bool} (h : SerialsOk s.serials) :
    SerialsOk (s.pushMatching p a).serials := by
  unfold State.pushMatching
  split
  · split
    · exact takePush_serials h
    · exact h
  · exact h

theorem acceptDefault_serials {s : State} {p : Pass} {c : Condition} (h : SerialsOk s.serials) :
    SerialsOk (s.acceptDefault p c).serials := by
  have hsame {u : State} (hu : u.pw = s.pw) : SerialsOk u.serials := (serials_of_pw hu).symm ▸ h
  cases c with
  | windowOverflow =>
    simp only [State.acceptDefault, State.acceptPush]
    split
    · exact h
    · exact pushMatching_serials h
  | tableFull =>
    simp only [State.acceptDefault, State.acceptParked]
    split
    · split
      · exact h
      · exact hsame (by simp)
    · exact h
  | _ => exact hsame (by simp [State.acceptDefault])

theorem Image.placements_serials {m : Image} (h : m.windowOk = true) : SerialsOk (m.placements.map (·.serial)) := by
  simp only [Image.windowOk, Bool.and_eq_true, decide_eq_true_eq, inRange] at h
  obtain ⟨⟨⟨_, hlen⟩, hnodup⟩, _⟩ := h
  have hserials : m.placements.map (·.serial) = m.records.map (·.serial) := map_serial_eq fun _ _ => rfl
  rw [hserials]
  exact ⟨by simpa using hlen.2, hnodup⟩

theorem replaceWith_pw (s : State) (k : SlotId) (m : Image) : (s.replaceWith k m).pw = m.placements := by
  simp [State.replaceWith, State.endRollback]

/-! #### Rows that change records of the window and keep its serials -/

section

variable {s t : State}

theorem staleCountClaim_serials (h : exec .staleCountClaim s = .next t) : t.serials = s.serials := by
  simp only [exec, execStaleCountClaim, Host.Outcome.next.injEq] at h
  subst h
  have hstale (p : Pass) : (if p.pushed then s.updateRecord p.serial fun r => { r with stale := p.stale } else s).serials
      = s.serials := by
    split
    · exact updateRecord_serials s _ fun _ => rfl
    · rfl
  split
  · rename_i p _
    split
    · refine Eq.trans (serials_of_pw ?_) (hstale p)
      split <;> split <;> rfl
    · rfl
  · rfl

theorem blendTake_serials (h : exec .blendTake s = .next t) : t.serials = s.serials := by
  simp only [exec, execBlendTake, Host.Outcome.next.injEq] at h
  subst h
  split
  · split
    · split
      · exact updateRecord_serials s _ fun _ => rfl
      · rfl
    · rfl
  · rfl

theorem seamFix_serials (h : exec .seamFix s = .next t) : t.serials = s.serials := by
  simp only [exec, execSeamFix, Host.Outcome.next.injEq] at h
  subst h
  split
  · split
    · split
      · split
        · exact updateRecord_serials s _ fun _ => rfl
        · rfl
      · rfl
    all_goals rfl
  · rfl

theorem blockWrite_serials (h : exec .blockWrite s = .next t) : t.serials = s.serials := by
  simp only [exec, execBlockWrite, Host.Outcome.next.injEq] at h
  subst h
  have hend (b : BlendPass) (a : Nat) (rest : List Nat) : (s.endBlock b a rest).serials = s.serials :=
    openBlock_serials s _ _
  split
  · split
    · split
      · rfl
      · split
        · rfl
        · split
          · exact hend _ _ _
          · rfl
    · split
      · exact hend _ _ _
      · rfl
    all_goals rfl
  · rfl

theorem blendEnd_serials (h : exec .blendEnd s = .next t) : t.serials = s.serials := by
  simp only [exec, execBlendEnd, Host.Outcome.next.injEq] at h
  subst h
  split
  · split
    · exact commitBlocks_serials s _
    · rfl
  · rfl

theorem blendEndClaim_serials (h : exec .blendEndClaim s = .next t) : t.serials = s.serials := by
  simp only [exec, execBlendEndClaim, Host.Outcome.next.injEq] at h
  subst h
  split
  · rename_i b _
    split
    · refine Eq.trans (serials_of_pw ?_) (updateRecord_serials s b.serial (f := fun r => { r with state := .blended })
        fun _ => rfl)
      unfold State.finishBlend
      dsimp only
      split <;> rfl
    · rfl
  · rfl

end

theorem windowLaw_exec (c : Instr) {s t : State} (h : WindowLaw s) (ho : exec c s = .next t) : WindowLaw t := by
  rw [windowLaw_iff] at h ⊢
  obtain ⟨hserials, happly⟩ := h
  refine ⟨?_, applyLaw_exec c happly ho⟩
  cases c
  case powerOn | resetNAssert =>
    cases ho
    exact .nil
  case reset p =>
    obtain rfl | rfl | ⟨-, -, rfl⟩ := command_cases (show execReset p s = .next t from ho)
    · exact hserials
    · exact hserials
    · exact .nil
  case abortClearStep =>
    simp only [exec, execAbortClearStep, Host.Outcome.next.injEq] at ho
    subst ho
    split
    · exact .nil
    · exact hserials
  case release p =>
    obtain rfl | rfl | ⟨-, -, rfl⟩ := command_cases (show execRelease p s = .next t from ho)
    · exact hserials
    · exact hserials
    · split
      · exact hserials
      · exact .nil
  case resumeAccept p =>
    obtain rfl | rfl | ⟨-, -, rfl⟩ := command_cases (show execResumeAccept p s = .next t from ho)
    · exact hserials
    · exact hserials
    · refine resume_cases (P := fun u => SerialsOk u.serials) (fun _ => hserials) (fun q c => acceptDefault_serials hserials)
        fun c => ?_
      have : (s.acceptNothing c).pw = s.pw := by
        unfold State.acceptNothing
        split <;> simp
      exact (serials_of_pw this).symm ▸ hserials
  case push =>
    simp only [exec, execPush, Host.Outcome.next.injEq] at ho
    subst ho
    split
    · split
      · split
        · exact hserials
        · exact pushMatching_serials hserials
      all_goals exact hserials
    · exact hserials
  case staleCountClaim => exact (staleCountClaim_serials ho).symm ▸ hserials
  case blendTake => exact (blendTake_serials ho).symm ▸ hserials
  case seamFix => exact (seamFix_serials ho).symm ▸ hserials
  case blockWrite => exact (blockWrite_serials ho).symm ▸ hserials
  case blendEnd => exact (blendEnd_serials ho).symm ▸ hserials
  case blendEndClaim => exact (blendEndClaim_serials ho).symm ▸ hserials
  case retirementClaim =>
    simp only [exec, execRetirementClaim, Host.Outcome.next.injEq] at ho
    subst ho
    split
    · split
      · exact hserials.sublist ((retirePlacements_sublist s.pw).map _)
      all_goals exact hserials
    · exact hserials
  case commitAllOpenBlocks =>
    simp only [exec, execCommitAllOpenBlocks, Host.Outcome.next.injEq] at ho
    subst ho
    split
    · exact .nil
    · exact hserials
  case rollbackReplace =>
    obtain rfl | ⟨k, m, hop, himage, rfl⟩ := rollbackReplace_cases ho
    · exact hserials
    · rw [State.serials, replaceWith_pw]
      exact Image.placements_serials (happly k m hop himage).1
  all_goals
    have hsame : t.pw = s.pw := exec_same (p := .pw) ho (by simp [changedBy])
    exact (serials_of_pw hsame).symm ▸ hserials

/-! ### The sizes and counts under the rows that build a new table -/

theorem replaceWith_ltc (s : State) (k : SlotId) (m : Image) :
    (s.replaceWith k m).ltc = s.ltc.replaced m s.prm s.geo.nBins := by
  simp [State.replaceWith, State.endRollback]

theorem empty_coverage : Blender.empty.coverage = List.replicate Geometry.default.nBlocks .blank :=
  congrArg (List.replicate · Coverage.blank) (by decide : 256 = Geometry.default.nBlocks)

/-- The table after a row that builds a new one: the empty table, CONFIGURE's, or the replace step's. -/
theorem buildsTable_cases {c : Instr} {s t : State} (hc : buildsTable c = true) (h : exec c s = .next t) :
    (t.ltc = s.ltc ∧ t.geo = s.geo ∧ t.bu.coverage = s.bu.coverage) ∨
    (t.ltc = Table.empty ∧ t.geo = Geometry.default ∧ t.bu.coverage = List.replicate t.geo.nBlocks .blank) ∨
    (t.ltc = { s.ltc with bins := List.replicate t.geo.nBins [] } ∧
      t.bu.coverage = List.replicate t.geo.nBlocks .blank) ∨
    ∃ k m, s.cx.op = .apply k ∧ (s.cx.slot k).image = some m ∧ t.ltc = s.ltc.replaced m s.prm s.geo.nBins ∧
      t.geo = s.geo ∧ t.bu.coverage = m.coverage := by
  cases c
  case powerOn | resetNAssert =>
    cases h
    exact .inr (.inl ⟨rfl, rfl, empty_coverage⟩)
  case reset p =>
    obtain rfl | rfl | ⟨-, -, rfl⟩ := command_cases (show execReset p s = .next t from h)
    · exact .inl ⟨rfl, rfl, rfl⟩
    · exact .inl ⟨rfl, rfl, rfl⟩
    · exact .inr (.inl ⟨rfl, rfl, empty_coverage⟩)
  case configure p =>
    obtain hsame | ⟨-, hltc, hcoverage⟩ := configure_ltc h
    · exact .inl hsame
    · exact .inr (.inr (.inl ⟨hltc, hcoverage⟩))
  case rollbackReplace =>
    obtain rfl | ⟨k, m, hop, himage, rfl⟩ := rollbackReplace_cases h
    · exact .inl ⟨rfl, rfl, rfl⟩
    · refine .inr (.inr (.inr ⟨k, m, hop, himage, replaceWith_ltc s k m, ?_, ?_⟩)) <;>
        simp [State.replaceWith, State.endRollback, Image.blender]
  all_goals exact absurd hc (by simp [buildsTable])

theorem replaced_listsShort (t : Table) (m : Image) (q : Params) (n : Nat) : (t.replaced m q n).listsShort := by
  intro l hl
  obtain ⟨j, -, rfl⟩ := List.mem_map.mp hl
  refine Nat.le_trans (List.length_filter_le _ _) (Nat.le_trans (List.length_filterMap_le _ _) ?_)
  rw [List.length_range]

theorem replaced_counted {t : Table} (m : Image) (q : Params) (n : Nat) (h : t.Counted) : (t.replaced m q n).Counted where
  entries := by simpa [Table.replaced] using h.entries
  live := by
    refine List.countP_congr fun e _ => ?_
    cases e.lm <;> rfl
  pinned := rfl
  origin := rfl

theorem listsShort_replicate (t : Table) (n : Nat) : Table.listsShort { t with bins := List.replicate n [] } := by
  intro l hl
  rw [List.eq_of_mem_replicate hl]
  exact Nat.zero_le _

theorem binLaw_exec (c : Instr) (s t : State) (h : BinLaw s) (ho : exec c s = .next t) : BinLaw t := by
  cases hc : buildsTable c with
  | false => exact Table.listsShort.kept.exec_keeps c hc h ho
  | true =>
    show t.ltc.listsShort
    obtain ⟨hltc, -⟩ | ⟨hltc, -⟩ | ⟨hltc, -⟩ | ⟨k, m, -, -, hltc, -⟩ := buildsTable_cases hc ho
    · exact hltc ▸ h
    · exact hltc ▸ listsShort_replicate Table.empty 128
    · exact hltc ▸ listsShort_replicate _ _
    · exact hltc ▸ replaced_listsShort _ _ _ _

theorem tableLaw_exec (c : Instr) (s t : State) (h : TableLaw s) (ho : exec c s = .next t) : TableLaw t := by
  rw [tableLaw_iff] at h ⊢
  cases hc : buildsTable c with
  | false => exact Table.Counted.kept.exec_keeps c hc h ho
  | true =>
    obtain ⟨hltc, -⟩ | ⟨hltc, -⟩ | ⟨hltc, -⟩ | ⟨k, m, -, -, hltc, -⟩ := buildsTable_cases hc ho
    · exact hltc ▸ h
    · exact hltc ▸ Table.Counted.empty
    · exact hltc ▸ ⟨h.entries, h.live, h.pinned, h.origin⟩
    · exact hltc ▸ replaced_counted _ _ _ h

/-! #### The coverage map keeps its length -/

theorem commitBlocks_coverage_length (s : State) (sel : Nat → Serial → Bool) :
    (s.commitBlocks sel).bu.coverage.length = s.bu.coverage.length := List.length_mapIdx

theorem openBlock_coverage_length (s : State) (k : Nat) (v : Serial) :
    (s.openBlock k v).bu.coverage.length = s.bu.coverage.length := List.length_set

theorem blockWrite_coverage_length {s t : State} (h : exec .blockWrite s = .next t) :
    t.bu.coverage.length = s.bu.coverage.length := by
  simp only [exec, execBlockWrite, Host.Outcome.next.injEq] at h
  subst h
  have hend (b : BlendPass) (a : Nat) (rest : List Nat) :
      (s.endBlock b a rest).bu.coverage.length = s.bu.coverage.length := openBlock_coverage_length s _ _
  split
  · split
    · split
      · rfl
      · split
        · rfl
        · split
          · exact hend _ _ _
          · rfl
    · split
      · exact hend _ _ _
      · rfl
    all_goals rfl
  · rfl

theorem blendBurst_coverage (s : State) : s.blendBurst.bu.coverage = s.bu.coverage := by
  unfold State.blendBurst State.burstMeasure
  (repeat' split) <;> rfl

theorem secondSlot_coverage {s t : State} (h : s.secondSlot = .next t) :
    t.bu.coverage.length = s.bu.coverage.length := by
  obtain ⟨-, -, rfl⟩ | ⟨r, -, -, rfl⟩ | rfl := secondSlot_cases h
  · rfl
  · cases r with
    | bu => exact congrArg List.length (blendBurst_coverage _)
    | link => exact congrArg (List.length ∘ Blender.coverage) (State.linkBurst_keeps _).2.2.2.2.2.2.2.1
    | eu | cx => rfl
  · rfl

theorem forceVictim_coverage_length (s : State) (v : Serial) :
    (s.forceVictim v).bu.coverage.length = s.bu.coverage.length := by
  unfold State.forceVictim
  split
  · exact commitBlocks_coverage_length s _
  · rfl

theorem pushMatching_coverage_length (s : State) (p : Pass) (a : Bool) :
    (s.pushMatching p a).bu.coverage.length = s.bu.coverage.length := by
  have henter (u : State) (b : BankId) : (u.enterPush p b).bu = u.bu := by simp
  have hreport : (s.report .windowOverflow).1.bu = s.bu := by simp
  unfold State.pushMatching
  split
  · split
    · unfold State.takePush
      split
      · split
        · split
          · rfl
          · rw [henter, forceVictim_coverage_length]
        · split
          · rw [State.setPass_bu, hreport]
          · split
            · rfl
            · rw [henter, forceVictim_coverage_length, hreport]
      · rw [henter]
    · rfl
  · rfl

theorem acceptDefault_coverage_length (s : State) (p : Pass) (c : Condition) :
    (s.acceptDefault p c).bu.coverage.length = s.bu.coverage.length := by
  cases c with
  | windowOverflow =>
    simp only [State.acceptDefault, State.acceptPush]
    split
    · rfl
    · exact pushMatching_coverage_length _ p true
  | tableFull =>
    simp only [State.acceptDefault, State.acceptParked]
    split
    · split <;> simp
    · rfl
  | _ => simp [State.acceptDefault]

/-- A row that leaves geometry and table alone, or builds no table, keeps the length of the coverage map. -/
theorem coverage_length_kept {c : Instr} {s t : State} (hc : buildsTable c = false) (harm : ∀ p, c ≠ .arm p)
    (h : exec c s = .next t) :
    t.bu.coverage.length = s.bu.coverage.length ∨ t.bu.coverage.length = t.geo.nBlocks := by
  cases c
  case powerOn | resetNAssert | reset | configure | rollbackReplace => simp [buildsTable] at hc
  case arm p => exact absurd rfl (harm p)
  case secondSlot => exact .inl (secondSlot_coverage h)
  case firstSlot =>
    obtain ⟨-, -, rfl⟩ | rfl | h := firstSlot_cases h
    · exact .inl rfl
    · exact .inl rfl
    · exact .inl (secondSlot_coverage h)
  case abortClearStep =>
    simp only [exec, execAbortClearStep, Host.Outcome.next.injEq] at h
    subst h
    split
    · exact .inr (by simp [State.toIdle, State.clearBlender])
    · exact .inl rfl
  case release p =>
    obtain rfl | rfl | ⟨-, -, rfl⟩ := command_cases (show execRelease p s = .next t from h)
    · exact .inl rfl
    · exact .inl rfl
    · split
      · exact .inl rfl
      · exact .inr (by simp [State.release, State.toIdle, State.clearBlender])
  case resumeAccept p =>
    obtain rfl | rfl | ⟨-, -, rfl⟩ := command_cases (show execResumeAccept p s = .next t from h)
    · exact .inl rfl
    · exact .inl rfl
    · exact .inl (resume_cases (P := fun u => u.bu.coverage.length = s.bu.coverage.length) (fun _ => rfl)
        (fun q c => acceptDefault_coverage_length s q c) fun c => by simp [acceptNothing_bu])
  case push =>
    simp only [exec, execPush, Host.Outcome.next.injEq] at h
    subst h
    split
    · split
      · split
        · exact .inl rfl
        · exact .inl (pushMatching_coverage_length s _ _)
      all_goals exact .inl rfl
    · exact .inl rfl
  case blockWrite => exact .inl (blockWrite_coverage_length h)
  case blendEnd =>
    simp only [exec, execBlendEnd, Host.Outcome.next.injEq] at h
    subst h
    split
    · split
      · exact .inl (commitBlocks_coverage_length s _)
      · exact .inl rfl
    · exact .inl rfl
  case commitAllOpenBlocks =>
    simp only [exec, execCommitAllOpenBlocks, Host.Outcome.next.injEq] at h
    subst h
    split
    · exact .inl (commitBlocks_coverage_length s _)
    · exact .inl rfl
  case blendTake | seamFix | retireBehind | retirementClaim | blendEndClaim | closureJoin | joinColumn =>
    simp only [exec, execBlendTake, execSeamFix, execRetireBehind, execRetirementClaim, execBlendEndClaim,
      execClosureJoin, execJoinColumn, State.finishBlend, State.joinAdvance, Host.Outcome.next.injEq] at h
    subst h
    (repeat' split) <;> exact .inl rfl
  all_goals
    have hsame : t.bu = s.bu := exec_same (p := .bu) h (by simp [changedBy])
    exact .inl (by rw [hsame])

theorem geo_kept_of_no_table {c : Instr} {s t : State} (hc : buildsTable c = false) (harm : ∀ p, c ≠ .arm p)
    (h : exec c s = .next t) : t.geo = s.geo := by
  refine geo_unchanged_of_setsGeometry ?_ |> exec_same h
  cases c
  case arm p => exact absurd rfl (harm p)
  case powerOn | resetNAssert | reset | configure | rollbackReplace => simp [buildsTable] at hc
  all_goals rfl

theorem arm_sizes (s : State) (dir : Direction) (col row : Nat) :
    (s.arm dir col row).geo.nBins = s.geo.nBins ∧
      (s.arm dir col row).bu.coverage.length = (s.arm dir col row).geo.nBlocks := by
  simp [State.arm, State.clearBlender, State.clearMatcher, Geometry.nBins]

theorem sizeLaw_exec (c : Instr) {s t : State} (h : SizeLaw s) (ho : exec c s = .next t) : SizeLaw t := by
  obtain ⟨hbins, hcoverage, happly⟩ := h
  have happly' := applyLaw_exec c happly ho
  cases hc : buildsTable c with
  | false =>
    have hlist : t.ltc.bins.length = s.geo.nBins := (bins_length_kept s.geo.nBins).exec_keeps c hc hbins ho
    by_cases harm : ∃ p, c = .arm p
    · obtain ⟨p, rfl⟩ := harm
      obtain ⟨hgeo, hbu, -⟩ | ⟨-, dir, col, row, rfl⟩ := arm_cases ho
      · exact ⟨hgeo ▸ hlist, by rw [hbu, hgeo]; exact hcoverage, happly'⟩
      · exact ⟨hlist.trans (arm_sizes s dir col row).1.symm, (arm_sizes s dir col row).2, happly'⟩
    · have harm' : ∀ p, c ≠ .arm p := fun p hp => harm ⟨p, hp⟩
      have hgeo := geo_kept_of_no_table hc harm' ho
      refine ⟨hgeo ▸ hlist, ?_, happly'⟩
      obtain hlen | hlen := coverage_length_kept hc harm' ho
      · rw [hlen, hgeo]
        exact hcoverage
      · exact hlen
  | true =>
    obtain ⟨hltc, hgeo, hcov⟩ | ⟨hltc, hgeo, hcov⟩ | ⟨hltc, hcov⟩ | ⟨k, m, hop, himage, hltc, hgeo, hcov⟩ :=
      buildsTable_cases hc ho
    · exact ⟨by rw [hltc, hgeo]; exact hbins, by rw [hcov, hgeo]; exact hcoverage, happly'⟩
    · exact ⟨by rw [hltc, hgeo]; exact List.length_replicate, by rw [hcov, List.length_replicate], happly'⟩
    · exact ⟨by rw [hltc, List.length_replicate], by rw [hcov, List.length_replicate], happly'⟩
    · exact ⟨by rw [hltc, hgeo]; simp [Table.replaced], by rw [hcov, hgeo]; exact (happly k m hop himage).2, happly'⟩

/-- Settles O5. -/
theorem tablesKeepTheirCountsAndSizes : Obligations.TablesKeepTheirCountsAndSizes :=
  ⟨step_keeps (fun _ _ h => h) binLaw_exec, step_keeps (fun _ _ h => h) tableLaw_exec,
    step_keeps (fun _ _ h => h) fun c _ _ => windowLaw_exec c, step_keeps (fun _ _ h => h) fun c _ _ => sizeLaw_exec c⟩

end Sys2Proof.Machine

/-! ### Memory present, and what goes on without it (R7 to R9)

`Quiet.exec` shows that with memory present 0 MiB no row sets anything going that would use canvas memory; the rows that do
use it find the regions of R9 inside memory present. -/

namespace Sys2Proof.Machine

/-- No burst of LINK is presented (R13). -/
def noLinkBurst (q : Option Processing) : Prop := (∀ o b, q ≠ some (.linkWrite o b)) ∧ ∀ o n, q ≠ some (.linkRead o n)

theorem noLinkBurst_none : noLinkBurst none := ⟨fun _ _ => nofun, fun _ _ => nofun⟩

theorem noLinkBurst_taken (c : HostCommand) (p : List Byte) : noLinkBurst (some (.taken c p)) :=
  ⟨fun _ _ => by simp, fun _ _ => by simp⟩

/-- The default configuration fits into any memory present (R6, R9). -/
theorem default_fitsIn {dies : BitVec 4} (h : (presentUnits dies != 0) = true) :
    Geometry.default.fitsIn (presentBytes dies) = true := by
  have hunits : 1 ≤ presentUnits dies := Nat.one_le_iff_ne_zero.mpr (by simpa using h)
  have hsize : Geometry.default.canvasSize + 20480 + 3 * Geometry.default.bankSize = 19288064 := rfl
  simp only [Geometry.fitsIn, hsize, decide_eq_true_eq, presentBytes]
  omega

namespace Quiet

variable {s t : State}

theorem noBurst (h : Quiet s) : noLinkBurst s.li.processing := by
  obtain ⟨-, -, -, -, -, -, -, -, -, -, hwrite, hread⟩ := h
  exact ⟨hwrite, hread⟩

theorem of_parts (h : Quiet s) (hsweep : t.sc.sweep = s.sc.sweep) (hpi : t.pi = s.pi) (hgap : t.dr.gap = s.dr.gap)
    (hpass : t.me.pass = s.me.pass) (hpw : t.pw = s.pw) (hblend : t.bu.pass = s.bu.pass) (hjoin : t.bu.join = s.bu.join)
    (hcx : t.cx = s.cx) (heu : t.eu = s.eu) (hli : noLinkBurst t.li.processing) : Quiet t := by
  unfold Quiet
  rw [hsweep, hpi, hgap, hpass, hpw, hblend, hjoin, hcx, heu]
  obtain ⟨h1, h2, h3, h4, h5, h6, h7, h8, h9, h10, -, -⟩ := h
  exact ⟨h1, h2, h3, h4, h5, h6, h7, h8, h9, h10, hli⟩

theorem of_li (h : Quiet s) {l : Link} (hl : noLinkBurst l.processing) : Quiet { s with li := l } :=
  h.of_parts rfl rfl rfl rfl rfl rfl rfl rfl rfl hl

theorem reply (h : Quiet s) {r : Reply} : Quiet (s.reply r) := h.of_li noLinkBurst_none

theorem answer (h : Quiet s) {d : List Byte} : Quiet (s.answer d) := h.reply

theorem refuse (h : Quiet s) {r : Reason} : Quiet (s.refuse r) := h.reply

theorem setTable (h : Quiet s) {t : Table} : Quiet { s with ltc := t } :=
  h.of_parts rfl rfl rfl rfl rfl rfl rfl rfl rfl h.noBurst

theorem setControl (h : Quiet s) {c : Control} (hsweep : c.sweep = s.sc.sweep) : Quiet { s with sc := c } :=
  h.of_parts hsweep rfl rfl rfl rfl rfl rfl rfl rfl h.noBurst

theorem setArbiter (h : Quiet s) {a : Arbiter} : Quiet { s with ma := a } :=
  h.of_parts rfl rfl rfl rfl rfl rfl rfl rfl rfl h.noBurst

theorem ite {c : Prop} [Decidable c] {u : State} (ht : Quiet t) (hu : Quiet u) : Quiet (if c then t else u) := by
  split
  · exact ht
  · exact hu

theorem after_command (h : Quiet s) {c : HostCommand} {p : List Byte} {lenOk : Nat → Bool} {f : State → State}
    (hf : Quiet (f s)) : After Quiet (s.command c p lenOk f) := ite (ite hf h.refuse) h

/-- Rows that are not due while nothing is under way. -/
def notDue : Instr → Bool
  | .secondSlot | .shutterEdge | .frameStart | .line _ _ | .frameEnd | .exportLine | .matchBankTake | .lookup | .solve
  | .judge | .push | .batchOpening | .footprintRead | .hitClaim | .reviveClaim | .missClaim | .admissionClaim
  | .staleCountClaim | .blendTake | .seamFix | .blockWrite | .blendEnd | .retireBehind | .retirementClaim
  | .blendEndClaim | .closureJoin | .joinColumn | .commitAllOpenBlocks | .copyPhase | .saveComplete | .verifyEnd
  | .rollbackReplace | .dirStop | .dirSkip | .dirNext | .dirNextAndStop | .dirSignal | .dirHint | .dirMasks | .dirMark
  | .dirRetireRegion | .dirBlend | .directiveFault => true
  | _ => false

theorem ringWaits_false (h : Quiet s) (r : Ring) : s.ringWaits r = false := by
  obtain ⟨-, -, -, -, -, -, hblend, hjoin, hop, hexport, hwrite, hread⟩ := h
  cases r with
  | bu => simp [State.ringWaits, State.blendWaits, hblend, hjoin]
  | eu => simp [State.ringWaits, State.exportWaits, hexport]
  | cx => simp [State.ringWaits, State.contextWaits, hop]
  | link =>
    unfold State.ringWaits
    dsimp only
    split
    · exact absurd ‹_› (hwrite _ _)
    · exact absurd ‹_› (hread _ _)
    all_goals rfl

theorem secondSlot_idle (h : Quiet s) : s.secondSlot = .next s := by
  obtain ⟨-, -, -, hgap, -⟩ := id h
  have hreader : s.readerWaits = false := by simp [State.readerWaits, hgap]
  have hring : s.ma.rotation.after.find? s.ringWaits = none := List.find?_eq_none.mpr fun r _ => by simp [h.ringWaits_false]
  simp [State.secondSlot, hreader, hring]

theorem exec_notDue (h : Quiet s) {c : Instr} (hc : notDue c = true) : exec c s = .next s := by
  obtain ⟨hsweep, hport, -, hgap, hpass, hpw, hblend, hjoin, hop, hexport, -, -⟩ := id h
  cases c
  case secondSlot => exact h.secondSlot_idle
  case shutterEdge => simp [exec, execShutterEdge, hsweep]
  case frameStart => simp [exec, execFrameStart, State.closeUnended, State.frameStart, hport, hsweep]
  case line => simp [exec, execLine, hport]
  case frameEnd => simp [exec, execFrameEnd, hport]
  case exportLine => simp [exec, execExportLine, hexport]
  case matchBankTake =>
    simp only [exec, execMatchBankTake, hpass, hsweep, Host.Outcome.next.injEq]
    repeat' split
    all_goals rfl
  case lookup | solve | judge | push | batchOpening | footprintRead | staleCountClaim =>
    simp [exec, execLookup, execSolve, execJudge, execPush, execBatchOpening, execFootprintRead, execStaleCountClaim, hpass]
  case hitClaim | reviveClaim | missClaim | admissionClaim =>
    simp [exec, execHitClaim, execReviveClaim, execMissClaim, execAdmissionClaim, State.openPass, hpass]
  case blendTake => simp [exec, execBlendTake, State.deepestPlaced, hpw]
  case seamFix | blockWrite | blendEnd | retireBehind | retirementClaim | blendEndClaim =>
    simp [exec, execSeamFix, execBlockWrite, execBlendEnd, execRetireBehind, execRetirementClaim, execBlendEndClaim, hblend]
  case closureJoin | commitAllOpenBlocks =>
    simp [exec, execClosureJoin, execCommitAllOpenBlocks, State.closingReady, hsweep]
  case joinColumn => simp [exec, execJoinColumn, hjoin]
  case copyPhase | saveComplete | verifyEnd | rollbackReplace =>
    simp [exec, execCopyPhase, execSaveComplete, execVerifyEnd, execRollbackReplace, hop]
  case directiveFault => simp [exec, execDirectiveFault, hgap]
  case dirStop | dirSkip | dirNext | dirNextAndStop | dirSignal | dirHint | dirMasks | dirMark | dirRetireRegion
    | dirBlend =>
    simp [exec, execDirStop, execDirSkip, execDirNext, execDirNextAndStop, execDirSignal, execDirHint, execDirMasks,
      execDirMark, execDirRetireRegion, execDirBlend, State.directiveStep, State.readDirective, hgap]
  all_goals simp [notDue] at hc

theorem firstSlot (h : Quiet s) : exec .firstSlot s = .next s ∨ exec .firstSlot s = .next s.serveRefresh := by
  obtain ⟨-, -, hwaiting, -⟩ := id h
  simp only [exec, execFirstSlot, hwaiting, h.secondSlot_idle]
  cases s.ma.refreshDue <;> simp

/-- The commands that need memory, or a sweep that is not IDLE, are refused (R8). -/
def refused : Instr → Bool
  | .configure _ | .arm _ | .finish _ | .abort _ | .release _ | .resumeAccept _ | .resumeSkip _ | .resumePlace _
  | .resumeRollback _ | .hint _ | .writeDirectives _ | .readDirectives _ | .checkpoint _ | .rollback _ | .exportStart _
  | .exportStop _ => true
  | _ => false

theorem runConfigure (h : Quiet s) (hmem : s.hasMemory = false) {p : List Byte} : Quiet (s.runConfigure p) := by
  unfold State.runConfigure
  dsimp only
  simp only [hmem, Bool.not_false, if_true]
  repeat' split
  all_goals exact h.refuse

theorem runArm (h : Quiet s) (hmem : s.hasMemory = false) {p : List Byte} : Quiet (s.runArm p) := by
  unfold State.runArm
  simp only [hmem, Bool.not_false, if_true]
  repeat' split
  all_goals exact h.refuse

theorem runExport (h : Quiet s) (hmem : s.hasMemory = false) {p : List Byte} : Quiet (s.runExport p) := by
  unfold State.runExport
  dsimp only
  simp only [hmem, Bool.not_false, if_true]
  repeat' split
  all_goals exact h.refuse

theorem exec_refused (h : Quiet s) (hmem : s.hasMemory = false) {c : Instr} (hc : refused c = true) :
    After Quiet (exec c s) := by
  obtain ⟨hsweep, -, -, -, -, -, -, -, -, hexport, -, -⟩ := id h
  cases c
  case configure =>
    show After Quiet (execConfigure _ s)
    exact h.after_command (h.runConfigure hmem)
  case arm =>
    show After Quiet (execArm _ s)
    exact h.after_command (h.runArm hmem)
  case finish =>
    show After Quiet (execFinish _ s)
    exact h.after_command (by simpa [State.runFinish, hsweep, SweepState.canFinish] using h.refuse)
  case abort =>
    show After Quiet (execAbort _ s)
    exact h.after_command (by simpa [hsweep] using h.refuse)
  case release =>
    show After Quiet (execRelease _ s)
    exact h.after_command (by simpa [hsweep] using h.refuse)
  case resumeAccept =>
    show After Quiet (execResumeAccept _ s)
    exact h.after_command (by simpa [State.resume, hsweep] using h.refuse)
  case resumeSkip =>
    show After Quiet (execResumeSkip _ s)
    exact h.after_command (by simpa [State.resume, hsweep] using h.refuse)
  case resumePlace =>
    show After Quiet (execResumePlace _ s)
    exact h.after_command (by simpa [State.resume, hsweep] using h.refuse)
  case resumeRollback =>
    show After Quiet (execResumeRollback _ s)
    exact h.after_command (by simpa [hsweep, SweepState.isHeld] using h.refuse)
  case hint =>
    show After Quiet (execHint _ s)
    exact h.after_command (by simpa [hsweep, SweepState.canFinish] using h.refuse)
  case checkpoint =>
    show After Quiet (execCheckpoint _ s)
    exact h.after_command (by simpa [hsweep, SweepState.canRollBack] using h.refuse)
  case rollback =>
    show After Quiet (execRollback _ s)
    exact h.after_command (by simpa [hsweep, SweepState.canRollBack] using h.refuse)
  case writeDirectives =>
    show After Quiet (execWriteDirectives _ s)
    refine h.after_command (ite h.refuse (ite h.refuse ?_))
    simpa [hmem] using h.refuse
  case readDirectives =>
    show After Quiet (execReadDirectives _ s)
    refine h.after_command (ite h.refuse (ite h.refuse (ite h.refuse ?_)))
    simpa [hmem] using h.refuse
  case exportStart =>
    show After Quiet (execExportStart _ s)
    exact h.after_command (h.runExport hmem)
  case exportStop =>
    show After Quiet (execExportStop _ s)
    exact h.after_command (by simpa [hexport] using h.refuse)
  all_goals simp [refused] at hc

theorem takeInbound (h : Quiet s) {bytes : List Byte} : Quiet (s.takeInbound bytes) := by
  unfold State.takeInbound
  split
  · refine ite h.refuse (ite h ?_)
    split
    · exact h.of_li (noLinkBurst_taken _ _)
    · exact h.refuse
  · exact h
  · exact h

theorem after_transactionStart (h : Quiet s) : After Quiet (execTransactionStart s) :=
  ite h (ite (h.of_li h.noBurst) (h.of_li h.noBurst))

theorem after_transactionEnd (h : Quiet s) {bytes : List Byte} : After Quiet (execTransactionEnd bytes s) := by
  have hended : Quiet { s with li := { s.li with transaction := none } } := h.of_li h.noBurst
  show Quiet _
  split
  · exact ite hended hended.takeInbound
  · exact h

theorem runReadPlacement (h : Quiet s) {depth view : Nat} : Quiet (s.runReadPlacement depth view) := by
  unfold State.runReadPlacement
  (repeat' split) <;> exact h.reply

/-- The link's own rows and the reads: LI answers, or takes a command. -/
def answersOnly : Instr → Bool
  | .transactionStart | .transactionEnd _ | .nop _ | .readIdentity _ | .readStatus _ | .readEvents _
  | .setEventEnables _ | .readLandmark _ | .findLandmarks _ | .examineLandmark _ | .readPlacement _ | .readCoverage _
  | .readClosure _ | .readSlots _ => true
  | _ => false

theorem exec_answersOnly (h : Quiet s) {c : Instr} (hc : answersOnly c = true) : After Quiet (exec c s) := by
  have hdrive (e n : BitVec 14) : Quiet (s.driveEvents e n) := h.of_li h.noBurst
  cases c
  case transactionStart => exact h.after_transactionStart
  case transactionEnd bytes => exact h.after_transactionEnd (bytes := bytes)
  case nop p =>
    show After Quiet (execNop p s)
    exact h.after_command h.answer
  case readIdentity p =>
    show After Quiet (execReadIdentity p s)
    exact h.after_command h.answer
  case readStatus p =>
    show After Quiet (execReadStatus p s)
    exact h.after_command h.answer
  case readEvents p =>
    show After Quiet (execReadEvents p s)
    exact h.after_command (hdrive _ _).answer
  case setEventEnables p =>
    show After Quiet (execSetEventEnables p s)
    exact h.after_command (ite h.refuse (hdrive _ _).answer)
  case readLandmark p =>
    show After Quiet (execReadLandmark p s)
    refine h.after_command ?_
    split
    · exact h.answer
    · exact h.refuse
  case findLandmarks p =>
    show After Quiet (execFindLandmarks p s)
    exact h.after_command (ite h.refuse h.answer)
  case examineLandmark p =>
    show After Quiet (execExamineLandmark p s)
    exact h.after_command h.answer
  case readPlacement p =>
    show After Quiet (execReadPlacement p s)
    exact h.after_command h.runReadPlacement
  case readCoverage p =>
    show After Quiet (execReadCoverage p s)
    exact h.after_command (ite h.refuse h.answer)
  case readClosure p =>
    show After Quiet (execReadClosure p s)
    exact h.after_command h.answer
  case readSlots p =>
    show After Quiet (execReadSlots p s)
    exact h.after_command h.answer
  all_goals simp [answersOnly] at hc

theorem named (h : Quiet s) {p : List Byte} {f : Landmark → State} (hf : ∀ r, Quiet (f r)) : Quiet (s.named p f) := by
  unfold State.named
  refine ite h.refuse (ite h.refuse ?_)
  split
  · exact ite (hf _) h.refuse
  · exact h.refuse

theorem setList (h : Quiet s) {n : Nat} {b : Bool} : Quiet (s.setList n b) := by
  obtain ⟨-, -, -, hgap, -⟩ := id h
  have hclose : s.closeGap = s := by simp [State.closeGap, hgap]
  unfold State.setList
  rw [hclose, ite_self]
  exact h.of_parts rfl rfl rfl rfl rfl rfl rfl rfl rfl h.noBurst

theorem clearFlags (h : Quiet s) : Quiet s.clearFlags := by
  unfold State.clearFlags
  split <;> exact h.setControl rfl

theorem loadMark (h : Quiet s) {u : Bool} {a : MarkAction} {v : Nat} : Quiet (s.loadMark u a v) :=
  ite (h.setControl rfl) (h.setControl rfl)

theorem abortClearStep (h : Quiet s) : After Quiet (execAbortClearStep s) := by
  obtain ⟨-, -, -, hgap, -, -, -, -, hop, hexport, -, -⟩ := id h
  refine ite (show Quiet ((s.abandonBanks.toIdle.raise .aborted).answer []) from ?_) h
  refine ⟨rfl, ?_, ?_, ?_, rfl, rfl, rfl, rfl, ?_, ?_, ?_, ?_⟩
  · simp [State.toIdle, State.abandonBanks]
  · simp [State.toIdle, State.abandonBanks]
  · simp [State.toIdle, hgap]
  · simp [State.toIdle, hop]
  · simp [State.toIdle, hexport]
  · exact noLinkBurst_none.1
  · exact noLinkBurst_none.2

/-- With memory present 0 MiB nothing is set going that would use canvas memory (R8). -/
theorem exec_keeps (h : Quiet s) (hmem : s.hasMemory = false) (c : Instr)
    (hreset : c ≠ .powerOn ∧ c ≠ .resetNAssert ∧ ∀ p, c ≠ .reset p) : After Quiet (exec c s) := by
  obtain ⟨hpower, hpin, hcommand⟩ := hreset
  by_cases hdue : notDue c = true
  · rw [h.exec_notDue hdue]
    exact h
  by_cases hrefused : refused c = true
  · exact h.exec_refused hmem hrefused
  by_cases hanswers : answersOnly c = true
  · exact h.exec_answersOnly hanswers
  cases c
  case powerOn => exact absurd rfl hpower
  case resetNAssert => exact absurd rfl hpin
  case reset p => exact absurd rfl (hcommand p)
  case dieSensingComplete dies =>
    show Quiet _
    split
    · exact ite h h.setArbiter.reply
    · exact h
  case resetNRises => exact h.setArbiter
  case refreshDue => exact ite h h.setArbiter
  case firstSlot =>
    obtain ho | ho := h.firstSlot
    · rw [ho]
      exact h
    · rw [ho]
      exact h.setArbiter
  case setParameters p =>
    show After Quiet (execSetParameters p s)
    refine h.after_command (ite h.refuse (ite h.refuse ?_))
    exact h.of_parts rfl rfl rfl rfl rfl rfl rfl rfl rfl noLinkBurst_none
  case setMasks p =>
    show After Quiet (execSetMasks p s)
    exact h.after_command (h.setControl rfl).answer
  case clearConditions p =>
    show After Quiet (execClearConditions p s)
    exact h.after_command h.clearFlags.answer
  case abortClearStep => exact h.abortClearStep
  case setMark p =>
    show After Quiet (execSetMark p s)
    refine h.after_command ?_
    split
    · exact h.loadMark.answer
    · exact h.refuse
  case readCapture p =>
    show After Quiet (execReadCapture p s)
    exact h.after_command (h.setControl rfl).answer
  case setCaptureAction p =>
    show After Quiet (execSetCaptureAction p s)
    refine h.after_command ?_
    split
    · exact (h.setControl rfl).answer
    · exact h.refuse
  case pinLandmark p =>
    show After Quiet (execPinLandmark p s)
    exact h.after_command (h.named fun r => ite h.answer (ite h.refuse h.setTable.answer))
  case unpinLandmark p =>
    show After Quiet (execUnpinLandmark p s)
    exact h.after_command (h.named fun r => ite h.setTable.answer h.answer)
  case retireLandmark p =>
    show After Quiet (execRetireLandmark p s)
    exact h.after_command (h.named fun r => ite h.refuse h.setTable.answer)
  case retireRegion p =>
    show After Quiet (execRetireRegion p s)
    exact h.after_command (ite h.refuse (ite h.refuse h.setTable.answer))
  case setList p =>
    show After Quiet (execSetList p s)
    refine h.after_command ?_
    split
    · exact ite h.refuse h.setList.answer
    · exact h.refuse
  case retireRegionClaim =>
    show Quiet _
    split
    · exact ite h (h.setTable (t := _))
    · exact h
  all_goals simp [notDue, refused, answersOnly] at hdue hrefused hanswers

end Quiet
/-! ### Every step answers, and memory, configuration and work still agree -/

namespace MemoryReady

variable {s t : State}

theorem memoryFits (h : MemoryReady s) (hmem : s.hasMemory = true) : s.memoryFits = true := by
  obtain ⟨-, hfits, -⟩ := h
  simp [State.memoryFits, hmem, hfits hmem]

theorem access_next {u : State} (hfits : s.memoryFits = true) : ∃ t, s.access u = .next t :=
  ⟨u, access_next_iff.mpr ⟨hfits, rfl⟩⟩

theorem secondSlot_next (hfits : s.memoryFits = true) : ∃ t, s.secondSlot = .next t := by
  unfold State.secondSlot
  split
  · exact access_next hfits
  · split
    · exact access_next hfits
    · exact ⟨s, rfl⟩

theorem granted_next (hfits : s.memoryFits = true) (cells : List Host.Cell) (f : State → State) :
    ∃ t, s.granted cells f = .next t := by
  unfold State.granted
  split
  · exact ⟨_, rfl⟩
  · exact access_next hfits

theorem firstSlot_next (hfits : s.memoryFits = true) : ∃ t, exec .firstSlot s = .next t := by
  simp only [exec, execFirstSlot]
  split
  · exact access_next hfits
  · split
    · exact ⟨_, rfl⟩
    · exact secondSlot_next hfits

/-- The four rows that access canvas memory; every other row answers a next state from any state. -/
theorem exec_next (h : MemoryReady s) (c : Instr) : ∃ t, exec c s = .next t := by
  cases hmem : s.hasMemory with
  | true =>
    have hfits := h.memoryFits hmem
    cases c
    case firstSlot => exact firstSlot_next hfits
    case secondSlot => exact secondSlot_next hfits
    case line luma chroma =>
      simp only [exec, execLine]
      split
      · exact granted_next hfits _ _
      · exact ⟨s, rfl⟩
    case frameEnd =>
      simp only [exec, execFrameEnd]
      split
      · exact granted_next hfits _ _
      · exact ⟨s, rfl⟩
    all_goals exact ⟨_, rfl⟩
  | false =>
    have hquiet : Quiet s := h.2.2 hmem
    cases c
    case firstSlot =>
      obtain ho | ho := hquiet.firstSlot
      · exact ⟨_, ho⟩
      · exact ⟨_, ho⟩
    case secondSlot | line | frameEnd => exact ⟨s, hquiet.exec_notDue rfl⟩
    all_goals exact ⟨_, rfl⟩

theorem quiet_fresh (h : t.sc = Control.empty) (hpi : t.pi = Intake.empty) (hdr : t.dr = Reader.empty)
    (hme : t.me = Matcher.empty) (hpw : t.pw = []) (hbu : t.bu = Blender.empty) (hop : t.cx.op = .none)
    (heu : t.eu = Export.empty) (hli : t.li.processing = none) : Quiet t := by
  unfold Quiet
  rw [h, hpi, hdr, hme, hpw, hbu, hop, heu, hli]
  exact ⟨rfl, rfl, rfl, rfl, rfl, rfl, rfl, rfl, rfl, rfl, noLinkBurst_none⟩

/-- After a row that keeps presence map, sensing, and a configuration of the same size. -/
theorem of_kept (h : MemoryReady s) (hdies : t.ma.dies = s.ma.dies) (hsensing : t.ma.sensing = s.ma.sensing)
    (hgeo : t.geo = s.geo ∨
      s.ma.sensing = none ∧ (s.hasMemory = true → t.geo.fitsIn (presentBytes s.ma.dies) = true))
    (hquiet : s.hasMemory = false → Quiet t) : MemoryReady t := by
  obtain ⟨hsense, hfits, -⟩ := h
  have hmem : t.hasMemory = s.hasMemory := by simp [State.hasMemory, hdies]
  refine ⟨fun hs => ?_, fun hm => ?_, fun hm => hquiet (hmem ▸ hm)⟩
  · rw [hsensing] at hs
    obtain ⟨hno, hdefault⟩ := hsense hs
    obtain hgeo | ⟨hnone, -⟩ := hgeo
    · exact ⟨hmem ▸ hno, hgeo ▸ hdefault⟩
    · simp [hnone] at hs
  · obtain hgeo | ⟨-, hfit⟩ := hgeo
    · rw [hgeo, hdies]
      exact hfits (hmem ▸ hm)
    · rw [hdies]
      exact hfit (hmem ▸ hm)

theorem sensing_of_delivers {c : HostCommand} {p : List Byte} (h : s.delivers c p = true) : s.ma.sensing = none := by
  unfold State.delivers at h
  simpa using (Bool.and_eq_true_iff.mp h).1

/-- A reset of the whole part (R190). -/
theorem wholeReset (s : State) (cause : ResetCause) (low : Bool) (txn : Option Reply) :
    MemoryReady (s.wholeReset cause low txn) :=
  have hnone : (s.wholeReset cause low txn).hasMemory = false := show (presentUnits 0#4 != 0) = false by decide
  ⟨fun _ => ⟨hnone, rfl⟩, fun h => by simp [hnone] at h, fun _ => quiet_fresh rfl rfl rfl rfl rfl rfl rfl rfl rfl⟩

theorem commandReset (h : MemoryReady s) (hsensing : s.ma.sensing = none) : MemoryReady s.commandReset :=
  h.of_kept rfl rfl (.inr ⟨hsensing, fun hmem => default_fitsIn hmem⟩) fun _ =>
    quiet_fresh rfl rfl rfl rfl rfl rfl rfl rfl rfl

theorem dieSensing (h : MemoryReady s) (dies : BitVec 4) : After MemoryReady (execDieSensingComplete dies s) := by
  show MemoryReady _
  split
  · rename_i cause hcause
    split
    · exact h
    · obtain ⟨hno, hdefault⟩ := h.1 (by simp [hcause])
      refine ⟨fun hs => by simp at hs, fun hmem => ?_, fun _ => (h.2.2 hno).setArbiter.reply⟩
      show s.geo.fitsIn (presentBytes dies) = true
      rw [hdefault]
      exact default_fitsIn hmem
  · exact h

theorem configure_geo {p : List Byte} (h : exec (.configure p) s = .next t) : t.geo = s.geo ∨
    s.ma.sensing = none ∧ (s.hasMemory = true → t.geo.fitsIn (presentBytes s.ma.dies) = true) := by
  obtain rfl | rfl | ⟨hdelivers, -, rfl⟩ := command_cases (show execConfigure p s = .next t from h)
  · exact .inl rfl
  · exact .inl rfl
  · unfold State.runConfigure
    dsimp only
    repeat' split
    case isFalse.isFalse.isFalse.isFalse.isFalse.isFalse.isFalse.isFalse hfits =>
      exact .inr ⟨sensing_of_delivers hdelivers, fun _ => by simpa [State.configure] using hfits⟩
    all_goals exact .inl rfl

theorem arm_fitsIn (s : State) (dir : Direction) (col row m : Nat) :
    (s.arm dir col row).geo.fitsIn m = s.geo.fitsIn m := by
  have hgeo : s.closeGap.geo = s.geo := by simp
  rw [← hgeo]
  rfl

theorem arm_geo (h : MemoryReady s) {p : List Byte} (ho : exec (.arm p) s = .next t) : t.geo = s.geo ∨
    s.ma.sensing = none ∧ (s.hasMemory = true → t.geo.fitsIn (presentBytes s.ma.dies) = true) := by
  obtain rfl | rfl | ⟨hdelivers, -, rfl⟩ := command_cases (show execArm p s = .next t from ho)
  · exact .inl rfl
  · exact .inl rfl
  · refine .inr ⟨sensing_of_delivers hdelivers, fun hmem => ?_⟩
    rw [← h.2.1 hmem]
    unfold State.runArm
    repeat' split
    case h_2.isFalse.isFalse.isFalse =>
      exact arm_fitsIn s _ _ _ _
    all_goals rfl

theorem secondSlot_sensing (h : s.secondSlot = .next t) : t.ma.sensing = s.ma.sensing := by
  obtain ⟨-, -, rfl⟩ | ⟨r, -, -, rfl⟩ | rfl := secondSlot_cases h
  · rfl
  · rw [grantRing_ma]
  · rfl

theorem sensing_kept {c : Instr} (h : exec c s = .next t) (hpower : c ≠ .powerOn) (hpin : c ≠ .resetNAssert)
    (hdies : ∀ d, c ≠ .dieSensingComplete d) : t.ma.sensing = s.ma.sensing := by
  cases c
  case powerOn => exact absurd rfl hpower
  case resetNAssert => exact absurd rfl hpin
  case dieSensingComplete d => exact absurd rfl (hdies d)
  case reset p => obtain rfl | rfl | ⟨-, -, rfl⟩ := command_cases (show execReset p s = .next t from h) <;> rfl
  case resetNRises =>
    cases h
    rfl
  case refreshDue =>
    simp only [exec, execRefreshDue, Host.Outcome.next.injEq] at h
    subst h
    split <;> rfl
  case firstSlot =>
    obtain ⟨-, -, rfl⟩ | rfl | h := firstSlot_cases h
    · rfl
    · rfl
    · exact secondSlot_sensing h
  case secondSlot => exact secondSlot_sensing h
  all_goals
    have hsame : t.ma = s.ma := exec_same (p := .ma) h (by simp [changedBy])
    rw [hsame]

theorem exec_keeps (c : Instr) {s t : State} (h : MemoryReady s) (ho : exec c s = .next t) : MemoryReady t := by
  by_cases hpower : c = .powerOn
  · subst hpower
    cases ho
    exact wholeReset ..
  by_cases hpin : c = .resetNAssert
  · subst hpin
    cases ho
    exact wholeReset ..
  by_cases hdie : ∃ d, c = .dieSensingComplete d
  · obtain ⟨d, rfl⟩ := hdie
    exact (h.dieSensing d).next ho
  by_cases hreset : ∃ p, c = .reset p
  · obtain ⟨p, rfl⟩ := hreset
    obtain rfl | rfl | ⟨hdelivers, -, rfl⟩ := command_cases (show execReset p s = .next t from ho)
    · exact h
    · exact h.of_kept rfl rfl (.inl rfl) fun hmem => (h.2.2 hmem).refuse
    · exact h.commandReset (sensing_of_delivers hdelivers)
  have hdies : ∀ d, c ≠ .dieSensingComplete d := fun d hd => hdie ⟨d, hd⟩
  refine h.of_kept (dies_kept ho hpower hpin hdies) (sensing_kept ho hpower hpin hdies) ?_ fun hmem =>
    ((h.2.2 hmem).exec_keeps hmem c ⟨hpower, hpin, fun p hp => hreset ⟨p, hp⟩⟩).next ho
  cases c
  case powerOn => exact absurd rfl hpower
  case resetNAssert => exact absurd rfl hpin
  case reset p => exact absurd ⟨p, rfl⟩ hreset
  case configure p => exact configure_geo ho
  case arm p => exact h.arm_geo ho
  all_goals exact .inl (exec_same (p := .geo) ho (by simp [changedBy]))

end MemoryReady

/-- Settles O2. -/
theorem everyStepAnswersANextState : Obligations.EveryStepAnswersANextState := by
  intro s h
  unfold step
  split
  · rename_i c rest _
    have h' : MemoryReady { s with pending := rest } := h
    obtain ⟨t, ht⟩ := h'.exec_next c
    exact ⟨t, ht, MemoryReady.exec_keeps c h' ht⟩
  · exact ⟨s, rfl, h⟩
end Sys2Proof.Machine

/-! ### Resets and the first slot (R7, R11, R190, R191) -/

namespace Sys2Proof.Machine

/-- A command that LI has taken, with a length it allows, is answered by its own rule. -/
theorem command_delivered {s : State} {c : HostCommand} {p : List Byte} {lenOk : Nat → Bool} {f : State → State}
    (h : s.delivers c p = true) (hlen : lenOk p.length = true) : s.command c p lenOk f = .next (f s) := by
  unfold State.command
  rw [if_pos h, if_pos hlen]

theorem lawsAtReset : MemoryReady State.reset ∧ CountLaw State.reset ∧ AttnLaw State.reset ∧ HeldLaw State.reset ∧
    State.reset.mem.wf ∧ BinLaw State.reset ∧ TableLaw State.reset ∧ WindowLaw State.reset ∧ SizeLaw State.reset ∧
    ReaderLaw State.reset ∧ BufferLaw State.reset := by
  have hmem : State.reset.hasMemory = true := by decide
  have happly : ApplyLaw State.reset := fun _ _ h => by cases h
  refine ⟨⟨fun h => (nomatch h), fun _ => default_fitsIn hmem, fun h => by simp [hmem] at h⟩, rfl, ?_,
    fun _ h => (nomatch h), .nil, listsShort_replicate Table.empty 128, (tableLaw_iff _).mpr Table.Counted.empty,
    (windowLaw_iff _).mpr ⟨.nil, happly⟩, ⟨List.length_replicate, List.length_replicate, happly⟩, ?_, ?_⟩
  · constructor
    · intro h
      cases h
    · rintro ⟨e, he, -⟩
      exact absurd he (by simp [State.reset])
  · refine ⟨Nat.zero_le _, Nat.zero_le _, Nat.zero_le _, fun _ h => (nomatch h), fun h => (nomatch h)⟩
  · exact ⟨Nat.zero_le _, by decide, fun _ => ⟨rfl, rfl⟩⟩

/-- Settles O11: each value by computation, the laws by `lawsAtReset`. -/
theorem resetValuesAndLawsAtReset : Obligations.ResetValuesAndLawsAtReset := by
  refine ⟨rfl, rfl, rfl, rfl, rfl, rfl, rfl, rfl, rfl, rfl, rfl, rfl, rfl, rfl, rfl, fun b => ?_, rfl, rfl, rfl, rfl, rfl,
    rfl, rfl, rfl, rfl, rfl, rfl, rfl, rfl, rfl, rfl, rfl, rfl, rfl, rfl, rfl, rfl, rfl, rfl, rfl, rfl, rfl, rfl, rfl, rfl, rfl,
    rfl, rfl, rfl, rfl, rfl, rfl, rfl, rfl, rfl, rfl, rfl, rfl, lawsAtReset⟩
  cases b <;> exact ⟨rfl, rfl, rfl, rfl⟩

/-- Settles O12. -/
theorem powerPinAndSensing : Obligations.PowerPinAndSensing := by
  refine ⟨fun s => ⟨rfl, rfl, rfl⟩, fun dies s => ⟨fun cause hcause hlow => ?_, fun hlow => ?_, fun hnone => ?_⟩⟩
  · simp [exec, execDieSensingComplete, hcause, hlow, State.reply]
  · simp only [exec, execDieSensingComplete, hlow, if_true]
    split <;> rfl
  · simp [exec, execDieSensingComplete, hnone]

theorem endSave_results (c : Context) :
    c.endSave.lastResult = c.lastResult ∧ c.endSave.lastSlot = c.lastSlot := by
  unfold Context.endSave
  split <;> simp [Context.setSlot] <;> split <;> exact ⟨rfl, rfl⟩

theorem endSave_slot (c : Context) (k : SlotId) : c.endSave.slot k =
    if c.op = .quiet k ∨ (∃ v, c.op = .copy k v) then ⟨.empty, none, (c.slot k).image⟩ else c.slot k := by
  unfold Context.endSave
  split
  all_goals
    rename_i h
    rw [h]
  · rename_i j
    cases j <;> cases k <;> simp [Context.setSlot, Context.slot, Slot.givenUp]
  · rename_i j v
    cases j <;> cases k <;> simp [Context.setSlot, Context.slot, Slot.givenUp]
  all_goals simp

/-- Settles O13. -/
theorem resetCommandKeepsMemoryAndSlots : Obligations.ResetCommandKeepsMemoryAndSlots := by
  intro s h
  refine ⟨s.commandReset, command_delivered h rfl, rfl, rfl, (endSave_results s.cx).1, (endSave_results s.cx).2,
    fun k => Eq.trans ?_ (endSave_slot s.cx k)⟩
  cases k <;> rfl

theorem access_of_fits {s u : State} (h : s.memoryFits = true) : s.access u = .next u := if_pos h

/-- Settles O14. -/
theorem firstSlotOrder : Obligations.FirstSlotOrder := by
  intro s
  refine ⟨fun hwaiting hfits => ?_, fun hwaiting hdue => ?_, fun hwaiting hdue => ?_⟩
  · simp only [exec, execFirstSlot, List.isEmpty_eq_false_iff.mpr hwaiting, Bool.not_false, if_true]
    exact access_of_fits hfits
  · simp [exec, execFirstSlot, hwaiting, hdue, State.serveRefresh]
  · simp [exec, execFirstSlot, execSecondSlot, hwaiting, hdue]

end Sys2Proof.Machine

/-! ### The second slot and its bursts (R10, R12, R13, R14, R16) -/

namespace Sys2Proof.Machine

/-! #### Who waits -/

theorem hasRows_iff (b : BlendPass) (g : Geometry) :
    b.hasRows g = true ↔ max 0 b.y0 ≤ min ((g.ch : Int) - 1) (b.y0 + g.fh - 1) := decide_eq_true_iff

theorem done_iff (t : Transfer) (os : List Output) : t.done os = false ↔ t.written < os.length := by
  simp [Transfer.done]

theorem start_done_iff (os : List Output) : Transfer.start.done os = false ↔ os ≠ [] := by
  rw [done_iff]
  exact List.length_pos_iff

section

variable {s : State} {b : BlendPass}

theorem blendWaits_of_pass (hjoin : s.bu.join = none) (hpass : s.bu.pass = some b) :
    s.ringWaits .bu = s.passWaits b := by
  simp [State.ringWaits, State.blendWaits, hjoin, hpass]

theorem blendWaits_of_join {j : Join} (hjoin : s.bu.join = some j) : s.ringWaits .bu = s.joinWaits j := by
  simp [State.ringWaits, State.blendWaits, hjoin]

theorem blendWaits_stopped (hstop : s.stopping = true) (hjoin : ∀ j, s.bu.join = some j → j.move = ⟨0, []⟩)
    (hpass : ∀ b, s.bu.pass = some b →
      (∀ read, b.stage ≠ .measuring read) ∧ ∀ a rest t, b.stage ≠ .inBlock a rest t) : s.ringWaits .bu = false := by
  cases hj : s.bu.join with
  | some j =>
    rw [blendWaits_of_join hj]
    simp [State.joinWaits, hstop, hjoin j hj, Transfer.start]
  | none =>
    cases hb : s.bu.pass with
    | none => simp [State.ringWaits, State.blendWaits, hj, hb]
    | some b =>
      obtain ⟨hmeasuring, hblock⟩ := hpass b hb
      rw [blendWaits_of_pass hj hb]
      unfold State.passWaits
      split
      · exact absurd ‹_› (hmeasuring _)
      · simp [hstop]
      · exact absurd ‹_› (hblock _ _ _)
      all_goals rfl

theorem passWaits_measuring {read : List Byte} {r : Placement} (hstage : b.stage = .measuring read)
    (hrecord : s.record b.serial = some r) : s.passWaits b = true ↔ read.length < (s.sampleAddrs b r).length := by
  simp [State.passWaits, hstage, hrecord]

theorem passWaits_inBlock {a : Nat} {rest : List Nat} {t : Transfer} (hstage : b.stage = .inBlock a rest t) :
    s.passWaits b = true ↔ t.written < (s.blockOutputs b a).length := by
  simp [State.passWaits, hstage, done_iff]

theorem passWaits_writing {a : Nat} {rest : List Nat} (hstage : b.stage = .writing (a :: rest)) (hstop : s.stopping = false) :
    s.passWaits b = true ↔ s.coverageAt (s.geo.blockAt a) ≠ .committed ∧
      max 0 b.y0 ≤ min ((s.geo.ch : Int) - 1) (b.y0 + s.geo.fh - 1) ∧ s.blockOutputs b a ≠ [] := by
  rw [← hasRows_iff, ← start_done_iff]
  simp [State.passWaits, hstage, hstop, State.passesBlock, and_assoc]

theorem joinWaits_iff {j : Join} (h : s.stopping = false ∨ j.move ≠ ⟨0, []⟩) :
    s.joinWaits j = true ↔ j.move.written < (s.joinOutputs j j.next).length := by
  have hgoes : (decide (j.move ≠ .start) || !s.stopping) = true := by
    obtain h | h := h
    · simp [h]
    · simp [Transfer.start, h]
  rw [State.joinWaits, hgoes, Bool.true_and, Bool.not_eq_true', done_iff]

theorem contextWaits_of_start {k : SlotId}
    (h : (∃ v, s.cx.op = .copy k v) ∨ (s.cx.op = .verify k ∧ (s.cx.slot k).state = .valid)) (hmoved : s.cx.moved = 0) :
    s.ringWaits .cx = true := by
  have himage : s.imageMoved = false := by simp [State.imageMoved, hmoved, imageBytes]
  obtain ⟨v, hop⟩ | ⟨hop, hvalid⟩ := h
  · simp [State.ringWaits, State.contextWaits, hop, himage]
  · simp [State.ringWaits, State.contextWaits, hop, himage, hvalid]

theorem contextWaits_ended
    (h : ((∀ k v, s.cx.op ≠ .copy k v) ∧ ∀ k, s.cx.op ≠ .verify k) ∨ 8192 ≤ s.cx.moved) : s.ringWaits .cx = false := by
  show s.contextWaits = false
  unfold State.contextWaits
  obtain ⟨hcopy, hverify⟩ | hmoved := h
  · split
    · exact absurd ‹_› (hcopy _ _)
    · exact absurd ‹_› (hverify _)
    all_goals rfl
  · have himage : s.imageMoved = true := by
      have : imageBytes ≤ 8192 := Nat.succ_le_succ (Nat.min_le_right _ _)
      simpa [State.imageMoved] using this.trans hmoved
    split <;> simp [himage]

/-! #### The grant -/

/-- The first ring member with a burst waiting, in the order after the pointer, is granted (R12). -/
theorem secondSlot_grants {before after : List Ring} {r : Ring} (hreader : s.readerWaits = false)
    (horder : s.ma.rotation.after = before ++ r :: after) (hbefore : ∀ q ∈ before, s.ringWaits q = false)
    (hwaits : s.ringWaits r = true) (hfits : s.memoryFits = true) : exec .secondSlot s = .next (s.grantRing r) := by
  have hfirst : s.ma.rotation.after.find? s.ringWaits = some r := by
    rw [horder, List.find?_append, List.find?_eq_none.mpr fun q hq => by simp [hbefore q hq], List.find?_cons, hwaits]
    rfl
  simp only [exec, execSecondSlot, State.secondSlot, hreader, hfirst]
  exact access_of_fits hfits

theorem secondSlot_idles (hreader : s.readerWaits = false) (h : ∀ r, s.ringWaits r = false) :
    exec .secondSlot s = .next s := by
  have hnone : s.ma.rotation.after.find? s.ringWaits = none := List.find?_eq_none.mpr fun r _ => by simp [h r]
  simp [exec, execSecondSlot, State.secondSlot, hreader, hnone]

theorem grantRing_join {j : Join} (hjoin : s.bu.join = some j) : s.grantRing .bu = { s with
    ma := { s.ma with rotation := .bu }
    mem := s.mem.writeAll (j.move.cells (s.joinOutputs j j.next))
    bu := { s.bu with join := some { j with move := s.advance j.move (s.joinOutputs j j.next) } } } := by
  simp only [State.grantRing, State.blendBurst, hjoin]
  rfl

theorem grantRing_measure {read : List Byte} {r : Placement} (hjoin : s.bu.join = none) (hpass : s.bu.pass = some b)
    (hstage : b.stage = .measuring read) (hrecord : s.record b.serial = some r) : s.grantRing .bu = { s with
    ma := { s.ma with rotation := .bu }
    bu := { s.bu with pass := some { b with
      stage := .measuring (read ++ (((s.sampleAddrs b r).drop read.length).take 64).map s.mem.read) } } } := by
  have hrecord' : State.record { s with ma := { s.ma with rotation := .bu } } b.serial = some r := hrecord
  simp only [State.grantRing, State.blendBurst, hjoin, hpass, hstage, State.burstMeasure, hrecord', State.setBlend]
  congr 1

theorem grantRing_block {a : Nat} {rest : List Nat} {t : Transfer} (hjoin : s.bu.join = none) (hpass : s.bu.pass = some b)
    (hstage : (b.stage = .writing (a :: rest) ∧ t = ⟨0, []⟩) ∨ b.stage = .inBlock a rest t) : s.grantRing .bu = { s with
    ma := { s.ma with rotation := .bu }
    mem := s.mem.writeAll (t.cells (s.blockOutputs b a))
    bu := { s.bu with pass := some { b with stage := .inBlock a rest (s.advance t (s.blockOutputs b a)) } } } := by
  obtain ⟨hstage, rfl⟩ | hstage := hstage
  all_goals
    simp only [State.grantRing, State.blendBurst, hjoin, hpass, hstage, State.burstBlock, State.setBlend]
    congr 1

theorem grantRing_linkWrite {offset : Nat} {bytes : List Byte} (h : s.li.processing = some (.linkWrite offset bytes)) :
    s.grantRing .link = { s with
      ma := { s.ma with rotation := .link }
      mem := s.mem.writeAll (cellsAt (s.directiveBase + 4 * offset) bytes)
      li := { s.li with reply := ⟨.done, []⟩, processing := none } } := by
  simp only [State.grantRing, State.linkBurst, h]
  rfl

theorem grantRing_linkRead {offset count : Nat} (h : s.li.processing = some (.linkRead offset count)) :
    s.grantRing .link = { s with
      ma := { s.ma with rotation := .link }
      li := { s.li with
        reply := ⟨.done, s.mem.bytes (s.directiveBase + 4 * offset) (4 * count)⟩, processing := none } } := by
  simp only [State.grantRing, State.linkBurst, h]
  rfl

end

/-! #### What a burst reads and writes -/

theorem transfer_reads {s : State} {t : Transfer} {os : List Output}
    (h : t.held.length < (sourcesOf (t.chunk os)).length) : t.cells os = [] ∧
      s.advance t os = ⟨t.written,
        t.held ++ (((sourcesOf (t.chunk os)).drop t.held.length).take 64).map s.mem.read⟩ := by
  have hreads : t.reads os = true := decide_eq_true h
  exact ⟨if_pos hreads, if_pos hreads⟩

theorem transfer_writes {s : State} {t : Transfer} {os : List Output} (hlocal : ∀ o ∈ os, o.Local) (read : Nat → Byte)
    (h : t.held = (sourcesOf (t.chunk os)).map read) :
    t.cells os = (t.chunk os).map (fun o => (o.target, o.form read)) ∧
      s.advance t os = ⟨t.written + (t.chunk os).length, []⟩ := by
  have hreads : t.reads os = false := by simp [Transfer.reads, h]
  exact ⟨Transfer.cells_of_held read hlocal h, by simp [State.advance, hreads]⟩

theorem refreshDue_row (s : State) :
    (s.ma.sensing = none → exec .refreshDue s = .next { s with ma := { s.ma with refreshDue := true } }) ∧
      (s.ma.sensing.isSome = true → exec .refreshDue s = .next s) :=
  ⟨fun h => by simp [exec, execRefreshDue, h], fun h => by simp [exec, execRefreshDue, h]⟩

/-- Settles O15: the waiting conditions, the grant to the first of the ring, and what the granted burst does. -/
theorem secondSlotAndRefresh : Obligations.SecondSlotAndRefresh := by
  refine ⟨fun s => ⟨fun hreader hfits => ?_, blendWaits_stopped, fun b hjoin hpass => ⟨?_, ?_, ?_⟩, fun j hjoin h => ?_,
    fun k => contextWaits_of_start, contextWaits_ended, secondSlot_idles, ?_⟩, ?_, refreshDue_row⟩
  · simp only [exec, execSecondSlot, State.secondSlot, hreader, if_true]
    exact access_of_fits hfits
  · intro read r hstage hrecord
    rw [blendWaits_of_pass hjoin hpass]
    exact passWaits_measuring hstage hrecord
  · intro a rest t hstage
    rw [blendWaits_of_pass hjoin hpass]
    exact passWaits_inBlock hstage
  · intro a rest hstage hstop
    rw [blendWaits_of_pass hjoin hpass]
    exact passWaits_writing hstage hstop
  · rw [blendWaits_of_join hjoin]
    exact joinWaits_iff h
  · intro before r after named hreader horder hbefore hwaits hfits hnamed
    have hgrant := secondSlot_grants hreader horder hbefore hwaits hfits
    subst hnamed
    refine ⟨?_, ?_, ?_, ?_, ?_, ?_⟩
    · rintro rfl
      exact hgrant
    · rintro j os rfl hjoin rfl
      rw [hgrant, grantRing_join hjoin]
    · rintro b rfl hjoin hpass
      refine ⟨fun read rec hstage hrecord => ?_, fun a rest t os hstage hos => ?_⟩
      · rw [hgrant, grantRing_measure hjoin hpass hstage hrecord]
      · rw [hgrant, grantRing_block hjoin hpass hstage, hos]
    · rintro rfl
      exact hgrant
    · rintro offset bytes rfl h
      rw [hgrant, grantRing_linkWrite h]
    · rintro offset count rfl h
      rw [hgrant, grantRing_linkRead h]
  · rintro s t os chunk addrs hos rfl rfl
    have hlocal : ∀ o ∈ os, o.Local := by
      obtain ⟨j, i, rfl⟩ | ⟨b, a, rfl⟩ := hos
      · exact s.joinOutputs_local j i
      · exact s.blockOutputs_local b a
    exact ⟨fun h => transfer_reads h, fun read h => transfer_writes hlocal read h⟩

end Sys2Proof.Machine

/-! ### The link and the commands without checks of their own (R126, R127, R148, R183 to R189) -/

namespace Sys2Proof.Machine

/-! #### Transactions (R184, R185) -/

theorem linkBusy_iff (s : State) :
    s.linkBusy = true ↔ s.li.processing.isSome = true ∨ s.ma.sensing.isSome = true := by simp [State.linkBusy]

theorem linkBusy_of_none {s : State} (hprocessing : s.li.processing = none) (hsensing : s.ma.sensing = none) :
    s.linkBusy = false := by simp [State.linkBusy, hprocessing, hsensing]

/-- A transaction whose outbound part was not PENDING, with LI free: what came in is looked at. -/
theorem transactionEnd_takes {s : State} {out : Reply} (bytes : List Byte) (hout : s.li.transaction = some out)
    (hstatus : out.status ≠ .pending) (hprocessing : s.li.processing = none) (hsensing : s.ma.sensing = none) :
    exec (.transactionEnd bytes) s = .next
      (State.takeInbound { s with li := { s.li with transaction := none } } bytes) := by
  have hfree : State.linkBusy { s with li := { s.li with transaction := none } } = false :=
    linkBusy_of_none hprocessing hsensing
  simp [exec, execTransactionEnd, hout, hstatus, hfree]

theorem takeInbound_long (s : State) (code n : Byte) (rest : List Byte) (h : 80 < n.toNat) :
    s.takeInbound (code :: n :: rest) = s.refuse .badLength := if_pos h

theorem takeInbound_short (s : State) (code n : Byte) (rest : List Byte) (hn : n.toNat ≤ 80) (h : rest.length < n.toNat) :
    s.takeInbound (code :: n :: rest) = s := by
  simp [State.takeInbound, Nat.not_lt.mpr hn, h]

theorem takeInbound_none (s : State) (bytes : List Byte) (h : bytes.length < 2) : s.takeInbound bytes = s := by
  match bytes, h with
  | [], _ => rfl
  | [_], _ => rfl
  | _ :: _ :: _, h => simp at h

theorem takeInbound_take (s : State) {code n : Byte} {rest p : List Byte} {c : HostCommand} (hn : n.toNat ≤ 80)
    (hlen : n.toNat ≤ rest.length) (h : linkTake code.toNat (rest.take n.toNat) = .take c p) :
    s.takeInbound (code :: n :: rest) = { s with li := { s.li with processing := some (.taken c p) } } := by
  simp [State.takeInbound, Nat.not_lt.mpr hn, Nat.not_lt.mpr hlen, h]

theorem takeInbound_refuse (s : State) {code n : Byte} {rest : List Byte} {r : Reason} (hn : n.toNat ≤ 80)
    (hlen : n.toNat ≤ rest.length) (h : linkTake code.toNat (rest.take n.toNat) = .refuse r) :
    s.takeInbound (code :: n :: rest) = s.refuse r := by
  simp [State.takeInbound, Nat.not_lt.mpr hn, Nat.not_lt.mpr hlen, h]

/-- A refusal while no command is being processed changes the reply register alone. -/
theorem refuse_idle {s : State} (h : s.li.processing = none) (r : Reason) :
    s.refuse r = { s with li := { s.li with reply := ⟨.refused, [byteOf r.code]⟩ } } := by
  simp [State.refuse, State.reply, ← h]

/-- Settles O16. -/
theorem transactionsTakeCommands : Obligations.TransactionsTakeCommands := by
  refine ⟨fun s => ⟨fun hnone hprocessing hsensing => ?_, fun hnone hbusy => ?_, fun hopen => ?_⟩,
    fun s out hout => ⟨fun bytes hpending => ?_, fun hstatus hprocessing hsensing => ?_⟩⟩
  · simp [exec, execTransactionStart, hnone, linkBusy_of_none hprocessing hsensing, Reply.empty]
  · simp [exec, execTransactionStart, hnone, (linkBusy_iff s).mpr hbusy]
  · simp [exec, execTransactionStart, hopen]
  · simp [exec, execTransactionEnd, hout, hpending]
  · have htakes (bytes : List Byte) := transactionEnd_takes bytes hout hstatus hprocessing hsensing
    refine ⟨fun code n rest hn => ?_, fun bytes hlen => ?_, fun code n rest hn hlen => ?_,
      fun code n rest hn hlen => ⟨fun c p htake => ?_, fun r hrefuse => ?_⟩⟩
    · rw [htakes, takeInbound_long _ _ _ _ hn, refuse_idle (by exact hprocessing)]
      rfl
    · rw [htakes, takeInbound_none _ _ hlen]
    · rw [htakes, takeInbound_short _ _ _ _ hn hlen]
    · rw [htakes, takeInbound_take _ hn hlen htake]
    · rw [htakes, takeInbound_refuse _ hn hlen hrefuse, refuse_idle (by exact hprocessing)]

/-- Settles O17, by the rows of the command table. -/
theorem commandCodesNameTheirCommands : Obligations.CommandCodesNameTheirCommands := by
  refine ⟨fun p => by simp [linkTake], fun code p _ hcode => ?_, rfl, fun rest => ⟨rfl, rfl, rfl, rfl, fun m hm => ?_⟩⟩
  · unfold linkTake
    split
    case h_38 => rfl
    all_goals simp at hcode
  · show resumeTake (m :: rest) = _
    unfold resumeTake
    dsimp only
    split
    case h_5 => rfl
    all_goals omega

/-! #### Reads (R148, R183, R187, R189) -/

@[simp] theorem leBytes_length (k n : Nat) : (leBytes k n).length = k := by
  induction k generalizing n with
  | zero => rfl
  | succ k ih => exact congrArg (· + 1) (ih _)

@[simp] theorem leSigned_length (k : Nat) (z : Int) : (leSigned k z).length = k := leBytes_length k _

/-- A command of no parameters that answers with data. -/
theorem command_answers {s : State} {c : HostCommand} {lenOk : Nat → Bool} {f : State → State} {data : List Byte}
    (h : s.delivers c [] = true) (hlen : lenOk 0 = true) (hf : f s = s.answer data) :
    s.command c [] lenOk f = .next { s with li := { s.li with reply := ⟨.done, data⟩, processing := none } } := by
  rw [command_delivered h hlen, hf]
  rfl

theorem levels_byte (pace cue : Bool) :
    byteOf (pace.toNat + 2 * cue.toNat) = byteOf ((if pace then 1 else 0) + if cue then 2 else 0) := by
  cases pace <;> cases cue <;> rfl

theorem statusData_length (s : State) : s.statusData.length = 59 := by
  have hleading : s.newestLeading.length = 2 := by
    unfold State.newestLeading
    split <;> simp
  have hfault : (leOrFFFF s.dr.fault).length = 2 := by
    cases s.dr.fault <;> simp [leOrFFFF]
  simp [State.statusData, LastFrame.data, hleading, hfault, bankIds, leSerial]

theorem closureData_length (c : Closure) : c.data.length = 18 := by
  unfold Closure.data
  cases c.last <;> simp [leSerial]

theorem slotsData_length (c : Context) : c.data.length = 12 := by simp [Context.data, Slot.data, leSerial]

theorem slotsData_eq (c : Context) : c.data =
    [c.slot0, c.slot1].flatMap Slot.data ++ [byteOf c.lastResult.code, slotByte c.lastSlot] ++
      [byteOf c.op.code, slotByte c.op.slot?] := by simp [Context.data]

/-- Settles O18: each record field by field, and its length. -/
theorem readsAnswerAndChangeNothing : Obligations.ReadsAnswerAndChangeNothing := by
  rintro s answers rfl
  refine ⟨fun h => ?_, fun h => ?_, fun h data hdata => ?_, fun h data hdata => ?_, fun h data hdata => ?_⟩
  · show execNop [] s = _
    rw [execNop]
    exact command_answers h rfl rfl
  · show execReadIdentity [] s = _
    rw [execReadIdentity]
    exact command_answers h rfl rfl
  · have hstatus : data = s.statusData := by
      rw [hdata, ← levels_byte]
      simp only [State.statusData, LastFrame.data, bankIds, List.map_cons, List.map_nil, List.append_assoc]
      refine congrArg₂ HAppend.hAppend ?sweep ?_
      case sweep => cases s.sc.sweep <;> rfl
      repeat' refine congrArg₂ HAppend.hAppend ?_ ?_
      all_goals rfl
    refine ⟨hstatus ▸ statusData_length s, ?_⟩
    show execReadStatus [] s = _
    rw [execReadStatus, hstatus]
    exact command_answers h rfl rfl
  · have hclosure : data = s.sc.closure.data := by
      rw [hdata]
      unfold Closure.data
      cases s.sc.closure.last <;> rfl
    refine ⟨hclosure ▸ closureData_length _, ?_⟩
    show execReadClosure [] s = _
    rw [execReadClosure, hclosure]
    exact command_answers h rfl rfl
  · have hslots : data = s.cx.data := by
      rw [hdata, slotsData_eq]
      refine congrArg₂ HAppend.hAppend (congrArg₂ HAppend.hAppend (List.flatMap_congr fun k _ => ?_) ?_) ?_
      · unfold Slot.data
        cases k.state <;> cases k.saveSerial <;> rfl
      · refine congrArg₂ (fun a b => [a, b]) ?_ ?_
        · cases s.cx.lastResult <;> rfl
        · rcases s.cx.lastSlot with _ | _ | _ <;> rfl
      · cases s.cx.op <;> rfl
    refine ⟨hslots ▸ slotsData_length _, ?_⟩
    show execReadSlots [] s = _
    rw [execReadSlots, hslots]
    exact command_answers h rfl rfl

theorem u16At_pair (a b : Byte) : u16At [a, b] 0 = a.toNat + 256 * b.toNat := rfl

/-- Settles O19. -/
theorem eventAndConditionFlags : Obligations.EventAndConditionFlags := by
  refine ⟨fun s => ⟨fun h => ?_, fun a b h hb => ?_, fun a b h hb => ?_⟩,
    fun s => ⟨fun m h => ?_, fun h hheld => ?_, fun c h hheld => ?_⟩⟩
  · show execReadEvents [] s = _
    rw [execReadEvents, command_delivered h rfl]
    simp [State.driveEvents, State.answer, State.reply, attnOf]
  · show execSetEventEnables [a, b] s = _
    have hvalue : ¬ 16384 ≤ u16At [a, b] 0 := by
      rw [u16At_pair]
      have := a.isLt
      omega
    rw [execSetEventEnables, command_delivered h rfl, if_neg hvalue]
    rfl
  · show execSetEventEnables [a, b] s = _
    have hvalue : 16384 ≤ u16At [a, b] 0 := by
      rw [u16At_pair]
      omega
    rw [execSetEventEnables, command_delivered h rfl, if_pos hvalue]
    rfl
  · show execSetMasks [m] s = _
    rw [execSetMasks, command_delivered h rfl]
    rfl
  · show execClearConditions [] s = _
    have hclear : s.clearFlags = { s with sc := { s.sc with flags := 0#8 } } := by
      unfold State.clearFlags
      split
      · simp [‹s.sc.sweep = _›, SweepState.isHeld] at hheld
      all_goals rfl
    rw [execClearConditions, command_delivered h rfl, hclear]
    rfl
  · show execClearConditions [] s = _
    have hclear : s.clearFlags = { s with sc := { s.sc with flags := s.sc.flags &&& c.mask } } := by
      simp [State.clearFlags, hheld]
    rw [execClearConditions, command_delivered h rfl, hclear]
    rfl

end Sys2Proof.Machine

/-! ### Configuration, parameters and ARM (R5, R6, R9, R122, R186) -/

namespace Sys2Proof.Machine

theorem steppedIn_iff (lo hi step n : Nat) : steppedIn lo hi step n = true ↔ n % step = 0 ∧ lo ≤ n ∧ n ≤ hi :=
  decide_eq_true_iff

theorem hasMemory_iff (s : State) : s.hasMemory = true ↔ presentUnits s.ma.dies ≠ 0 := by simp [State.hasMemory]

theorem contextBusy_iff (s : State) : s.contextBusy = true ↔ s.cx.op ≠ .none := by simp [State.contextBusy]

theorem fitsIn_iff (g : Geometry) (m : Nat) :
    g.fitsIn m = true ↔ g.cw * g.ch * 3 / 2 + 20480 + 3 * (g.fw * g.fh * 3 / 2) ≤ m := decide_eq_true_iff

/-- CONFIGURE, check by check (R5). -/
theorem runConfigure_eq (s : State) (p : List Byte) {cw ch fw fh : Nat} (hcw : u16At p 0 = cw) (hch : u16At p 2 = ch)
    (hfw : u16At p 4 = fw) (hfh : u16At p 6 = fh) : s.runConfigure p =
      (if s.sc.sweep ≠ .idle then s.refuse .wrongState
      else if s.eu.state ≠ .idle ∨ s.cx.op ≠ .none then s.refuse .busy
      else if ¬(cw % 512 = 0 ∧ 2048 ≤ cw ∧ cw ≤ 16384) then s.refuse .badValue
      else if ¬(ch % 64 = 0 ∧ 512 ≤ ch ∧ ch ≤ 2048) then s.refuse .badValue
      else if ¬(fw % 32 = 0 ∧ 512 ≤ fw ∧ fw ≤ 1024) then s.refuse .badValue
      else if ¬(fh % 16 = 0 ∧ 384 ≤ fh ∧ fh ≤ 1536 ∧ fh ≤ ch) then s.refuse .badValue
      else if presentUnits s.ma.dies = 0 then s.refuse .noMemory
      else if presentUnits s.ma.dies * 33554432 < cw * ch * 3 / 2 + 20480 + 3 * (fw * fh * 3 / 2) then
        s.refuse .noMemory
      else (s.configure { s.geo with cw := cw, ch := ch, fw := fw, fh := fh }).answer []) := by
  subst hcw hch hfw hfh
  refine if_congr Iff.rfl rfl (if_congr ?_ rfl (if_congr ?_ rfl (if_congr ?_ rfl (if_congr ?_ rfl (if_congr ?_ rfl
    (if_congr ?_ rfl (if_congr ?_ rfl rfl)))))))
  · rw [contextBusy_iff]
  · rw [Bool.not_eq_true', ← Bool.not_eq_true, steppedIn_iff]
    rfl
  · rw [Bool.not_eq_true', ← Bool.not_eq_true, steppedIn_iff]
    rfl
  · rw [Bool.not_eq_true', ← Bool.not_eq_true, steppedIn_iff]
    rfl
  · rw [Bool.or_eq_true, Bool.not_eq_true', ← Bool.not_eq_true, steppedIn_iff, decide_eq_true_iff]
    simp only [State.configured]
    omega
  · rw [Bool.not_eq_true', ← Bool.not_eq_true, hasMemory_iff, not_not]
  · rw [Bool.not_eq_true', ← Bool.not_eq_true, fitsIn_iff, Nat.not_le]
    rfl

/-- Where the fixed regions of R9 lie. -/
theorem regions_of_geometry (s : State) {m b : Nat} (hm : m = 33554432 * presentUnits s.ma.dies)
    (hb : b = s.geo.fw * s.geo.fh * 3 / 2) :
    s.slotBase .s1 = m - 8192 ∧ s.slotBase .s0 = m - 16384 ∧ s.directiveBase = m - 20480 ∧
    s.bankBase .b0 = m - 20480 - b ∧ s.bankBase .b1 = m - 20480 - 2 * b ∧ s.bankBase .b2 = m - 20480 - 3 * b ∧
    (s.geo.fitsIn m = true → s.geo.cw * s.geo.ch * 3 / 2 ≤ s.bankBase .b2 ∧ s.bankBase .b2 + 3 * b + 20480 = m) := by
  have hpresent : presentBytes s.ma.dies = m := by rw [hm, presentBytes, Nat.mul_comm]
  have hbank (k : BankId) : s.bankBase k = m - 20480 - (k.index + 1) * b := by rw [State.bankBase, hpresent, hb]; rfl
  refine ⟨congrArg (· - 8192) hpresent, congrArg (· - 16384) hpresent, congrArg (· - 20480) hpresent, ?_,
    hbank .b1, hbank .b2, fun hfits => ?_⟩
  · rw [hbank]
    simp [BankId.index]
  · have hsize := (fitsIn_iff _ _).mp hfits
    have hb2 : s.bankBase .b2 = m - 20480 - 3 * b := hbank .b2
    rw [← hb] at hsize
    omega

/-- Settles O20. -/
theorem configureChecksAndLaysOut : Obligations.ConfigureChecksAndLaysOut := by
  refine ⟨fun s p cw ch fw fh h hlen hcw hch hfw hfh => ?_, fun s m b _ hm hb => regions_of_geometry s hm hb⟩
  show execConfigure p s = _
  rw [execConfigure, command_delivered h (by simp [hlen]), runConfigure_eq s p hcw hch hfw hfh]
  rfl

/-! #### Parameters (R186) -/

theorem u16At_head (n : Nat) (rest : List Byte) (hn : n < 65536) : u16At (leBytes 2 n ++ rest) 0 = n := by
  simp only [u16At, u8At, leBytes, List.cons_append, List.getD_cons_zero, List.getD_cons_succ, BitVec.toNat_ofNat]
  omega

theorem u16At_tail (n : Nat) (rest : List Byte) (i : Nat) : u16At (leBytes 2 n ++ rest) (i + 2) = u16At rest i := rfl

/-- The parameters in SET PARAMETERS' order, as numbers (R186). -/
def Params.words (q : Params) : List Nat :=
  [q.matchDist, q.searchRadius, q.minInliers, q.anchorHits, q.missLimit, q.predictLimit, q.minStep, q.reverseTol,
    q.minOverlap, q.paceLimit, q.feather, q.cornerMin, q.admitMax, q.closeEnable.toNat, q.closeMin, q.closeVtol]

/-- Every word of a list of words is read back. -/
theorem u16At_words (l : List Nat) (hl : ∀ n ∈ l, n < 65536) (i : Nat) (hi : i < l.length) :
    u16At (l.flatMap (leBytes 2)) (2 * i) = l[i] := by
  induction l generalizing i with
  | nil => simp at hi
  | cons n l ih =>
    rw [List.flatMap_cons]
    cases i with
    | zero => exact u16At_head n _ (hl n (by simp))
    | succ i => exact ih (fun k hk => hl k (by simp [hk])) i (Nat.lt_of_succ_lt_succ hi)

theorem paramsOf_words (q : Params) (hq : ∀ n ∈ q.words, n < 65536) : paramsOf (q.words.flatMap (leBytes 2)) = q := by
  have hword (i : Nat) (hi : i < 16) : u16At (q.words.flatMap (leBytes 2)) (2 * i) = q.words[i] :=
    u16At_words q.words hq i hi
  have henable : (q.closeEnable.toNat == 1) = q.closeEnable := by cases q.closeEnable <;> rfl
  have hclose : (u16At (q.words.flatMap (leBytes 2)) 26 == 1) = q.closeEnable :=
    (congrArg (· == 1) (hword 13 (by omega))).trans henable
  unfold paramsOf
  rw [hclose]
  cases q
  simp only [Params.mk.injEq]
  exact ⟨hword 0 (by omega), hword 1 (by omega), hword 2 (by omega), hword 3 (by omega), hword 4 (by omega),
    hword 5 (by omega), hword 6 (by omega), hword 7 (by omega), hword 8 (by omega), hword 9 (by omega),
    hword 10 (by omega), hword 11 (by omega), hword 12 (by omega), trivial, hword 14 (by omega), hword 15 (by omega)⟩

theorem inRanges_iff (q : Params) : q.inRanges = true ↔
    (4 ≤ q.matchDist ∧ q.matchDist ≤ 20) ∧ (8 ≤ q.searchRadius ∧ q.searchRadius ≤ 64) ∧
    (4 ≤ q.minInliers ∧ q.minInliers ≤ 16) ∧ (3 ≤ q.anchorHits ∧ q.anchorHits ≤ 8) ∧
    (2 ≤ q.missLimit ∧ q.missLimit ≤ 7) ∧ (1 ≤ q.predictLimit ∧ q.predictLimit ≤ 7) ∧
    (4 ≤ q.minStep ∧ q.minStep ≤ 32) ∧ q.reverseTol ≤ 64 ∧ (64 ≤ q.minOverlap ∧ q.minOverlap ≤ 512) ∧
    (32 ≤ q.paceLimit ∧ q.paceLimit ≤ 1023) ∧ q.feather ∈ [0, 8, 16, 32, 64] ∧ q.cornerMin ≤ 65535 ∧ q.admitMax ≤ 48 ∧
    (6 ≤ q.closeMin ∧ q.closeMin ≤ 24) ∧ q.closeVtol ≤ 64 := by
  simp only [Params.inRanges, Bool.and_eq_true, decide_eq_true_eq, List.contains_iff_mem, and_assoc]

theorem setParameters_words {s : State} {q : Params} (h : s.delivers .setParameters (q.words.flatMap (leBytes 2)) = true)
    (hq : ∀ n ∈ q.words, n < 65536) : exec (.setParameters (q.words.flatMap (leBytes 2))) s = .next
      (if s.sc.sweep ≠ .idle ∧ s.sc.sweep.isHeld = false then s.refuse .wrongState
      else if ¬ q.inRanges = true then s.refuse .badValue
      else { s with prm := q, li := { s.li with reply := ⟨.done, []⟩, processing := none } }) := by
  have henable : ¬ 1 < u16At (q.words.flatMap (leBytes 2)) 26 := by
    have h13 : u16At (q.words.flatMap (leBytes 2)) 26 = q.closeEnable.toNat := 
      u16At_words q.words hq 13 (by simp [Params.words])
    rw [h13]
    exact Nat.not_lt.mpr (Bool.toNat_le _)
  show execSetParameters _ s = _
  rw [execSetParameters, command_delivered h rfl, State.runSetParameters, paramsOf_words q hq]
  refine congrArg _ (if_congr Iff.rfl rfl (if_congr ?_ rfl rfl))
  simp [henable]

/-- Settles O21. -/
theorem parametersAreReplacedTogether : Obligations.ParametersAreReplacedTogether := by
  refine ⟨fun s q h hq => ?_, fun s p h hlen hp => ?_⟩
  · have hwords : ∀ n ∈ q.words, n < 65536 := by
      intro n hn
      by_cases hclose : n = q.closeEnable.toNat
      · exact hclose ▸ Nat.lt_of_le_of_lt (Bool.toNat_le _) (by decide)
      · refine hq n ?_
        simp only [Params.words, List.mem_cons, hclose, false_or] at hn ⊢
        exact hn
    have hcorner : q.cornerMin ≤ 65535 := Nat.le_of_lt_succ (hq q.cornerMin (by simp))
    refine (setParameters_words h hwords).trans (congrArg _ (if_congr Iff.rfl rfl (if_congr (not_congr ?_) rfl rfl)))
    rw [inRanges_iff]
    simp only [and_assoc, hcorner, true_and]
  · show execSetParameters p s = _
    rw [execSetParameters, command_delivered h (by simp [hlen]), State.runSetParameters]
    refine congrArg _ (if_congr Iff.rfl rfl (if_pos ?_))
    simp [hp]

/-! #### ARM (R122) -/

theorem directionOfCode_iff (n : Nat) (dir : Direction) :
    Direction.ofCode n = some dir ↔ n = 0 ∧ dir = .east ∨ n = 1 ∧ dir = .west := by
  unfold Direction.ofCode
  split <;> cases dir <;> simp_all

/-- ARM in IDLE with no context operation, once the direction is known. -/
theorem runArm_directed {s : State} {d a b c e : Byte} {col row : Nat} {dir : Direction}
    (hcol : col = a.toNat + 256 * b.toNat) (hrow : row = c.toNat + 256 * e.toNat) (hidle : s.sc.sweep = .idle)
    (hop : s.cx.op = .none) (hdir : Direction.ofCode d.toNat = some dir) : s.runArm [d, a, b, c, e] =
      if s.geo.cw ≤ col ∨ Geometry.startOk dir col = false then s.refuse .badValue
      else if s.geo.ch < row + s.geo.fh then s.refuse .badValue
      else if !s.hasMemory then s.refuse .noMemory
      else (s.arm dir col row).answer [] := by
  have hdir' : Direction.ofCode (u8At [d, a, b, c, e] 0) = some dir := hdir
  have hbusy : s.contextBusy = false := by simp [State.contextBusy, hop]
  subst hcol hrow
  simp only [State.runArm, hidle, hbusy, hdir', ne_eq, not_true_eq_false, if_false, Bool.false_eq_true]
  rfl

theorem runArm_undirected {s : State} {d a b c e : Byte} (hidle : s.sc.sweep = .idle) (hop : s.cx.op = .none)
    (hdir : Direction.ofCode d.toNat = none) : s.runArm [d, a, b, c, e] = s.refuse .badValue := by
  have hdir' : Direction.ofCode (u8At [d, a, b, c, e] 0) = none := hdir
  have hbusy : s.contextBusy = false := by simp [State.contextBusy, hop]
  simp only [State.runArm, hidle, hbusy, hdir', ne_eq, not_true_eq_false, if_false, Bool.false_eq_true]

theorem startOk_false_iff (dir : Direction) (col : Nat) :
    Geometry.startOk dir col = false ↔ dir = .east ∧ col % 64 ≠ 0 ∨ dir = .west ∧ col % 64 ≠ 63 := by
  cases dir <;> simp [Geometry.startOk]

theorem runArm_badValue {s : State} {d a b c e : Byte} {col row : Nat} (hcol : col = a.toNat + 256 * b.toNat)
    (hrow : row = c.toNat + 256 * e.toNat) (hidle : s.sc.sweep = .idle) (hop : s.cx.op = .none)
    (hbad : 1 < d.toNat ∨ s.geo.cw ≤ col ∨ (d = 0#8 ∧ col % 64 ≠ 0) ∨ (d = 1#8 ∧ col % 64 ≠ 63) ∨
      s.geo.ch < row + s.geo.fh) : s.runArm [d, a, b, c, e] = s.refuse .badValue := by
  cases hdir : Direction.ofCode d.toNat with
  | none => exact runArm_undirected hidle hop hdir
  | some dir =>
    rw [runArm_directed hcol hrow hidle hop hdir]
    have hd : d = 0#8 ∧ dir = .east ∨ d = 1#8 ∧ dir = .west := by
      obtain ⟨hn, hdir⟩ | ⟨hn, hdir⟩ := (directionOfCode_iff _ _).mp hdir
      · exact .inl ⟨BitVec.eq_of_toNat_eq hn, hdir⟩
      · exact .inr ⟨BitVec.eq_of_toNat_eq hn, hdir⟩
    split
    · rfl
    · rename_i hcol
      rw [startOk_false_iff] at hcol
      refine if_pos ?_
      obtain ⟨rfl, rfl⟩ | ⟨rfl, rfl⟩ := hd <;> simp at hbad hcol <;> omega

/-- Settles O22. -/
theorem armBeginsASweep : Obligations.ArmBeginsASweep := by
  intro s d a b c e col row h hcol hrow
  have hrun : exec (.arm [d, a, b, c, e]) s = .next (s.runArm [d, a, b, c, e]) := by
    show execArm _ s = _
    rw [execArm, command_delivered h rfl]
  refine ⟨fun hsweep => ?_, fun hidle hop => ?_, fun hidle hop => ⟨fun hbad => ?_, fun dir hd hcw hch => ?_⟩⟩
  · rw [hrun, State.runArm, if_pos hsweep]
  · rw [hrun, State.runArm, if_neg (by simp [hidle]), if_pos ((contextBusy_iff s).mpr hop)]
  · rw [hrun, runArm_badValue hcol hrow hidle hop hbad]
  · have hdir : Direction.ofCode d.toNat = some dir := by
      obtain ⟨rfl, rfl, -⟩ | ⟨rfl, rfl, -⟩ := hd <;> rfl
    have hstart : Geometry.startOk dir col = true := by
      obtain ⟨-, rfl, hcol⟩ | ⟨-, rfl, hcol⟩ := hd <;> simp [Geometry.startOk, hcol]
    rw [hrun, runArm_directed hcol hrow hidle hop hdir, if_neg (by simp [hstart, hcw]), if_neg (Nat.not_lt.mpr hch)]
    refine ⟨fun hmem => ?_, fun hmem => ?_⟩
    · simp [hmem]
    · simp only [hmem, Bool.not_true, Bool.false_eq_true, if_false]
      rfl

end Sys2Proof.Machine

/-! ### Hints, marks, the shutter capture, and commands that are lost (R66, R139, R142, R143, R184, R185) -/

namespace Sys2Proof.Machine

theorem bitOfCode_iff (n : Nat) (b : Bool) : bitOfCode n = some b ↔ n = b.toNat := by
  unfold bitOfCode
  split <;> cases b <;> simp_all

theorem bitOfCode_none (n : Nat) : bitOfCode n = none ↔ 1 < n := by
  unfold bitOfCode
  split <;> simp_all
  omega

theorem actionOfCode_none (n : Nat) : MarkAction.ofCode n = none ↔ 4 < n := by
  unfold MarkAction.ofCode
  split <;> simp_all
  omega

theorem actionOfCode_code (a : MarkAction) : MarkAction.ofCode a.code = some a := by cases a <;> rfl

theorem canFinish_false_iff (w : SweepState) : w.canFinish = false ↔ w = .idle ∨ w = .closing ∨ w = .finished := by
  cases w <;> simp [SweepState.canFinish]

theorem exec_hint {s : State} {a b c : Byte} (h : s.delivers .hint [a, b, c] = true) :
    exec (.hint [a, b, c]) s = .next
      (if s.sc.sweep = .idle ∨ s.sc.sweep = .closing ∨ s.sc.sweep = .finished then s.refuse .wrongState
      else if s16At [a, b, c] 0 < -2048 ∨ 2047 < s16At [a, b, c] 0 then s.refuse .badValue
      else { s with
        me := { s.me with hint := some ⟨s16At [a, b, c] 0, s8At [a, b, c] 2, none⟩ }
        li := { s.li with reply := ⟨.done, []⟩, processing := none } }) := by
  show execHint _ s = _
  rw [execHint, command_delivered h rfl]
  refine congrArg _ (if_congr ?_ rfl rfl)
  rw [Bool.not_eq_true', canFinish_false_iff]

/-- SET MARK, once its two codes are known. -/
theorem exec_setMark {s : State} {u a v w : Byte} {unit : Bool} {action : MarkAction}
    (h : s.delivers .setMark [u, a, v, w] = true) (hunit : bitOfCode u.toNat = some unit)
    (haction : MarkAction.ofCode a.toNat = some action) : exec (.setMark [u, a, v, w]) s =
      .next ((s.loadMark unit action (v.toNat + 256 * w.toNat)).answer []) := by
  have hunit' : bitOfCode (u8At [u, a, v, w] 0) = some unit := hunit
  have haction' : MarkAction.ofCode (u8At [u, a, v, w] 1) = some action := haction
  show execSetMark _ s = _
  rw [execSetMark, command_delivered h rfl, hunit', haction']
  rfl

theorem exec_setMark_refused {s : State} {u a v w : Byte} (h : s.delivers .setMark [u, a, v, w] = true)
    (hbad : 1 < u.toNat ∨ 4 < a.toNat) : exec (.setMark [u, a, v, w]) s = .next (s.refuse .badValue) := by
  show execSetMark _ s = _
  rw [execSetMark, command_delivered h rfl]
  have hunit : u8At [u, a, v, w] 0 = u.toNat := rfl
  have haction : u8At [u, a, v, w] 1 = a.toNat := rfl
  obtain hbad | hbad := hbad
  · rw [hunit, (bitOfCode_none _).mpr hbad]
  · rw [haction, (actionOfCode_none _).mpr hbad]
    cases bitOfCode (u8At [u, a, v, w] 0) <;> rfl

/-- Settles O28. -/
theorem hintsMarksAndCapture : Obligations.HintsMarksAndCapture := by
  refine ⟨fun s a b c => exec_hint, fun s u a v w h => ⟨exec_setMark_refused h, fun action haction => ?_⟩,
    fun s => ⟨fun h => ?_, fun b h => ⟨fun hb => ?_, fun hb => ?_⟩⟩⟩
  · have hofCode : MarkAction.ofCode a.toNat = some action := haction ▸ actionOfCode_code action
    refine ⟨?_, ?_⟩
    · rintro rfl
      rw [exec_setMark (unit := false) h rfl hofCode]
      rfl
    · rintro rfl
      rw [exec_setMark (unit := true) h rfl hofCode]
      rfl
  · show execReadCapture _ s = _
    rw [execReadCapture, command_delivered h rfl]
    rfl
  · show execSetCaptureAction _ s = _
    have hbit : bitOfCode (u8At [b] 0) = some (decide (b = 1#8)) := by
      rw [bitOfCode_iff]
      show b.toNat = _
      obtain hb | hb : b.toNat = 0 ∨ b.toNat = 1 := by omega
      · obtain rfl : b = 0#8 := BitVec.eq_of_toNat_eq hb
        rfl
      · obtain rfl : b = 1#8 := BitVec.eq_of_toNat_eq hb
        rfl
    rw [execSetCaptureAction, command_delivered h rfl, hbit]
    rfl
  · show execSetCaptureAction _ s = _
    have hbit : bitOfCode (u8At [b] 0) = none := (bitOfCode_none _).mpr hb
    rw [execSetCaptureAction, command_delivered h rfl, hbit]

/-! #### The shutter edge (R142) -/

/-- The capture record a shutter edge leaves, with this result and CAPTURE raised (R142). -/
def State.captured (s : State) (r : CaptureResult) : State :=
  ({ s with sc := { s.sc with capture := ⟨s.sc.progress, s.pw.head?.map Placement.serial, s.pi.serial,
    r, true, s.sc.capture.overrun || s.sc.capture.unread⟩ } }).raise .capture

theorem captureTook_fillCapture (s : State) (r : CaptureResult) : s.fillCapture.captureTook r = s.captured r := rfl

theorem exec_shutterEdge {s : State} (hidle : s.sc.sweep ≠ .idle) (hfinished : s.sc.sweep ≠ .finished) :
    exec .shutterEdge s = .next s.fillCapture.captureAct := by
  simp only [exec, execShutterEdge]
  split <;> simp_all

/-- Settles O29. -/
theorem shutterEdgeFillsTheRecord : Obligations.ShutterEdgeFillsTheRecord := by
  refine fun s => ⟨fun h => ?_, ?_⟩
  · obtain h | h := h <;> simp [exec, execShutterEdge, h]
  · rintro f hidle hfinished rfl
    rw [exec_shutterEdge hidle hfinished]
    have hfill : s.fillCapture.sc.captureFinish = s.sc.captureFinish ∧ s.fillCapture.aborting = s.aborting ∧
        s.fillCapture.rollingBack = s.rollingBack ∧ s.fillCapture.sc.sweep = s.sc.sweep := ⟨rfl, rfl, rfl, rfl⟩
    obtain ⟨hfinish, habort, hrolling, hsweep⟩ := hfill
    unfold State.captureAct
    rw [hfinish, habort, hrolling, hsweep]
    refine ⟨fun haction => ?_, fun haction haborting => ?_, fun haction haborting hback => ?_,
      fun haction haborting hback => ⟨fun hclosing => ?_, fun hclosing => ?_⟩⟩
    · rw [haction]
      rfl
    · rw [haction, haborting]
      rfl
    · rw [haction, haborting, hback]
      rfl
    · rw [haction, haborting, hback, hclosing]
      rfl
    · have hcan : s.sc.sweep.canFinish = true := by
        rw [← Bool.not_eq_false, canFinish_false_iff]
        simp [hidle, hclosing, hfinished]
      rw [haction, haborting, hback, hcan]
      rfl

/-! #### Commands that are lost (R184, R185) -/

/-- What a host command's row does: it is `State.command` with the lengths of the command table. -/
theorem exec_hostCommand {i : Instr} {c : HostCommand} {p : List Byte} (h : i.hostCommand? = some (c, p)) :
    ∃ (lenOk : Nat → Bool) (f : State → State), (∀ n, lenOk n = c.lengthAllowed n) ∧
      ∀ s, exec i s = s.command c p lenOk f := by
  cases i <;> cases h <;> exact ⟨_, _, fun _ => rfl, fun _ => rfl⟩

/-- Settles O30. -/
theorem commandsAreAnsweredOrLost : Obligations.CommandsAreAnsweredOrLost := by
  refine ⟨fun i c p s hi hlost => ?_, fun i c p s hi htaken hlen => ?_, fun s data r => ⟨rfl, rfl, rfl⟩⟩
  · obtain ⟨lenOk, f, -, hexec⟩ := exec_hostCommand hi
    rw [hexec, State.command, hlost]
    rfl
  · obtain ⟨lenOk, f, hallowed, hexec⟩ := exec_hostCommand hi
    rw [hexec, State.command, htaken, hallowed, hlen]
    rfl

end Sys2Proof.Machine

/-! ### Host commands of the Landmark Table, the window and the map (R40, R52 to R60, R101, R119) -/

namespace Sys2Proof.Machine

/-! #### PIN, UNPIN and RETIRE LANDMARK (R55 to R57) -/

section

variable {s : State} {i g : Byte} {f : Landmark → State}

theorem named_badValue (hg : 15 < g.toNat) : s.named [i, g] f = s.refuse .badValue := if_pos hg

theorem named_busy (hg : g.toNat ≤ 15) (hbusy : s.copying = true ∨ s.applying = true) :
    s.named [i, g] f = s.refuse .busy := by
  have hg' : ¬ 15 < u8At [i, g] 1 := Nat.not_lt.mpr hg
  have hbusy' : s.tableBusy = true := by simpa [State.tableBusy] using hbusy
  rw [State.named, if_neg hg', if_pos hbusy']

theorem tableBusy_false (hcopy : s.copying = false) (happly : s.applying = false) : s.tableBusy = false := by
  simp [State.tableBusy, hcopy, happly]

theorem named_empty (hg : g.toNat ≤ 15) (hcopy : s.copying = false) (happly : s.applying = false)
    (h : s.ltc.lm i.toNat = none ∨ (s.ltc.gen i.toNat).toNat ≠ g.toNat) :
    s.named [i, g] f = s.refuse .emptyEntry := by
  have hg' : ¬ 15 < u8At [i, g] 1 := Nat.not_lt.mpr hg
  have hi : u8At [i, g] 0 = i.toNat := rfl
  have hgen : u8At [i, g] 1 = g.toNat := rfl
  rw [State.named, if_neg hg', if_neg (by simp [tableBusy_false hcopy happly]), hi, hgen]
  cases hlm : s.ltc.lm i.toNat with
  | none => rfl
  | some r => exact if_neg (h.resolve_left (by simp [hlm]))

theorem named_found {r : Landmark} (hg : g.toNat ≤ 15) (hcopy : s.copying = false) (happly : s.applying = false)
    (hlm : s.ltc.lm i.toNat = some r) (hgen : (s.ltc.gen i.toNat).toNat = g.toNat) : s.named [i, g] f = f r := by
  have hg' : ¬ 15 < u8At [i, g] 1 := Nat.not_lt.mpr hg
  have hi : u8At [i, g] 0 = i.toNat := rfl
  have hgen' : u8At [i, g] 1 = g.toNat := rfl
  rw [State.named, if_neg hg', if_neg (by simp [tableBusy_false hcopy happly]), hi, hgen', hlm]
  exact if_pos hgen

/-- The checks that PIN, UNPIN and RETIRE LANDMARK make in common (R55), for a row that is `State.named` of its own act. -/
theorem named_row {row : Host.Outcome State Fault Refusal} (hrow : row = .next (s.named [i, g] f)) :
    (15 < g.toNat → row = .next (s.refuse .badValue)) ∧
    (g.toNat ≤ 15 → s.copying = true ∨ s.applying = true → row = .next (s.refuse .busy)) ∧
    (g.toNat ≤ 15 → s.copying = false → s.applying = false →
      (s.ltc.lm i.toNat = none ∨ (s.ltc.gen i.toNat).toNat ≠ g.toNat → row = .next (s.refuse .emptyEntry)) ∧
      ∀ r, s.ltc.lm i.toNat = some r → (s.ltc.gen i.toNat).toNat = g.toNat → row = .next (f r)) := by
  subst hrow
  exact ⟨fun hg => congrArg _ (named_badValue hg), fun hg hbusy => congrArg _ (named_busy hg hbusy),
    fun hg hcopy happly => ⟨fun hempty => congrArg _ (named_empty hg hcopy happly hempty),
      fun r hlm hgen => congrArg _ (named_found hg hcopy happly hlm hgen)⟩⟩

theorem exec_pinLandmark (h : s.delivers .pinLandmark [i, g] = true) : exec (.pinLandmark [i, g]) s = .next
    (s.named [i, g] fun r => if r.pinned then s.answer [] else if 32 ≤ s.ltc.pinned then s.refuse .limit
      else ({ s with ltc := s.ltc.pin i.toNat r }).answer []) := by
  show execPinLandmark _ s = _
  rw [execPinLandmark, command_delivered h rfl]
  rfl

theorem exec_unpinLandmark (h : s.delivers .unpinLandmark [i, g] = true) : exec (.unpinLandmark [i, g]) s = .next
    (s.named [i, g] fun r => if r.pinned then ({ s with ltc := s.ltc.unpin i.toNat r }).answer [] else s.answer []) := by
  show execUnpinLandmark _ s = _
  rw [execUnpinLandmark, command_delivered h rfl]
  rfl

theorem exec_retireLandmark (h : s.delivers .retireLandmark [i, g] = true) : exec (.retireLandmark [i, g]) s = .next
    (s.named [i, g] fun r => if r.pinned then s.refuse .isProtected
      else ({ s with ltc := s.ltc.retire i.toNat }).answer []) := by
  show execRetireLandmark _ s = _
  rw [execRetireLandmark, command_delivered h rfl]
  rfl

end

/-- Settles O31: the checks by `named_row`, then each command's own act. -/
theorem pinUnpinAndRetire : Obligations.PinUnpinAndRetire := by
  refine ⟨fun s i g h => ?_, fun s i g => ⟨fun h => ?_, fun h => ?_⟩⟩
  · obtain ⟨hvalue, hbusy, hfree⟩ := named_row (exec_pinLandmark h)
    refine ⟨hvalue, hbusy, fun hg hcopy happly => ⟨(hfree hg hcopy happly).1, fun r hlm hgen => ?_⟩⟩
    rw [(hfree hg hcopy happly).2 r hlm hgen]
    refine ⟨fun hpinned => ?_, fun hpinned hfull => ?_, fun hpinned hroom => ?_⟩
    · rw [if_pos hpinned]
    · rw [if_neg (by simp [hpinned]), if_pos hfull]
    · rw [if_neg (by simp [hpinned]), if_neg (Nat.not_le.mpr hroom)]
      rfl
  · obtain ⟨hvalue, hbusy, hfree⟩ := named_row (exec_unpinLandmark h)
    refine ⟨hvalue, hbusy, fun hg hcopy happly => ⟨(hfree hg hcopy happly).1, fun r hlm hgen => ?_⟩⟩
    rw [(hfree hg hcopy happly).2 r hlm hgen]
    refine ⟨fun hpinned => ?_, fun hpinned => ?_⟩
    · rw [if_neg (by simp [hpinned])]
    · rw [if_pos hpinned]
      rfl
  · obtain ⟨hvalue, hbusy, hfree⟩ := named_row (exec_retireLandmark h)
    refine ⟨hvalue, hbusy, fun hg hcopy happly => ⟨(hfree hg hcopy happly).1, fun r hlm hgen => ?_⟩⟩
    rw [(hfree hg hcopy happly).2 r hlm hgen]
    refine ⟨fun hpinned => ?_, fun hpinned => ?_⟩
    · rw [if_pos hpinned]
    · rw [if_neg (by simp [hpinned])]
      rfl

/-! #### Retirement (R40, R52, R53) -/

theorem Table.gen_retire_self {t : Table} {i : Nat} {r : Landmark} (h : t.lm i = some r) :
    (t.retire i).gen i = t.gen i + 1#4 := by
  obtain ⟨e, he, -⟩ := Table.entry_of_lm h
  simp [Table.retire, h, Table.gen, he]

theorem Table.retire_entry_other (t : Table) {i j : Nat} (h : j ≠ i) : (t.retire i).entries[j]? = t.entries[j]? := by
  unfold Table.retire
  split
  · rfl
  · simp [h.symm]

theorem Table.bin_retire {t : Table} {i : Nat} {r : Landmark} (h : t.lm i = some r) (j : Nat) :
    (t.retire i).bin j = if j = r.bin then (t.bin j).filter (fun k => decide (k ≠ i)) else t.bin j := by
  simp only [Table.retire, h, Table.bin, List.getElem?_modify]
  by_cases hj : r.bin = j
  · subst hj
    cases t.bins[r.bin]? <;> simp
  · simp [hj, Ne.symm hj]

theorem retire_row {t : Table} {i : Nat} {r : Landmark} (h : t.lm i = some r) :
    (t.retire i).lm i = none ∧ (t.retire i).gen i = t.gen i + 1#4 ∧
    (∀ j, j ≠ i → (t.retire i).lm j = t.lm j ∧ (t.retire i).gen j = t.gen j) ∧
    (∀ j, (t.retire i).bin j = if j = r.bin then (t.bin j).filter (fun k => decide (k ≠ i)) else t.bin j) ∧
    (t.retire i).live = t.live - 1 ∧
    (t.retire i).pinned = (if r.pinned then t.pinned - 1 else t.pinned) ∧
    (t.retire i).origin = (if r.origin then t.origin - 1 else t.origin) ∧
    (t.retire i).regionClaims = t.regionClaims := by
  refine ⟨t.retire_lm_self i, Table.gen_retire_self h, fun j hj => ⟨?_, ?_⟩, Table.bin_retire h, ?_, ?_, ?_, ?_⟩
  · rw [Table.lm, Table.retire_entry_other t hj, Table.lm]
  · rw [Table.gen, Table.retire_entry_other t hj, Table.gen]
  · simp [Table.retire, h]
  · cases hr : r.pinned <;> simp [Table.retire, h, hr]
  · cases hr : r.origin <;> simp [Table.retire, h, hr]
  · simp [Table.retire, h]

theorem binRun_eq (g : Geometry) (first n : Nat) :
    g.binRun first n = (List.range n).map fun k => (first + k) % g.nBins :=
  List.map_congr_left fun k _ => by
    rw [← Int.natCast_add, ← Int.natCast_emod, Int.toNat_natCast]

theorem regionVictims_eq (s : State) (first n : Nat) : s.ltc.regionVictims (s.geo.binRun first n) =
    (((List.range n).map fun k => (first + k) % s.geo.nBins).flatMap s.ltc.bin).filter
      (fun i => (s.ltc.lm i).any fun r => !r.pinned) := by rw [← binRun_eq]; rfl

theorem exec_retireRegion {s : State} {first lo hi : Byte} {n : Nat}
    (h : s.delivers .retireRegion [first, lo, hi] = true) (hn : n = lo.toNat + 256 * hi.toNat) :
    exec (.retireRegion [first, lo, hi]) s = .next
      (if s.geo.nBins ≤ first.toNat ∨ n = 0 ∨ s.geo.nBins < n then s.refuse .badValue
      else if s.tableBusy then s.refuse .busy
      else (s.retireRegion first.toNat n).answer
        (leBytes 2 (s.ltc.regionVictims (s.geo.binRun first.toNat n)).length)) := by
  show execRetireRegion _ s = _
  rw [execRetireRegion, command_delivered h rfl]
  subst hn
  rfl

/-- Settles O32. -/
theorem retirementByEntryAndRegion : Obligations.RetirementByEntryAndRegion := by
  refine ⟨fun t i r h => retire_row h, fun s => ⟨fun first lo hi n h hn => ?_, fun first n rest hclaims hcopy happly => ?_,
    fun hidle => ?_⟩⟩
  · rw [exec_retireRegion h hn]
    refine ⟨fun hbad => congrArg _ (if_pos hbad), fun hfirst hone hlen hbusy => ?_, fun hfirst hone hlen hcopy happly => ?_⟩
    · rw [if_neg (by omega), if_pos (by simpa [State.tableBusy] using hbusy)]
    · refine ⟨_, rfl, ?_⟩
      rw [if_neg (by omega), if_neg (by simp [tableBusy_false hcopy happly]), ← regionVictims_eq]
      rfl
  · refine ⟨_, rfl, ?_⟩
    simp only [exec, execRetireRegionClaim, hclaims, tableBusy_false hcopy happly, Bool.false_eq_true, if_false]
    rw [← regionVictims_eq]
    rfl
  · simp only [exec, execRetireRegionClaim, Host.Outcome.next.injEq]
    obtain hnone | hbusy := hidle
    · rw [hnone]
    · have hbusy' : s.tableBusy = true := by simpa [State.tableBusy] using hbusy
      rw [hbusy']
      split <;> rfl

/-! #### Reads (R58 to R60, R101, R119) -/

theorem byteOf_toNat (b : Byte) : byteOf b.toNat = b := by simp [byteOf]

theorem examineData_live {s : State} {i : Nat} {r : Landmark} (h : s.ltc.lm i = some r) : s.examineData i =
    [byteOf r.state.code, byteOf (r.pinned.toNat + 2 * r.origin.toNat),
      if (64 * s.geo.binPlace r.bin + 64 : Int) ≤ s.bu.commitLine then 2#8 else 1#8] := by
  simp [State.examineData, h, flagsByte, Geometry.binBehind]

theorem exec_readPlacement {s : State} {d v : Byte} (h : s.delivers .readPlacement [d, v] = true) :
    exec (.readPlacement [d, v]) s = .next (s.runReadPlacement d.toNat v.toNat) := by
  show execReadPlacement _ s = _
  rw [execReadPlacement, command_delivered h rfl]
  rfl

theorem runReadPlacement_badView {s : State} {d v : Nat} (h : 1 < v) : s.runReadPlacement d v = s.refuse .badValue := by
  rw [State.runReadPlacement, (bitOfCode_none v).mpr h]

theorem runReadPlacement_noRecord {s : State} {d v : Nat} (hv : v ≤ 1) (h : s.pw[d]? = none) :
    s.runReadPlacement d v = s.refuse .emptyEntry := by
  cases hview : bitOfCode v with
  | none => exact absurd ((bitOfCode_none v).mp hview) (by omega)
  | some used => rw [State.runReadPlacement, hview, h]

theorem runReadPlacement_solved {s : State} {d : Nat} {r : Placement} (h : s.pw[d]? = some r) :
    s.runReadPlacement d 0 = s.answer r.solvedData := by
  rw [State.runReadPlacement, h]
  rfl

theorem runReadPlacement_unused {s : State} {d : Nat} {r : Placement} (h : s.pw[d]? = some r) (hr : r.state = .placed) :
    s.runReadPlacement d 1 = s.refuse .emptyEntry := by
  rw [State.runReadPlacement, h]
  simp [bitOfCode, hr]

theorem runReadPlacement_used {s : State} {d : Nat} {r : Placement} {u : UsedPart} (h : s.pw[d]? = some r)
    (hr : r.state ≠ .placed) (hu : r.used = some u) : s.runReadPlacement d 1 = s.answer (r.usedData u) := by
  rw [State.runReadPlacement, h]
  cases hstate : r.state with
  | placed => exact absurd hstate hr
  | blending | blended => simp [bitOfCode, hstate, hu]

theorem exec_readCoverage {s : State} {a b n : Byte} {k : Nat} (h : s.delivers .readCoverage [a, b, n] = true)
    (hk : k = a.toNat + 256 * b.toNat) : exec (.readCoverage [a, b, n]) s = .next
      (if s.geo.nBlocks ≤ k ∨ n.toNat = 0 ∨ 64 < n.toNat then s.refuse .badValue
      else s.answer (s.coverageData k n.toNat)) := by
  show execReadCoverage _ s = _
  rw [execReadCoverage, command_delivered h rfl]
  subst hk
  rfl

theorem toNat_eq_zero_iff (n : Byte) : n.toNat = 0 ↔ n = 0#8 :=
  ⟨fun h => BitVec.eq_of_toNat_eq h, fun h => h ▸ rfl⟩

/-- Settles O33. -/
theorem tableAndWindowReads : Obligations.TableAndWindowReads := by
  refine ⟨fun s i => ⟨fun h => ?_, fun h => ?_, fun h => ?_⟩, fun s => ⟨fun d v h => ?_, fun a b n k h hk => ?_⟩⟩
  · have hexec : exec (.readLandmark [i]) s = .next (match s.ltc.lm i.toNat with
        | some r => s.answer (r.data i.toNat (s.ltc.gen i.toNat))
        | none => s.refuse .emptyEntry) := by
      show execReadLandmark _ s = _
      rw [execReadLandmark, command_delivered h rfl]
      rfl
    refine ⟨fun hnone => ?_, fun r hlm => ?_⟩
    · rw [hexec, hnone]
    · rw [hexec, hlm, ← byteOf_toNat i]
      simp only [byteOf_toNat]
      rw [Landmark.data, byteOf_toNat]
      rfl
  · have hexec : exec (.findLandmarks [i]) s = .next (if s.geo.nBins ≤ i.toNat then s.refuse .badValue
        else s.answer (byteOf (s.ltc.bin i.toNat).length :: (s.ltc.bin i.toNat).flatMap s.ltc.findData)) := by
      show execFindLandmarks _ s = _
      rw [execFindLandmarks, command_delivered h rfl]
      rfl
    refine ⟨fun hi => ?_, fun hi => ?_⟩
    · rw [hexec, if_pos hi]
    · rw [hexec, if_neg (Nat.not_le.mpr hi)]
      rfl
  · have hexec : exec (.examineLandmark [i]) s = .next (s.answer (s.examineData i.toNat)) := by
      show execExamineLandmark _ s = _
      rw [execExamineLandmark, command_delivered h rfl]
      rfl
    refine ⟨fun hnone => ?_, fun r hlm => ?_⟩
    · rw [hexec, State.examineData, hnone]
    · rw [hexec, examineData_live hlm]
  · rw [exec_readPlacement h]
    refine ⟨fun hv => by rw [runReadPlacement_badView hv], fun hv hnone => by rw [runReadPlacement_noRecord hv hnone],
      fun r hr => ⟨?_, ?_, ?_⟩⟩
    · rintro rfl
      rw [show (0#8 : Byte).toNat = 0 from rfl, runReadPlacement_solved hr]
      simp [Placement.solvedData, Placement.commonData, byteBool]
    · rintro rfl hplaced
      rw [show (1#8 : Byte).toNat = 1 from rfl, runReadPlacement_unused hr hplaced]
    · rintro u rfl hplaced hu
      rw [show (1#8 : Byte).toNat = 1 from rfl, runReadPlacement_used hr hplaced hu]
      simp only [Placement.usedData, Placement.commonData, List.append_assoc]
      rfl
  · rw [exec_readCoverage h hk]
    refine ⟨fun hbad => ?_, fun hfirst hzero hlen => ?_⟩
    · rw [← toNat_eq_zero_iff] at hbad
      rw [if_pos hbad]
    · have hzero' : n.toNat ≠ 0 := mt (toNat_eq_zero_iff n).mp hzero
      rw [if_neg (by omega), State.coverageData, byteOf_toNat]
      rfl

end Sys2Proof.Machine

/-! ### What an outcome does to bank, queue, counters and events (R22, R23, R26, R187) -/

namespace Sys2Proof.Machine

/-! #### Events and outcomes -/

theorem raise_bit (s : State) (e : Event) : (s.raise e).li.events.getLsbD e.bit = true := by
  cases e <;> simp [State.raise, State.driveEvents, Event.bit]

theorem raise_keeps_bit (s : State) (e d : Event) (h : s.li.events.getLsbD d.bit = true) :
    (s.raise e).li.events.getLsbD d.bit = true := by
  simp [State.raise, State.driveEvents, h]

@[simp] theorem recordOutcome_last (s : State) (lf : LastFrame) : (s.recordOutcome lf).sc.last = lf := by
  unfold State.recordOutcome
  (repeat' split) <;> rfl

theorem recordOutcome_dropped (s : State) (lf : LastFrame) : (s.recordOutcome lf).sc.dropped =
    if lf.outcome.isDropped then s.sc.dropped + 1#32 else s.sc.dropped := by
  unfold State.recordOutcome
  (repeat' split) <;> rfl

theorem recordOutcome_placed (s : State) (lf : LastFrame) : (s.recordOutcome lf).sc.placed =
    if lf.outcome.isPlaced then s.sc.placed + 1#32 else s.sc.placed := by
  unfold State.recordOutcome
  cases lf.outcome <;> rfl

theorem recordOutcome_setAside (s : State) (lf : LastFrame) : (s.recordOutcome lf).sc.setAside =
    if lf.outcome.isDropped || lf.outcome.isPlaced then s.sc.setAside else s.sc.setAside + 1#32 := by
  unfold State.recordOutcome
  cases lf.outcome <;> rfl

theorem recordOutcome_event {s : State} {lf : LastFrame} (h : lf.outcome.isDropped = true) :
    (s.recordOutcome lf).li.events.getLsbD 12 = true := by
  rw [State.recordOutcome, if_pos h]
  exact raise_bit _ .frameDropped

@[simp] theorem recordOutcome_pi (s : State) (lf : LastFrame) : (s.recordOutcome lf).pi = s.pi := by simp

/-! #### A frame takes its outcome -/

theorem bank_of_banks {s t : State} (h : t.pi.banks = s.pi.banks) (b : BankId) : t.bank b = s.bank b :=
  congrArg (Banks.get · b) h

section

variable {s : State} {b : BankId}

/-- The state with the bank freed and out of the queue, before the outcome is counted. -/
def State.freeBank (s : State) (b : BankId) : State :=
  { s with pi := { s.pi with
    banks := s.pi.banks.set b (s.bank b).freed, queue := s.pi.queue.filter fun c => !decide (c = b) } }

theorem settle_open (lf : LastFrame) (h : (s.bank b).state.isOpen = true) :
    s.settle b lf = (s.freeBank b).recordOutcome lf := if_pos h

theorem settle_closed (lf : LastFrame) (h : (s.bank b).state.isOpen = false) : s.settle b lf = s := by
  simp [State.settle, h]

@[simp] theorem freeBank_bank_self (s : State) (b : BankId) : (s.freeBank b).bank b = (s.bank b).freed :=
  bank_setBank_same s b _

theorem freeBank_bank_other (s : State) {c : BankId} (h : c ≠ b) : (s.freeBank b).bank c = s.bank c :=
  bank_setBank_other s _ h

theorem settle_bank_self (lf : LastFrame) (h : (s.bank b).state.isOpen = true) :
    (s.settle b lf).bank b = (s.bank b).freed := by
  rw [settle_open lf h, bank_of_banks (s := s.freeBank b) (by simp), freeBank_bank_self]

theorem settle_bank_other (lf : LastFrame) {c : BankId} (h : c ≠ b) : (s.settle b lf).bank c = s.bank c := by
  cases hopen : (s.bank b).state.isOpen with
  | true => rw [settle_open lf hopen, bank_of_banks (s := s.freeBank b) (by simp), freeBank_bank_other s h]
  | false => rw [settle_closed lf hopen]

theorem settle_queue (lf : LastFrame) (h : (s.bank b).state.isOpen = true) :
    (s.settle b lf).pi.queue = s.pi.queue.filter fun c => !decide (c = b) := by
  rw [settle_open lf h, recordOutcome_pi]
  rfl

theorem isOpen_of_matching (h : (s.bank b).state = .matching) : (s.bank b).state.isOpen = true := by rw [h]; rfl

theorem isOpen_of_filling (h : (s.bank b).state = .filling) : (s.bank b).state.isOpen = true := by rw [h]; rfl

theorem isOpen_of_queued (h : (s.bank b).state = .queued) : (s.bank b).state.isOpen = true := by rw [h]; rfl

/-- What PI's outcome does to SC's counters and to the banks is what `State.settle` does. -/
theorem settleIntake_eq (s : State) (b : BankId) (o : FrameOutcome) :
    (s.settleIntake b o).pi = (s.settle b (LastFrame.ofIntake ((s.bank b).serial.getD 0#16) o)).pi ∧
    (s.settleIntake b o).sc = (s.settle b (LastFrame.ofIntake ((s.bank b).serial.getD 0#16) o)).sc ∧
    (s.settleIntake b o).li = (s.settle b (LastFrame.ofIntake ((s.bank b).serial.getD 0#16) o)).li := by
  simp [State.settleIntake]

theorem settleIntake_bank_self (o : FrameOutcome) (h : (s.bank b).state.isOpen = true) :
    (s.settleIntake b o).bank b = (s.bank b).freed := by
  rw [settleIntake_bank, settle_bank_self _ h]

theorem settleIntake_bank_other (o : FrameOutcome) {c : BankId} (h : c ≠ b) :
    (s.settleIntake b o).bank c = s.bank c := by
  rw [settleIntake_bank, settle_bank_other _ h]

theorem settleIntake_queue (o : FrameOutcome) (h : (s.bank b).state.isOpen = true) :
    (s.settleIntake b o).pi.queue = s.pi.queue.filter fun c => !decide (c = b) := by
  rw [(settleIntake_eq s b o).1, settle_queue _ h]

theorem settleIntake_last (o : FrameOutcome) (h : (s.bank b).state.isOpen = true) :
    (s.settleIntake b o).sc.last = LastFrame.ofIntake ((s.bank b).serial.getD 0#16) o := by
  rw [(settleIntake_eq s b o).2.1, settle_open _ h, recordOutcome_last]

theorem settleIntake_dropped {o : FrameOutcome} (h : (s.bank b).state.isOpen = true) (ho : o.isDropped = true) :
    (s.settleIntake b o).sc.dropped = s.sc.dropped + 1#32 := by
  rw [(settleIntake_eq s b o).2.1, settle_open _ h, recordOutcome_dropped, if_pos (by simpa [LastFrame.ofIntake] using ho)]
  rfl

theorem settleIntake_event {o : FrameOutcome} (h : (s.bank b).state.isOpen = true) (ho : o.isDropped = true) :
    (s.settleIntake b o).li.events.getLsbD 12 = true := by
  rw [(settleIntake_eq s b o).2.2, settle_open _ h]
  exact recordOutcome_event ho

theorem settleIntake_closed (o : FrameOutcome) (h : (s.bank b).state.isOpen = false) :
    (s.settleIntake b o).pi = s.pi ∧ (s.settleIntake b o).sc = s.sc ∧ (s.settleIntake b o).li = s.li := by
  obtain ⟨hpi, hsc, hli⟩ := settleIntake_eq s b o
  rw [hpi, hsc, hli, settle_closed _ h]
  exact ⟨rfl, rfl, rfl⟩

theorem settleIntake_events_keep (o : FrameOutcome) (e : Event) (h : s.li.events.getLsbD e.bit = true) :
    (s.settleIntake b o).li.events.getLsbD e.bit = true :=
  ((eventsKept_bookLaw s).settleIntake (b := b) (o := o) ⟨fun _ h => h, rfl⟩).1 e h

end

/-! #### The queue is released (R22) -/

/-- Settling a list of open banks, none twice: each is freed and counted as dropped, and the others stand. -/
theorem foldl_settleIntake_dropped {o : FrameOutcome} (ho : o.isDropped = true) (l : List BankId) (s : State)
    (hnodup : l.Nodup) (hopen : ∀ b ∈ l, (s.bank b).state.isOpen = true) :
    (∀ b ∈ l, (l.foldl (fun s b => s.settleIntake b o) s).bank b = (s.bank b).freed) ∧
    (∀ b, b ∉ l → (l.foldl (fun s b => s.settleIntake b o) s).bank b = s.bank b) ∧
    (l.foldl (fun s b => s.settleIntake b o) s).pi.queue = s.pi.queue.filter (fun c => !decide (c ∈ l)) ∧
    (l.foldl (fun s b => s.settleIntake b o) s).sc.dropped = s.sc.dropped + BitVec.ofNat 32 l.length ∧
    (l ≠ [] ∨ s.li.events.getLsbD 12 = true →
      (l.foldl (fun s b => s.settleIntake b o) s).li.events.getLsbD 12 = true) := by
  induction l generalizing s with
  | nil => simp
  | cons c l ih =>
    obtain ⟨hc, hl⟩ := List.nodup_cons.mp hnodup
    have hcopen := hopen c (by simp)
    have hother : ∀ b, b ≠ c → (s.settleIntake c o).bank b = s.bank b := fun b => settleIntake_bank_other o
    obtain ⟨hfreed, hstands, hqueue, hdropped, hevent⟩ := ih (s.settleIntake c o) hl fun b hb => by
      rw [hother b fun h => hc (h ▸ hb)]
      exact hopen b (by simp [hb])
    rw [List.foldl_cons]
    refine ⟨fun b hb => ?_, fun b hb => ?_, ?_, ?_, fun _ => ?_⟩
    · obtain rfl | hb := List.mem_cons.mp hb
      · rw [hstands _ hc, settleIntake_bank_self o hcopen]
      · rw [hfreed b hb, hother b fun h => hc (h ▸ hb)]
    · obtain ⟨hbc, hbl⟩ := not_or.mp (mt List.mem_cons.mpr hb)
      rw [hstands b hbl, hother b hbc]
    · rw [hqueue, settleIntake_queue o hcopen, List.filter_filter]
      refine List.filter_congr fun b _ => ?_
      by_cases hb : b = c <;> simp [hb]
    · rw [hdropped, settleIntake_dropped hcopen ho, List.length_cons, BitVec.ofNat_add]
      simp only [BitVec.add_assoc]
      congr 1
      exact BitVec.add_comm _ _
    · exact hevent (.inr (settleIntake_event hcopen ho))

end Sys2Proof.Machine

/-! ### FINISH and RELEASE (R22, R133, R135) -/

namespace Sys2Proof.Machine

/-! #### The sweep enters CLOSING (R22) -/

section

variable {s : State} {b : BankId}

theorem markStoring_none (m : DropMark) (h : s.pi.port = none) : s.markStoring m = s := by simp [State.markStoring, h]

theorem markStoring_bank_same (m : DropMark) (h : s.pi.port = some b) :
    (s.markStoring m).bank b = { s.bank b with drop := if (s.bank b).drop = .none then m else (s.bank b).drop } := by
  simp only [State.markStoring, h]
  split
  · exact bank_setBank_same s b _
  · rfl

theorem markStoring_pi {t : State} (m : DropMark) (h : t.pi = s.pi) : (t.markStoring m).pi = (s.markStoring m).pi := by
  cases hport : s.pi.port with
  | none => simp only [State.markStoring, h, hport]
  | some b => simp only [State.markStoring, State.setBank, State.bank, h, hport, apply_ite State.pi]

theorem releaseQueue_nil (h : s.pi.queue = []) : s.releaseQueue = s := by simp [State.releaseQueue, h]

theorem enterClosing_idle (hqueue : s.pi.queue = []) (hport : s.pi.port = none) :
    s.enterClosing = { s with sc := { s.sc with sweep := .closing } } := by
  unfold State.enterClosing
  exact (congrArg State.releaseQueue
    (markStoring_none (s := { s with sc := { s.sc with sweep := .closing } }) .closing hport)).trans
    (releaseQueue_nil hqueue)

@[simp] theorem enterClosing_sweep (s : State) : s.enterClosing.sc.sweep = .closing := by simp [State.enterClosing]

/-- A dropped frame leaves the count of frames set aside. -/
theorem settleIntake_setAside {o : FrameOutcome} (ho : o.isDropped = true) :
    (s.settleIntake b o).sc.setAside = s.sc.setAside := by
  rw [(settleIntake_eq s b o).2.1]
  cases hopen : (s.bank b).state.isOpen with
  | true =>
    rw [settle_open _ hopen, recordOutcome_setAside, show (LastFrame.ofIntake _ o).outcome = o from rfl, ho]
    rfl
  | false => rw [settle_closed _ hopen]

theorem enterClosing_setAside (s : State) : s.enterClosing.sc.setAside = s.sc.setAside := by
  unfold State.enterClosing State.releaseQueue
  have hfold (l : List BankId) (u : State) :
      (l.foldl (fun s b => s.settleIntake b .droppedClosing) u).sc.setAside = u.sc.setAside := by
    induction l generalizing u with
    | nil => rfl
    | cons c l ih => rw [List.foldl_cons, ih, settleIntake_setAside rfl]
  rw [hfold]
  simp

/-- The sweep enters CLOSING with queued frames waiting and perhaps one storing: each waiting one is released and counted as
dropped, the one storing is marked. -/
theorem enterClosing_releases (hnodup : s.pi.queue.Nodup) (hqueued : ∀ b ∈ s.pi.queue, (s.bank b).state = .queued) :
    (∀ b ∈ s.pi.queue, (s.enterClosing.bank b).state = .free ∧ (s.enterClosing.bank b).serial = none) ∧
    (∀ b ∉ s.pi.queue, s.enterClosing.bank b = (s.markStoring .closing).bank b) ∧
    s.enterClosing.pi.queue = [] ∧
    s.enterClosing.sc.dropped = s.sc.dropped + BitVec.ofNat 32 s.pi.queue.length ∧
    (s.pi.queue ≠ [] → s.enterClosing.li.events.getLsbD 12 = true) := by
  obtain ⟨hfreed, hstands, hqueue, hdropped, hevent⟩ :=
    foldl_settleIntake_dropped (o := .droppedClosing) rfl s.pi.queue
      (({ s with sc := { s.sc with sweep := .closing } } : State).markStoring .closing) hnodup
      (fun b hb => isOpen_of_queued (by rw [markStoring_bank_state]; exact hqueued b hb))
  have henter : s.enterClosing = s.pi.queue.foldl (fun s b => s.settleIntake b .droppedClosing)
      (({ s with sc := { s.sc with sweep := .closing } } : State).markStoring .closing) := by
    simp [State.enterClosing, State.releaseQueue]
  rw [henter]
  refine ⟨fun b hb => ?_, fun b hb => ?_, ?_, ?_, fun h => hevent (.inl h)⟩
  · rw [hfreed b hb]
    exact ⟨rfl, rfl⟩
  · rw [hstands b hb]
    exact congrArg (fun k => k.banks.get b) (markStoring_pi (s := s)
      (t := { s with sc := { s.sc with sweep := .closing } }) .closing rfl)
  · rw [hqueue]
    simp
  · rw [hdropped]
    simp

/-! #### A pass ends with an outcome (R84) -/

/-- An outcome that is neither a drop nor a placement frees the frame's MATCHING bank and sets the frame aside. -/
theorem settlePass_outcome {p : Pass} {lf : LastFrame} (h : p.bank = some b) (hmatching : (s.bank b).state = .matching)
    (ho : lf.outcome.isDropped = false) (hp : lf.outcome.isPlaced = false) :
    (s.settlePass p lf).bank b = (s.bank b).freed ∧ (s.settlePass p lf).sc.setAside = s.sc.setAside + 1#32 ∧
    (s.settlePass p lf).sc.last = lf ∧
    (s.settlePass p lf).pi.queue = s.pi.queue.filter fun c => !decide (c = b) := by
  have hopen := isOpen_of_matching hmatching
  have hsettle : s.settlePass p lf = s.settle b lf := by simp only [State.settlePass, h]
  rw [hsettle]
  refine ⟨settle_bank_self _ hopen, ?_, by rw [settle_open _ hopen, recordOutcome_last], settle_queue _ hopen⟩
  rw [settle_open _ hopen, recordOutcome_setAside, ho, hp]
  rfl

/-- A pass ends with such an outcome. -/
theorem endPassWith_outcome {p : Pass} {o : FrameOutcome} (h : p.bank = some b) (hmatching : (s.bank b).state = .matching)
    (ho : o.isDropped = false) (hp : o.isPlaced = false) :
    (s.endPassWith p o).bank b = (s.bank b).freed ∧ (s.endPassWith p o).sc.setAside = s.sc.setAside + 1#32 ∧
    (s.endPassWith p o).sc.last = p.lastFrame o ∧
    (s.endPassWith p o).pi.queue = s.pi.queue.filter fun c => !decide (c = b) :=
  settlePass_outcome h hmatching ho hp

@[simp] theorem endPassWith_pass (s : State) (p : Pass) (o : FrameOutcome) : (s.endPassWith p o).me.pass = none := rfl

end

/-! #### FINISH (R133) -/

section

variable {s : State}

theorem exec_finish (h : s.delivers .finish [] = true) : exec (.finish []) s = .next s.runFinish := by
  show execFinish [] s = _
  rw [execFinish, command_delivered h rfl]

theorem exec_finish_done (h : s.delivers .finish [] = true) (hsweep : s.sc.sweep.canFinish = true)
    (hrolling : s.rollingBack = false) : exec (.finish []) s = .next (s.finishSweep.answer []) := by
  rw [exec_finish h, State.runFinish, hsweep, hrolling]
  rfl

theorem finishSweep_held {c : Condition} (h : s.sc.sweep = .held c) : s.finishSweep = s.giveUpHeld.enterClosing := by
  simp only [State.finishSweep, h]

theorem giveUpHeld_held {p : Pass} (hpass : s.me.pass = some p) (hstage : p.stage = .judgeHeld ∨ p.stage = .pushHeld) :
    s.giveUpHeld = s.endPassWith p .discarded := by
  obtain hstage | hstage := hstage <;> simp only [State.giveUpHeld, hpass, hstage]

theorem giveUpHeld_parked {p : Pass} (hpass : s.me.pass = some p) (hstage : p.stage = .parked) :
    s.giveUpHeld = s.setPass (some { p with admissions := [], stage := .report }) := by
  simp only [State.giveUpHeld, hpass, hstage]

/-- FINISH in ARMED: the origin pass, where one is under way, has ended, and the sweep is FINISHED with its event. -/
theorem finishArmed_ends (s : State) : s.finishArmed.sc.sweep = .finished ∧
    s.finishArmed.li.events.getLsbD 2 = true ∧ s.finishArmed.me.pass = none := by
  unfold State.finishArmed
  refine ⟨by simp, raise_bit _ .finished, ?_⟩
  cases hpass : s.me.pass <;> simp [hpass]

theorem finishSweep_sweeping (h : s.sc.sweep = .sweeping) : s.finishSweep = s.enterClosing := by
  simp only [State.finishSweep, h]

theorem finishSweep_armed (h : s.sc.sweep = .armed) : s.finishSweep = s.finishArmed := by
  simp only [State.finishSweep, h]

end

/-- Settles O23: FINISH enters CLOSING, so it is what that entry does to queue and storing bank, after a held frame is
given up. -/
theorem finishBySweepState : Obligations.FinishBySweepState := by
  refine ⟨fun s h hsweep hrolling hnodup hqueued hfilling => ⟨_, exec_finish_done h (by rw [hsweep]; rfl) hrolling, ?_⟩,
    fun s h => ⟨fun hsweep => ?_, fun hsweep hrolling => ?_, fun hsweep hrolling =>
      ⟨_, exec_finish_done h (by rw [hsweep]; rfl) hrolling, ?_⟩,
      fun c p b hsweep hrolling hpass hstage hbank hmatching hqueue hport =>
        ⟨_, exec_finish_done h (by rw [hsweep]; rfl) hrolling, ?_⟩,
      fun c p hsweep hrolling hpass hstage => ⟨_, exec_finish_done h (by rw [hsweep]; rfl) hrolling, ?_⟩⟩⟩
  · rw [finishSweep_sweeping hsweep]
    obtain ⟨hfreed, hstands, hqueue, hdropped, hevent⟩ := enterClosing_releases hnodup hqueued
    refine ⟨enterClosing_sweep s, hqueue, hfreed, fun b hport => ?_, hdropped, hevent, rfl, rfl, ?_⟩
    · have hb : b ∉ s.pi.queue := fun hb => by
        have := hqueued b hb
        rw [hfilling b hport] at this
        cases this
      refine ⟨by simpa using hport, ?_⟩
      show (s.enterClosing.bank b).state = _ ∧ (s.enterClosing.bank b).drop = _
      rw [hstands b hb, markStoring_bank_same .closing hport]
      exact ⟨hfilling b hport, rfl⟩
    · simp
  · rw [exec_finish h, State.runFinish, (canFinish_false_iff _).mpr hsweep]
    rfl
  · rw [exec_finish h, State.runFinish, hsweep, hrolling]
    rfl
  · rw [finishSweep_armed hsweep]
    obtain ⟨hfinished, hevent, hpass⟩ := finishArmed_ends s
    exact ⟨hfinished, hevent, hpass, rfl, by simp, by simp⟩
  · rw [finishSweep_held hsweep, giveUpHeld_held hpass hstage]
    obtain ⟨hfreed, haside, hlast, hq⟩ := endPassWith_outcome (o := .discarded) hbank hmatching rfl rfl
    rw [enterClosing_idle (by rw [hq, hqueue]; rfl) (by simpa using hport)]
    refine ⟨rfl, rfl, ?_, haside, ?_, ?_, rfl⟩
    · show ((s.endPassWith p .discarded).bank b).state = _
      rw [hfreed]
      rfl
    · show (s.endPassWith p .discarded).sc.last.outcome = _
      rw [hlast]
      rfl
    · show (s.endPassWith p .discarded).sc.last.serial = _
      rw [hlast]
      rfl
  · rw [finishSweep_held hsweep, giveUpHeld_parked hpass hstage]
    exact ⟨enterClosing_sweep _, by simp [State.setPass], enterClosing_setAside _, rfl⟩

/-! #### RELEASE (R135) -/

section

variable {s : State} {b : BankId}

theorem exec_release (h : s.delivers .release [] = true) (hsweep : s.sc.sweep = .finished) :
    exec (.release []) s = .next (s.release.answer []) := by
  show execRelease [] s = _
  rw [execRelease, command_delivered h rfl, hsweep]
  rfl

theorem closeGap_none (h : s.dr.gap = none) : s.closeGap = s := by simp [State.closeGap, h]

@[simp] theorem closeGap_gap (s : State) : s.closeGap.dr.gap = none := by
  unfold State.closeGap
  split
  · rfl
  · rfl
  · assumption

theorem closeAtRelease_none (h : s.pi.port = none) : s.closeAtRelease = s := by simp [State.closeAtRelease, h]

theorem closeAtRelease_some (h : s.pi.port = some b) : s.closeAtRelease =
    (s.settleIntake b (if (s.bank b).drop = .held then .droppedHeld else .droppedClosing)).leaveStore := by
  simp only [State.closeAtRelease, h]

end

/-- Settles O25: the gap ends, the frame storing is closed by its mark, and engines and SC return to their idle values. -/
theorem releaseReturnsToIdle : Obligations.ReleaseReturnsToIdle := by
  refine fun s h => ⟨fun hsweep => ?_, fun hsweep hgap hport => ?_, fun b hsweep hgap hport hfilling =>
    ⟨_, exec_release h hsweep, ?_⟩, fun g hsweep hgap => ⟨_, exec_release h hsweep, ?_⟩⟩
  · show execRelease [] s = _
    rw [execRelease, command_delivered h rfl, if_pos hsweep]
  · rw [exec_release h hsweep, State.release, closeGap_none hgap, closeAtRelease_none hport]
    rfl
  · rw [State.release, closeGap_none hgap, closeAtRelease_some hport]
    have hopen := isOpen_of_filling hfilling
    generalize ho : (if (s.bank b).drop = .held then FrameOutcome.droppedHeld else .droppedClosing) = o
    have hdropped : o.isDropped = true := by subst ho; split <;> rfl
    have hfreed := settleIntake_bank_self o hopen
    have hcount := settleIntake_dropped hopen hdropped
    have hlast := settleIntake_last o hopen
    have hevent := settleIntake_event hopen hdropped
    have hmem : (s.settleIntake b o).mem = s.mem := by simp
    generalize s.settleIntake b o = t at hfreed hcount hlast hevent hmem ⊢
    exact ⟨rfl, rfl, rfl, rfl, hmem, congrArg Bank.state hfreed, hcount, congrArg LastFrame.outcome hlast, hevent, rfl⟩
  · exact ⟨by simp [State.release], rfl, rfl⟩

end Sys2Proof.Machine

/-! ### ABORT's two steps (R22, R136, R158, R175, R182) -/

namespace Sys2Proof.Machine

/-! #### The stop meets pass, job and context operation -/

section

variable {s : State} {p : Pass}

theorem atBoundary_iff (p : Pass) : p.atBoundary = true ↔ ∀ i, p.stage ≠ .lookup i true := by
  unfold Pass.atBoundary
  cases hstage : p.stage with
  | lookup i second => cases second <;> simp
  | _ => simp

theorem stopPass_none (h : s.me.pass = none) : s.stopPass = s := by simp only [State.stopPass, h]

theorem stopPass_some (h : s.me.pass = some p) :
    s.stopPass = if p.atBoundary then s.endPassWith p .abandoned else s := by simp only [State.stopPass, h]

theorem stopPass_boundary (h : s.me.pass = some p) (hb : ∀ i, p.stage ≠ .lookup i true) :
    s.stopPass = s.endPassWith p .abandoned := by rw [stopPass_some h, if_pos ((atBoundary_iff p).mpr hb)]

theorem stopPass_inside {i : Nat} (h : s.me.pass = some p) (hi : p.stage = .lookup i true) : s.stopPass = s := by
  rw [stopPass_some h, if_neg fun hb => (atBoundary_iff p).mp hb i hi]

/-- No pass is left where the one there was stood at a boundary. -/
theorem stopPass_pass (h : ∀ p i, s.me.pass = some p → p.stage ≠ .lookup i true) : s.stopPass.me.pass = none := by
  cases hpass : s.me.pass with
  | none => rw [stopPass_none hpass, hpass]
  | some p => rw [stopPass_boundary hpass fun i => h p i hpass, endPassWith_pass]

theorem stopJob_begun (h : s.eu.state = .running) (hline : s.eu.lineBegun = true) :
    s.stopJob = { s with eu := { s.eu with state := .stopping } } := by
  simp only [State.stopJob, h]
  exact if_pos hline

theorem stopJob_between (h : s.eu.state = .running) (hline : s.eu.lineBegun = false) :
    s.stopJob = s.endJob .stopped := by
  simp only [State.stopJob, h, hline]
  rfl

theorem endJob_event (s : State) (r : JobResult) : (s.endJob r).li.events.getLsbD 4 = true := raise_bit _ .exportDone

theorem stopContext_rollback {k : SlotId} (h : s.cx.op = .verify k ∨ s.cx.op = .apply k) :
    s.stopContext = (s.endRollback k .cancelled).dropWaitingFinish := by
  obtain h | h := h <;> simp only [State.stopContext, h]

theorem stopContext_save {k : SlotId} (h : s.cx.op = .quiet k ∨ ∃ v, s.cx.op = .copy k v) :
    s.stopContext = { s with cx := s.cx.endSave } := by
  obtain h | ⟨v, h⟩ := h <;> simp only [State.stopContext, h]

theorem endSave_op (h : (∃ k, c.op = .quiet k) ∨ ∃ k v, c.op = .copy k v) : (Context.endSave c).op = .none := by
  obtain ⟨k, h⟩ | ⟨k, v, h⟩ := h <;> simp [Context.endSave, h]

theorem stopContext_idle (s : State) : s.stopContext.cx.op = .none := by
  cases hop : s.cx.op with
  | none => simp [State.stopContext, hop]
  | quiet k => rw [stopContext_save (.inl hop)]; exact endSave_op (.inl ⟨k, hop⟩)
  | copy k v => rw [stopContext_save (.inr ⟨v, hop⟩)]; exact endSave_op (.inr ⟨k, v, hop⟩)
  | verify k => rw [stopContext_rollback (.inl hop)]; simp [State.endRollback]
  | apply k => rw [stopContext_rollback (.inr hop)]; simp [State.endRollback]

theorem exec_abort (h : s.delivers .abort [] = true) : exec (.abort []) s = .next
    (if s.sc.sweep = .idle then s.refuse .wrongState else s.abortStop) := by
  show execAbort [] s = _
  rw [execAbort, command_delivered h rfl]

/-- The command as it stands in processing, before the stop meets anything. -/
def State.abortHeld (s : State) : State := { s with li := { s.li with processing := some .aborting } }

theorem abortStop_eq (s : State) : s.abortStop = s.abortHeld.stopContext.stopPass.stopJob := rfl

/-- What the stop step leaves and what it leaves as it was. -/
theorem abortStop_keeps (s : State) :
    s.abortStop.li.processing = some .aborting ∧ s.abortStop.cx.op = .none ∧ s.abortStop.sc.sweep = s.sc.sweep ∧
    s.abortStop.pw = s.pw ∧ s.abortStop.bu = s.bu ∧ s.abortStop.ltc = s.ltc ∧ s.abortStop.mem = s.mem ∧
    s.abortStop.geo = s.geo ∧ s.abortStop.prm = s.prm ∧ s.abortStop.dr = s.dr ∧
    s.abortStop.me.motion = s.me.motion ∧ s.abortStop.sc.flags = s.sc.flags := by
  simp [abortStop_eq, State.abortHeld, stopContext_idle]

theorem abortStop_event {u : State} (hu : u = s.abortHeld.stopContext) (e : Event)
    (h : u.li.events.getLsbD e.bit = true) : s.abortStop.li.events.getLsbD e.bit = true := by
  rw [abortStop_eq, ← hu]
  have L := eventsKept_bookLaw u
  exact (L.stopJob (L.stopPass ⟨fun _ h => h, rfl⟩)).1 e h

end

/-! #### Frames without an outcome become ABANDONED (R22) -/

/-- From `s` to `t` frames without an outcome were set aside as ABANDONED, and nothing else was counted. -/
structure Abandons (s t : State) : Prop where
  setAside : t.sc.setAside + BitVec.ofNat 32 t.openBanks = s.sc.setAside + BitVec.ofNat 32 s.openBanks
  placed : t.sc.placed = s.sc.placed
  dropped : t.sc.dropped = s.sc.dropped
  last : t.sc.last.outcome = .abandoned ∨ t.openBanks = s.openBanks

namespace Abandons

variable {s t : State} {b : BankId}

theorem refl (s : State) : Abandons s s := ⟨rfl, rfl, rfl, .inr rfl⟩

theorem settleIntake_openBanks {o : FrameOutcome} (h : (s.bank b).state.isOpen = true) :
    (s.settleIntake b o).openBanks + 1 = s.openBanks := by
  rw [openBanks_of_banks (s := s.freeBank b)
    (by rw [(settleIntake_eq s b o).1, settle_open _ h, recordOutcome_pi])]
  exact openBanks_setBank_closed h rfl

theorem settleIntake (h : Abandons s t) : Abandons s (t.settleIntake b .abandoned) := by
  obtain ⟨hpi, hsc, -⟩ := settleIntake_eq t b .abandoned
  cases hopen : (t.bank b).state.isOpen with
  | false =>
    obtain ⟨hpi, hsc, -⟩ := settleIntake_closed (s := t) (b := b) .abandoned hopen
    have hbanks : (t.settleIntake b .abandoned).openBanks = t.openBanks := openBanks_of_banks (by rw [hpi])
    exact ⟨by rw [hsc, hbanks, h.setAside], by rw [hsc, h.placed], by rw [hsc, h.dropped], by rw [hsc, hbanks]; exact h.last⟩
  | true =>
    rw [settle_open _ hopen] at hsc
    have hcount := settleIntake_openBanks (o := .abandoned) hopen
    refine ⟨?_, ?_, ?_, .inl (by rw [hsc, recordOutcome_last]; rfl)⟩
    · rw [← h.setAside, ← hcount, BitVec.ofNat_add, hsc, recordOutcome_setAside, BitVec.add_comm (BitVec.ofNat 32 _) 1#32,
        ← BitVec.add_assoc]
      rfl
    · rw [hsc, recordOutcome_placed, ← h.placed]
      rfl
    · rw [hsc, recordOutcome_dropped, ← h.dropped]
      rfl

theorem foldl (l : List BankId) (h : Abandons s t) :
    Abandons s (l.foldl (fun s b => s.settleIntake b .abandoned) t) := by
  induction l generalizing t with
  | nil => exact h
  | cons b l ih => exact ih h.settleIntake

/-- When every bank has been met, all the frames that waited are counted. -/
theorem met_all (h : Abandons s t) (hnone : t.openBanks = 0) :
    t.sc.setAside = s.sc.setAside + BitVec.ofNat 32 s.openBanks ∧
    (0 < s.openBanks → t.sc.last.outcome = .abandoned) ∧ t.sc.placed = s.sc.placed ∧ t.sc.dropped = s.sc.dropped := by
  refine ⟨?_, fun hpos => h.last.resolve_right (by omega), h.placed, h.dropped⟩
  have := h.setAside
  rw [hnone] at this
  simpa using this

end Abandons

theorem abandonBanks_counts (s : State) :
    s.abandonBanks.sc.setAside = s.sc.setAside + BitVec.ofNat 32 s.openBanks ∧
    (0 < s.openBanks → s.abandonBanks.sc.last.outcome = .abandoned) ∧ s.abandonBanks.sc.placed = s.sc.placed ∧
    s.abandonBanks.sc.dropped = s.sc.dropped := by
  have hall (t : State) (h : Abandons s t) :
      Abandons s (bankIds.foldl (fun s b => s.settleIntake b .abandoned)
        (t.pi.queue.foldl (fun s b => s.settleIntake b .abandoned) t)) := .foldl _ (.foldl _ h)
  unfold State.abandonBanks
  cases s.pi.port with
  | none => exact (hall s (.refl s)).met_all (foldl_settleIntake_openBanks _ _)
  | some b => exact (hall _ (Abandons.refl s).settleIntake).met_all (foldl_settleIntake_openBanks _ _)

theorem abandonBanks_free (s : State) (b : BankId) : (s.abandonBanks.bank b).state = .free := by cases b <;> rfl

/-! #### The table is cleared (R54) -/

theorem Table.lm_clear (t : Table) (i : Nat) : t.clear.lm i = none := by
  cases hentry : t.entries[i]? with
  | none => simp [Table.lm, Table.clear, hentry]
  | some e => cases hlm : e.lm <;> simp [Table.lm, Table.clear, hentry, hlm]

theorem Table.gen_clear (t : Table) (i : Nat) :
    t.clear.gen i = if (t.lm i).isSome then t.gen i + 1#4 else t.gen i := by
  cases hentry : t.entries[i]? with
  | none => simp [Table.gen, Table.lm, Table.clear, hentry]
  | some e => cases hlm : e.lm <;> simp [Table.gen, Table.lm, Table.clear, hentry, hlm]

/-! #### The clear step falls due -/

section

variable {s : State}

theorem blendAtBoundary_iff (s : State) : s.blendAtBoundary = true ↔
    (∀ j, s.bu.join = some j → j.move = ⟨0, []⟩) ∧
      ∀ b, s.bu.pass = some b → ∃ todo, b.stage = .writing todo := by
  unfold State.blendAtBoundary
  rw [Bool.and_eq_true]
  refine and_congr ?_ ?_
  · cases s.bu.join with
    | none => simp
    | some j => exact ⟨fun h k hk => by cases hk; exact of_decide_eq_true h, fun h => decide_eq_true (h j rfl)⟩
  · cases s.bu.pass with
    | none => simp
    | some b => cases hstage : b.stage <;> simp [hstage]

theorem aborting_iff (s : State) : s.aborting = true ↔ s.li.processing = some .aborting := by simp [State.aborting]

theorem abortClear_due (h : s.li.processing = some .aborting) (hpass : s.me.pass = none)
    (hblend : s.blendAtBoundary = true) :
    exec .abortClearStep s = .next ((s.abandonBanks.toIdle.raise .aborted).answer []) := by
  refine congrArg Host.Outcome.next (if_pos ?_)
  simp [(aborting_iff s).mpr h, State.bothStopped, hpass, hblend]

theorem abortClear_notDue
    (h : s.li.processing ≠ some .aborting ∨ s.me.pass ≠ none ∨ s.blendAtBoundary = false) :
    exec .abortClearStep s = .next s := by
  refine congrArg Host.Outcome.next (if_neg fun hdue => ?_)
  obtain ⟨haborting, hstopped⟩ := Bool.and_eq_true_iff.mp hdue
  obtain ⟨hpass, hblend⟩ := Bool.and_eq_true_iff.mp hstopped
  obtain h | h | h := h
  · exact h ((aborting_iff s).mp haborting)
  · exact h (by simpa using hpass)
  · rw [h] at hblend
    cases hblend

end

/-- Settles O24: the stop step is the three stops in their order, and the clear step is `State.abandonBanks` and
`State.toIdle` once both passes have stopped. -/
theorem abortStopsThenClears : Obligations.AbortStopsThenClears := by
  refine ⟨fun s h => ⟨fun hidle => by rw [exec_abort h, if_pos hidle], fun hidle =>
    ⟨_, by rw [exec_abort h, if_neg hidle], ?_⟩⟩, fun s => ⟨blendAtBoundary_iff s, fun h hpass hblend =>
      ⟨_, abortClear_due h hpass hblend, ?_⟩, abortClear_notDue⟩⟩
  · have hme : s.abortHeld.stopContext.me = s.me := by simp [State.abortHeld]
    have hpi : s.abortHeld.stopContext.pi = s.pi := by simp [State.abortHeld]
    have heu : s.abortHeld.stopContext.stopPass.eu = s.eu := by simp [State.abortHeld]
    have hport : s.abortHeld.stopContext.stopPass.port = s.port := by simp [State.abortHeld]
    have haside : s.abortHeld.stopContext.sc.setAside = s.sc.setAside := by simp [State.abortHeld]
    have hcx : s.abortStop.cx = s.abortHeld.stopContext.cx := by simp [abortStop_eq]
    obtain ⟨hprocessing, hop, hsweep, hpw, hbu, hltc, hmem, hgeo, hprm, hdr, hmotion, hflags⟩ := abortStop_keeps s
    refine ⟨hprocessing, hop, hsweep, hpw, hbu, hltc, hmem, hgeo, hprm, hdr, hmotion, hflags,
      fun hb => ⟨?_, fun p b hpass hbank hmatching => ?_⟩, fun p i hpass hi => ?_, fun hrun hline => ?_, fun hrun hline => ?_,
      fun k hop => ?_, fun k v hop => ?_⟩
    · simpa [abortStop_eq] using stopPass_pass (s := s.abortHeld.stopContext) (by rwa [hme])
    · have hstop := stopPass_boundary (s := s.abortHeld.stopContext) (p := p) (by rwa [hme]) fun i => hb p i hpass
      obtain ⟨hfreed, hcount, hlast, -⟩ := endPassWith_outcome (s := s.abortHeld.stopContext) (o := .abandoned) hbank
        (by rw [bank_of_banks (s := s) (by rw [hpi])]; exact hmatching) rfl rfl
      rw [← hstop] at hfreed hcount hlast
      have hsc : s.abortStop.sc = s.abortHeld.stopContext.stopPass.sc := by simp [abortStop_eq]
      have hbanks : s.abortStop.bank b = s.abortHeld.stopContext.stopPass.bank b :=
        bank_of_banks (by simp [abortStop_eq]) b
      rw [hbanks, hsc, hfreed, hcount, hlast, haside]
      exact ⟨rfl, rfl, rfl, rfl⟩
    · rw [abortStop_eq, stopPass_inside (by rwa [hme]) hi]
      simpa using And.intro hme (And.intro hpi haside)
    · rw [abortStop_eq, stopJob_begun (by rwa [heu]) (by rwa [heu])]
      exact ⟨congrArg (fun e : Export => { e with state := .stopping }) heu, hport⟩
    · rw [abortStop_eq, stopJob_between (by rwa [heu]) (by rwa [heu])]
      exact ⟨rfl, rfl, congrArg (· ++ [PortEvent.frameEnd]) hport, endJob_event _ _⟩
    · rw [hcx]
      have hstop := stopContext_rollback (s := s.abortHeld) hop
      refine ⟨by rw [hstop]; simp [State.endRollback], by rw [hstop]; simp [State.endRollback],
        abortStop_event rfl .rollbackDone ?_⟩
      have hli : (s.abortHeld.endRollback k .cancelled).dropWaitingFinish.li =
          (s.abortHeld.endRollback k .cancelled).li := by simp
      rw [hstop, hli]
      exact raise_bit _ .rollbackDone
    · rw [hcx, stopContext_save (s := s.abortHeld) (k := k) (hop.imp id fun h => ⟨v, h⟩)]
      refine (endSave_slot s.cx k).trans (if_pos (hop.imp id fun h => ⟨v, h⟩))
  · obtain ⟨haside, hlast, hplaced, hdropped⟩ := abandonBanks_counts s
    have hfree := abandonBanks_free s
    have hintake : s.abandonBanks.pi.port = none ∧ s.abandonBanks.pi.waiting = [] ∧ s.abandonBanks.pi.filling = [] ∧
        s.abandonBanks.pi.queue = [] := ⟨rfl, rfl, rfl, rfl⟩
    have hkeeps := s.abandonBanks_keeps
    have hparts := s.abandonBanks_parts
    generalize s.abandonBanks = t at haside hlast hplaced hdropped hfree hintake hkeeps hparts ⊢
    obtain ⟨hgeo, hprm, hmem, -, hltc, -, -, hdr, hcx, heu, -⟩ := hkeeps
    obtain ⟨-, hflags, hmasks, -, hmark0, hmark1, -, hcapture, -, -, -, hcue, -, hstarted, -, -, -, -, hserial, -⟩ := hparts
    obtain ⟨hport, hwaiting, hfilling, hqueue⟩ := hintake
    refine ⟨rfl, hfree, hport, hwaiting, hfilling, hqueue, fun i => Table.lm_clear _ i, fun i => ?_, ?_, rfl, rfl, rfl, rfl,
      ?_, rfl, rfl, rfl, rfl, raise_bit _ .aborted, rfl, rfl, hflags, hmasks, hmark0, hmark1, hcapture, hcue, haside,
      hlast, hplaced, hdropped, hstarted, hserial, hprm, hgeo, hdr, hcx, heu, hmem⟩
    · exact (Table.gen_clear _ i).trans (by rw [hltc])
    · intro l hl
      obtain ⟨-, -, rfl⟩ := List.mem_map.mp hl
      rfl
    · exact congrArg (fun g : Geometry => (⟨List.replicate g.nBlocks .blank, -32, none, none, none⟩ : Blender)) hgeo

end Sys2Proof.Machine

/-! ### RESUME (R82, R95, R128 to R132) -/

namespace Sys2Proof.Machine

section

variable {s : State}

/-! #### The common checks -/

theorem isHeld_of_held {c : Condition} (h : s.sc.sweep = .held c) : s.sc.sweep.isHeld = true := by rw [h]; rfl

theorem resume_notHeld (f : Condition → State) (h : s.sc.sweep.isHeld = false) : s.resume f = s.refuse .wrongState := by
  unfold State.resume
  cases hsweep : s.sc.sweep with
  | held c => rw [isHeld_of_held hsweep] at h; cases h
  | idle | armed | sweeping | closing | finished => rfl

theorem resume_held {c : Condition} (f : Condition → State) (h : s.sc.sweep = .held c) :
    s.resume f = if s.rollingBack then s.refuse .busy else f c := by simp only [State.resume, h]

theorem resumeHeld_some {p : Pass} (f : Pass → State) (empty : State) (h : s.me.pass = some p) :
    s.resumeHeld f empty = (f p).answer [] := by simp only [State.resumeHeld, h]

theorem exec_resumeAccept (h : s.delivers .resumeAccept [] = true) : exec (.resumeAccept []) s = .next
    (s.resume fun c => s.resumeHeld (fun q => s.acceptDefault q c) (s.acceptNothing c)) := by
  show execResumeAccept [] s = _
  rw [execResumeAccept, command_delivered h rfl]

theorem exec_resumeSkip (h : s.delivers .resumeSkip [] = true) : exec (.resumeSkip []) s = .next
    (s.resume fun c => s.resumeHeld (fun q => s.skipHeld q c) s.leaveHeld) := by
  show execResumeSkip [] s = _
  rw [execResumeSkip, command_delivered h rfl]

theorem exec_resumePlace {a b e : Byte} (h : s.delivers .resumePlace [a, b, e] = true) :
    exec (.resumePlace [a, b, e]) s = .next (s.resume fun c =>
      if !c.placeable then s.refuse .wrongState
      else if s16At [a, b, e] 0 < -2048 ∨ 2047 < s16At [a, b, e] 0 then s.refuse .badValue
      else s.resumeHeld (fun q => s.placeHeld q (s16At [a, b, e] 0) (s8At [a, b, e] 2)) s.leaveHeld) := by
  show execResumePlace [a, b, e] s = _
  rw [execResumePlace, command_delivered h rfl]

theorem exec_resumeRollback {k : Byte} (h : s.delivers .resumeRollback [k] = true) :
    exec (.resumeRollback [k]) s = .next (if !s.sc.sweep.isHeld then s.refuse .wrongState
      else if s.contextBusy then s.refuse .busy
      else match SlotId.ofCode k.toNat with
        | some k => (s.beginVerify k).accept
        | none => s.refuse .badValue) := by
  show execResumeRollback [k] s = _
  rw [execResumeRollback, command_delivered h rfl]
  rfl

theorem slotOfCode_none {n : Nat} (h : 1 < n) : SlotId.ofCode n = none := by
  match n, h with
  | n + 2, _ => rfl

end

/-- Settles O26. -/
theorem resumeChecks : Obligations.ResumeChecks := by
  refine fun s => ⟨fun hheld => ⟨fun h => ?_, fun h => ?_, fun a b c h => ?_, fun k h => ?_⟩,
    fun c hheld hrolling => ⟨fun h => ?_, fun h => ?_, fun a b e h => ?_⟩,
    fun c a b e hheld hrolling h => ⟨fun hc => ?_, fun hc hdx => ?_⟩,
    fun c k hheld h => ⟨fun hop => ?_, fun hop hk => ?_, fun slot hop hk => ?_⟩⟩
  · rw [exec_resumeAccept h, resume_notHeld _ hheld]
  · rw [exec_resumeSkip h, resume_notHeld _ hheld]
  · rw [exec_resumePlace h, resume_notHeld _ hheld]
  · rw [exec_resumeRollback h, hheld]
    rfl
  · rw [exec_resumeAccept h, resume_held _ hheld, if_pos hrolling]
  · rw [exec_resumeSkip h, resume_held _ hheld, if_pos hrolling]
  · rw [exec_resumePlace h, resume_held _ hheld, if_pos hrolling]
  · rw [exec_resumePlace h, resume_held _ hheld, hrolling]
    obtain rfl | rfl | rfl | rfl := hc <;> rfl
  · rw [exec_resumePlace h, resume_held _ hheld, hrolling]
    simp only [if_pos hdx]
    obtain rfl | rfl | rfl | rfl := hc <;> rfl
  · rw [exec_resumeRollback h, isHeld_of_held hheld, (contextBusy_iff s).mpr hop]
    rfl
  · have hidle : s.contextBusy = false := by simp [State.contextBusy, hop]
    rw [exec_resumeRollback h, isHeld_of_held hheld, hidle, slotOfCode_none hk]
    rfl
  · have hidle : s.contextBusy = false := by simp [State.contextBusy, hop]
    rw [exec_resumeRollback h, isHeld_of_held hheld, hidle]
    obtain ⟨rfl, rfl⟩ | ⟨rfl, rfl⟩ := hk <;> rfl

/-! #### Each mode's effect -/

section

variable {s : State} {c : Condition} {p : Pass}

theorem accept_held (h : s.delivers .resumeAccept [] = true) (hheld : s.sc.sweep = .held c)
    (hrolling : s.rollingBack = false) (hpass : s.me.pass = some p) :
    exec (.resumeAccept []) s = .next ((s.acceptDefault p c).answer []) := by
  rw [exec_resumeAccept h, resume_held _ hheld, hrolling, resumeHeld_some _ _ hpass]
  rfl

theorem skip_held (h : s.delivers .resumeSkip [] = true) (hheld : s.sc.sweep = .held c)
    (hrolling : s.rollingBack = false) (hpass : s.me.pass = some p) :
    exec (.resumeSkip []) s = .next ((s.skipHeld p c).answer []) := by
  rw [exec_resumeSkip h, resume_held _ hheld, hrolling, resumeHeld_some _ _ hpass]
  rfl

theorem place_held {a b e : Byte} (h : s.delivers .resumePlace [a, b, e] = true) (hheld : s.sc.sweep = .held c)
    (hrolling : s.rollingBack = false) (hpass : s.me.pass = some p)
    (hc : c = .lowMatch ∨ c = .lost ∨ c = .vertical ∨ c = .speed) (hlow : -2048 ≤ s16At [a, b, e] 0)
    (hhigh : s16At [a, b, e] 0 ≤ 2047) :
    exec (.resumePlace [a, b, e]) s =
      .next ((s.placeHeld p (s16At [a, b, e] 0) (s8At [a, b, e] 2)).answer []) := by
  have hplaceable : c.placeable = true := by obtain rfl | rfl | rfl | rfl := hc <;> rfl
  rw [exec_resumePlace h, resume_held _ hheld, hrolling]
  simp only [hplaceable]
  rw [if_neg (by simp), if_neg (by simp), if_neg (by omega), resumeHeld_some _ _ hpass]

theorem placeMotion_cons (m : Motion) (rest : List Motion) (v : Serial) (x y : Int) :
    placeMotion (m :: rest) ⟨v, x, y⟩ = if m.serial = v then ⟨v, x, y⟩ :: rest else [⟨v, x, y⟩, m] := rfl

/-- ACCEPT of a push: taken anew, or left for after the save or the block write under way. -/
theorem acceptPush_eq (s : State) (p : Pass) : s.acceptPush p =
    if s.saving || (s.insideBlock && s.overflows p.serial) then
      s.leaveHeld.setPass (some { p with stage := .push true })
    else s.leaveHeld.pushMatching p true := rfl

theorem insideBlock_false (h : ∀ b a rest n, s.bu.pass = some b → b.stage ≠ .inBlock a rest n) :
    s.insideBlock = false := by
  unfold State.insideBlock
  cases hpass : s.bu.pass with
  | none => rfl
  | some b =>
    cases hstage : b.stage with
    | inBlock a rest n => exact absurd hstage (h b a rest n hpass)
    | measuring m | writing todo | ending a b => simp [hstage]

theorem insideBlock_true {b : BlendPass} {a rest n} (h : s.bu.pass = some b) (hstage : b.stage = .inBlock a rest n) :
    s.insideBlock = true := by simp [State.insideBlock, h, hstage]

theorem acceptParked_cons {a : Admission} {rest : List Admission} (h : p.admissions = a :: rest) : s.acceptParked p =
    if s.saving then s.leaveHeld.setPass (some { p with stage := .fenced }) else s.leaveHeld.takeAdmission p a true := by
  simp only [State.acceptParked, h]
  rfl

end

/-- A pass that has ended with an outcome: the frame's bank is FREE, the frame set aside under that outcome. -/
structure EndedWith (s t : State) (b : BankId) (o : FrameOutcome) : Prop where
  pass : t.me.pass = none
  bank : (t.bank b).state = .free
  last : t.sc.last.outcome = o
  setAside : t.sc.setAside = s.sc.setAside + 1#32

theorem EndedWith.of_endPassWith {s u : State} {p : Pass} {b : BankId} {o : FrameOutcome} (hpi : u.pi = s.pi)
    (haside : u.sc.setAside = s.sc.setAside) (hbank : p.bank = some b) (hmatching : (s.bank b).state = .matching)
    (ho : o.isDropped = false) (hp : o.isPlaced = false) : EndedWith s ((u.endPassWith p o).answer []) b o := by
  obtain ⟨hfreed, hcount, hlast, -⟩ := endPassWith_outcome (s := u) hbank
    (by rw [bank_of_banks (s := s) (by rw [hpi])]; exact hmatching) ho hp
  exact ⟨rfl, congrArg Bank.state hfreed, congrArg LastFrame.outcome hlast, hcount.trans (by rw [haside])⟩

/-- Settles O27: each mode is one of the judge's, the push's or the batch's own operations, taken on the state that has left
HELD. -/
theorem resumeAppliesItsMode : Obligations.ResumeAppliesItsMode := by
  refine ⟨fun s r c p h hheld hrolling hpass hr => ?_, fun s c p hheld hrolling hpass =>
    ⟨fun b h hc hbank hmatching => ⟨_, skip_held h hheld hrolling hpass, ?_⟩, fun h hc => ?_,
      fun a b e m rest motion x y h hc hlow hhigh hmotion hx hy hnew => ?_⟩⟩
  · have hr : r = s.leaveHeld := hr
    have haccept := accept_held h hheld hrolling hpass
    subst hr
    rw [haccept]
    refine ⟨?_, ?_, ?_, fun hc hsaving => ⟨fun hblock => ?_, fun b a rest n hb hstage hover => ?_⟩, fun hc hsaving => ?_,
      fun a rest hc hadm => ⟨fun hsaving => ?_, fun hsaving => ?_⟩, fun b hbank hmatching => ⟨fun hc => ⟨_, rfl, ?_⟩,
        fun hc => ⟨_, rfl, ?_⟩, fun hc hqueue hport => ⟨_, rfl, ?_⟩⟩⟩
    · rintro rfl
      rfl
    · rintro rfl
      rfl
    · rintro rfl
      rfl
    · subst hc
      have hcond : (s.saving || (s.insideBlock && s.overflows p.serial)) = false := by
        obtain hblock | hover := hblock
        · rw [hsaving, insideBlock_false hblock]
          rfl
        · rw [hsaving, hover, Bool.and_false]
          rfl
      simp only [State.acceptDefault, acceptPush_eq, hcond]
      rfl
    · subst hc
      simp only [State.acceptDefault, acceptPush_eq, hsaving, insideBlock_true hb hstage, hover]
      rfl
    · subst hc
      simp only [State.acceptDefault, acceptPush_eq, hsaving]
      rfl
    · subst hc
      simp only [State.acceptDefault, acceptParked_cons hadm, hsaving]
      rfl
    · subst hc
      simp only [State.acceptDefault, acceptParked_cons hadm, hsaving]
      rfl
    · subst hc
      obtain ⟨hfreed, hcount, hlast, -⟩ := settlePass_outcome (s := s.leaveHeld.setMode .searching 0)
        (lf := ⟨p.serial, .unplaced, 0, 0, p.inliers, 0, 0, 0⟩) hbank hmatching rfl rfl
      exact ⟨by simp [State.acceptDefault, State.lostDefault, State.unplaced, State.setMode, State.setPass, State.leaveHeld,
          State.answer, State.reply],
        by simp [State.acceptDefault, State.lostDefault, State.unplaced, State.setMode, State.setPass, State.answer,
          State.reply],
        by simp [State.acceptDefault, State.lostDefault, State.unplaced, State.setMode, State.setPass, State.answer,
          State.reply], rfl, congrArg Bank.state hfreed, congrArg LastFrame.outcome hlast, hcount, rfl⟩
    · subst hc
      have hend := EndedWith.of_endPassWith (s := s) (u := s.leaveHeld) (p := p) (o := .reversed) rfl rfl hbank hmatching
        rfl rfl
      exact ⟨by simp [State.acceptDefault, State.leaveHeld], hend.pass, hend.bank, hend.last, hend.setAside,
        by simp [State.acceptDefault, State.leaveHeld], rfl⟩
    · subst hc
      have henter := enterClosing_idle hqueue hport
      have hend := EndedWith.of_endPassWith (s := s) (u := s.enterClosing) (p := p) (o := .canvasEnd)
        (by rw [henter]) (by rw [henter]) hbank hmatching rfl rfl
      exact ⟨by simp [State.acceptDefault], hend.pass, hend.bank, hend.last, hend.setAside, rfl⟩
  · have hskip : s.skipHeld p c = s.leaveHeld.endPassWith p .discarded := if_neg hc
    have hend := EndedWith.of_endPassWith (s := s) (u := s.leaveHeld) (p := p) (o := .discarded) rfl rfl hbank hmatching
      rfl rfl
    have hme : (s.leaveHeld.endPassWith p .discarded).me = { s.me with pass := none } := by
      simp [State.endPassWith, State.setPass, State.leaveHeld]
    rw [hskip]
    exact ⟨by simp [State.leaveHeld], hme, hend.bank, hend.last, hend.setAside, by simp [State.leaveHeld],
      by simp [State.leaveHeld], by simp [State.leaveHeld], by simp [State.leaveHeld], rfl⟩
  · subst hc
    rw [skip_held h hheld hrolling hpass]
    rfl
  · rw [place_held h hheld hrolling hpass hc hlow hhigh, State.placeHeld]
    have hpos : offsetFrom s.leaveHeld.geo s.leaveHeld.me.motion (s16At [a, b, e] 0) (s8At [a, b, e] 2) = (x, y) := by
      rw [hx, hy]
      simp [offsetFrom, newestMotion, State.leaveHeld, hmotion]
    have hrecord : placeMotion s.leaveHeld.me.motion ⟨p.serial, x, y⟩ = motion := by
      rw [hnew, ← placeMotion_cons, ← hmotion]
      rfl
    simp only [hpos, hrecord]
    rfl

end Sys2Proof.Machine

/-! ### Directive memory and list (R161 to R163, R170) -/

namespace Sys2Proof.Machine

section

variable {s : State} {a b c : Byte} {off : Nat}

theorem hasMemory_false {s : State} (h : s.hasMemory = false) : (!s.hasMemory) = true := by rw [h]; rfl

theorem exec_writeDirectives {words : List Byte} {n : Nat} (hoff : off = a.toNat + 256 * b.toNat)
    (h : s.delivers .writeDirectives (a :: b :: words) = true) (hlen : words.length = 4 * n) (hlow : 1 ≤ n)
    (hhigh : n ≤ 16) : exec (.writeDirectives (a :: b :: words)) s = .next
      (if 1023 < off then s.refuse .badValue
      else if 1024 < off + n then s.refuse .badValue
      else if !s.hasMemory then s.refuse .noMemory
      else s.setProcessing (.linkWrite off words)) := by
  have hok : writeLength (a :: b :: words).length = true := by
    simp only [writeLength, List.length_cons, hlen]
    exact decide_eq_true (by omega)
  have hwords : ((a :: b :: words).length - 2) / 4 = n := by
    simp only [List.length_cons, hlen]
    omega
  show execWriteDirectives _ s = _
  rw [execWriteDirectives, command_delivered h hok, hwords, hoff]
  rfl

theorem exec_readDirectives (hoff : off = a.toNat + 256 * b.toNat) (h : s.delivers .readDirectives [a, b, c] = true) :
    exec (.readDirectives [a, b, c]) s = .next
      (if 1023 < off then s.refuse .badValue
      else if c.toNat = 0 ∨ 16 < c.toNat then s.refuse .badValue
      else if 1024 < off + c.toNat then s.refuse .badValue
      else if !s.hasMemory then s.refuse .noMemory
      else s.setProcessing (.linkRead off c.toNat)) := by
  show execReadDirectives _ s = _
  rw [execReadDirectives, command_delivered h rfl, hoff]
  rfl

theorem exec_setList_enable {e : Bool} (hoff : off = a.toNat + 256 * b.toNat)
    (h : s.delivers .setList [a, b, c] = true) (hc : bitOfCode c.toNat = some e) : exec (.setList [a, b, c]) s = .next
      (if 1023 < off then s.refuse .badValue else (s.setList off e).answer []) := by
  show execSetList _ s = _
  rw [execSetList, command_delivered h rfl, hoff]
  simp only [show u8At [a, b, c] 2 = c.toNat from rfl, hc]
  rfl

theorem exec_setList_badValue (h : s.delivers .setList [a, b, c] = true) (hc : bitOfCode c.toNat = none) :
    exec (.setList [a, b, c]) s = .next (s.refuse .badValue) := by
  show execSetList _ s = _
  rw [execSetList, command_delivered h rfl]
  simp only [show u8At [a, b, c] 2 = c.toNat from rfl, hc]

/-- A gap ends; a word it had read is applied first. -/
theorem closeGap_unread (h : ∀ g, s.dr.gap = some g → g.word = none) :
    s.closeGap = { s with dr := { s.dr with gap := none } } := by
  cases hgap : s.dr.gap with
  | none =>
    rw [closeGap_none hgap, ← hgap]
  | some g =>
    obtain ⟨frame, w⟩ := g
    obtain rfl : w = none := h _ hgap
    simp only [State.closeGap, hgap, State.dropGap]

theorem closeGap_read {frame : Serial} {w : ReadWord} (h : s.dr.gap = some ⟨frame, some w⟩) :
    s.closeGap = (s.applyWord frame w).dropGap := by simp only [State.closeGap, h]

end

/-- Settles O34: the checks of each command in their order. -/
theorem directiveMemoryCommands : Obligations.DirectiveMemoryCommands := by
  refine fun s a b c off hoff => ⟨fun words n h hlen hlow hhigh => ?_, fun h => ?_, fun h => ?_⟩
  · rw [exec_writeDirectives hoff h hlen hlow hhigh]
    refine ⟨fun hlong => ?_, fun hfits hmem => ?_, fun hfits hmem => ?_⟩
    · rw [if_pos hlong, ite_self]
    · rw [if_neg (by omega), if_neg (by omega), hmem]
      rfl
    · rw [if_neg (by omega), if_neg (by omega), hmem]
      rfl
  · rw [exec_readDirectives hoff h]
    refine ⟨fun hbad => ?_, fun hlow hhigh hfits hmem => ?_, fun hlow hhigh hfits hmem => ?_⟩
    · obtain hzero | hhigh | hlong | hoff := hbad
      · rw [if_pos (c := _ ∨ _) (.inl ((toNat_eq_zero_iff c).mpr hzero)), ite_self]
      · rw [if_pos (c := _ ∨ _) (.inr hhigh), ite_self]
      · rw [if_pos (c := 1024 < _) hlong, ite_self, ite_self]
      · rw [if_pos hoff]
    · rw [if_neg (by omega), if_neg (by omega), if_neg (by omega), hmem]
      rfl
    · rw [if_neg (by omega), if_neg (by omega), if_neg (by omega), hmem]
      rfl
  · refine ⟨fun hbad => ?_, fun hle hc => ?_, fun hle hc hgap => ?_, fun frame w n hle hc hgap => ⟨_, rfl, ?_⟩⟩
    · cases hc : bitOfCode c.toNat with
      | none => rw [exec_setList_badValue h hc]
      | some e =>
        rw [exec_setList_enable hoff h hc, if_pos (hbad.resolve_left fun hbig => ?_)]
        rw [(bitOfCode_none _).mpr hbig] at hc
        cases hc
    · rw [exec_setList_enable (e := true) hoff h (by rw [hc]; rfl), if_neg (by omega)]
      rfl
    · rw [exec_setList_enable (e := false) hoff h (by rw [hc]; rfl), if_neg (by omega)]
      simp only [State.setList, closeGap_unread hgap]
      rfl
    · rw [exec_setList_enable (e := false) hoff h (by rw [hc]; rfl), if_neg (by omega)]
      simp only [State.setList, closeGap_read hgap]
      rfl

end Sys2Proof.Machine

/-! ### CHECKPOINT, its copy phase and its completion (R171 to R174, R176) -/

namespace Sys2Proof.Machine

/-! #### Slots -/

section

variable (c : Context) (k : SlotId) (v : Slot)

@[simp] theorem setSlot_same : (c.setSlot k v).slot k = v := by cases k <;> rfl

theorem setSlot_other {j : SlotId} (h : j ≠ k) : (c.setSlot k v).slot j = c.slot j := by
  cases j <;> cases k <;> simp_all [Context.setSlot, Context.slot]

@[simp] theorem setSlot_results :
    (c.setSlot k v).lastResult = c.lastResult ∧ (c.setSlot k v).lastSlot = c.lastSlot := by cases k <;> exact ⟨rfl, rfl⟩

theorem slotOfCode_code (n : Byte) (h : n = byteOf k.code) : SlotId.ofCode n.toNat = some k := by
  subst h
  cases k <;> rfl

end

section

variable {s : State}

theorem quietPoint_iff (s : State) : s.quietPoint = true ↔ (∀ r ∈ s.pw, r.state = .blended) ∧
    ∀ p, s.me.pass = some p → p.stage ≠ .report ∧ ∀ a, p.stage ≠ .batch a := by
  unfold State.quietPoint State.batchOpen
  rw [Bool.and_eq_true]
  refine and_congr (by simp) ?_
  cases s.me.pass with
  | none => simp
  | some p => cases hstage : p.stage <;> simp [hstage]

/-- The image of R176, whole, with its check. -/
theorem image_fields (s : State) (m : Image) (h : m = s.image) : m.format = Config.formatNumber ∧ m.geo = s.geo ∧
    m.progress = s.sc.progress ∧ m.mode = s.me.mode ∧
    m.predicted = s.me.predicted ∧ m.flags = s.sc.flags ∧ m.masks = s.sc.masks ∧ m.mark0 = s.sc.mark0 ∧
    m.mark1 = s.sc.mark1 ∧ m.closure = s.sc.closure ∧ m.commitLine = s.bu.commitLine ∧ m.motion = s.me.motion ∧
    m.landmarks.length = 256 ∧ (∀ i, i < 256 → m.landmarks[i]? = some ((s.ltc.lm i).map fun r =>
      ⟨r.pinned, r.origin, r.x, r.y, r.descriptor, r.strength, r.hits, r.misses, r.firstSeen, r.lastSeen, r.bin,
        (s.ltc.bin r.bin).findIdx fun j => decide (j = i)⟩)) ∧
    m.window.length = 8 ∧ (∀ d, d < 8 → m.window[d]? = some (s.pw[d]?.map fun r => { r with owned := 0 })) ∧
    m.coverage = s.bu.coverage ∧ m.reserved = 0 ∧ m.crc = Config.imageCrc m.numbers := by
  subst h
  refine ⟨rfl, rfl, rfl, rfl, rfl, rfl, rfl, rfl, rfl, rfl, rfl, rfl, ?_, fun i hi => ?_, ?_, fun d hd => ?_, rfl, rfl, rfl⟩
  · simp [State.image, State.imageBody]
  · simp [State.image, State.imageBody, hi, Table.imageOf]
  · simp [State.image, State.imageBody]
  · simp [State.image, State.imageBody, hd]

theorem exec_checkpoint {n : Byte} (h : s.delivers .checkpoint [n] = true) : exec (.checkpoint [n]) s = .next
    (if !s.sc.sweep.canRollBack then s.refuse .wrongState
    else if s.contextBusy then s.refuse .busy
    else match SlotId.ofCode n.toNat with
      | none => s.refuse .badValue
      | some k => if !s.hasMemory then s.refuse .noMemory else (s.beginSave k).accept) := by
  show execCheckpoint [n] s = _
  rw [execCheckpoint, command_delivered h rfl]
  rfl

/-- The context as a save in its copy phase begins it. -/
def State.copyContext (s : State) (k : SlotId) : Context :=
  { s.cx.setSlot k ⟨.saving, none, some s.image⟩ with op := .copy k s.pi.serial, moved := 0 }

theorem beginCopy_eq (s : State) (k : SlotId) : s.beginCopy k = { s with cx := s.copyContext k } := rfl

/-- What a copy phase's beginning does to slots and results. -/
theorem copyContext_parts (s : State) (k : SlotId) : (s.copyContext k).op = .copy k s.pi.serial ∧
    (s.copyContext k).slot k = ⟨.saving, none, some s.image⟩ ∧ (∀ j, j ≠ k → (s.copyContext k).slot j = s.cx.slot j) ∧
    (s.copyContext k).lastResult = s.cx.lastResult ∧ (s.copyContext k).lastSlot = s.cx.lastSlot :=
  ⟨rfl, setSlot_same _ _ _, fun _ h => setSlot_other _ _ _ h, (setSlot_results _ _ _).1, (setSlot_results _ _ _).2⟩

theorem ringWaits_cx (s : State) : s.ringWaits .cx = s.contextWaits := rfl

theorem contextBusy_false (h : s.cx.op = .none) : s.contextBusy = false := by simp [State.contextBusy, h]

/-- The sweep and the operation are checked first. -/
theorem exec_checkpoint_ready {n : Byte} (h : s.delivers .checkpoint [n] = true) (hsweep : s.sc.sweep.canRollBack = true)
    (hop : s.cx.op = .none) : exec (.checkpoint [n]) s = .next (match SlotId.ofCode n.toNat with
      | none => s.refuse .badValue
      | some k => if !s.hasMemory then s.refuse .noMemory else (s.beginSave k).accept) := by
  rw [exec_checkpoint h, hsweep, contextBusy_false hop]
  rfl

theorem slotOfCode_some {n : Byte} (h : n.toNat ≤ 1) : ∃ k, SlotId.ofCode n.toNat = some k := by
  obtain h | h : n.toNat = 0 ∨ n.toNat = 1 := by omega
  · exact ⟨.s0, by rw [h]; rfl⟩
  · exact ⟨.s1, by rw [h]; rfl⟩

theorem copyPhase_quiet {k : SlotId} (hop : s.cx.op = .quiet k) :
    exec .copyPhase s = .next (if s.quietPoint then s.beginCopy k else s) := by
  show execCopyPhase s = _
  simp only [execCopyPhase, hop]

theorem saveComplete_copy {k : SlotId} {v : Serial} (hop : s.cx.op = .copy k v) :
    exec .saveComplete s = .next (if s.contextWaits then s else s.completeSave k v) := by
  show execSaveComplete s = _
  simp only [execSaveComplete, hop]

theorem copyPhase_other (hop : ∀ k, s.cx.op ≠ .quiet k) : exec .copyPhase s = .next s := by
  show execCopyPhase s = _
  cases h : s.cx.op with
  | quiet k => exact absurd h (hop k)
  | none | copy k v | verify k | apply k => simp only [execCopyPhase, h]

theorem saveComplete_other (hop : ∀ k v, s.cx.op ≠ .copy k v) : exec .saveComplete s = .next s := by
  show execSaveComplete s = _
  cases h : s.cx.op with
  | copy k v => exact absurd h (hop k v)
  | none | quiet k | verify k | apply k => simp only [execSaveComplete, h]

end

/-- Settles O35. -/
theorem checkpointWaitsCopiesAndCompletes : Obligations.CheckpointWaitsCopiesAndCompletes := by
  intro s quiet taken hquiet htaken
  have hpoint : s.quietPoint = true ↔ quiet := (quietPoint_iff s).trans hquiet.symm
  have himage : taken s.image := (htaken _).mpr (image_fields s _ rfl)
  refine ⟨fun n h => ⟨fun hsweep => ?_, fun hsweep hop => ?_, fun hsweep hop => ⟨fun hn => ?_, fun hn hmem => ?_,
      fun k hn hmem => ?_⟩⟩, fun k hop => ⟨fun hq => ?_, fun hq => ?_⟩, fun hwaits => ?_, fun k v hop hwaits => ?_,
    copyPhase_other, saveComplete_other⟩
  · rw [exec_checkpoint h, hsweep]
    rfl
  · rw [exec_checkpoint h, hsweep, (contextBusy_iff s).mpr hop]
    rfl
  · rw [exec_checkpoint_ready h hsweep hop, slotOfCode_none hn]
  · obtain ⟨k, hk⟩ := slotOfCode_some hn
    rw [exec_checkpoint_ready h hsweep hop, hk, hmem]
    rfl
  · rw [exec_checkpoint_ready h hsweep hop, slotOfCode_code k n hn, hmem]
    by_cases hq : quiet
    · obtain ⟨hop, hslot, hother, hresult, hlast⟩ := copyContext_parts s k
      refine ⟨s.copyContext k, ?_, hother, hresult, hlast, fun _ => ⟨hop, s.image, himage, hslot⟩, fun h => absurd hq h⟩
      simp only [State.beginSave, hpoint.mpr hq]
      rfl
    · refine ⟨{ s.cx.setSlot k ⟨.saving, none, (s.cx.slot k).image⟩ with op := .quiet k }, ?_,
        fun j hj => setSlot_other _ _ _ hj, (setSlot_results _ _ _).1, (setSlot_results _ _ _).2, fun h => absurd h hq,
        fun _ => ⟨rfl, setSlot_same _ _ _⟩⟩
      simp only [State.beginSave, mt hpoint.mp hq]
      rfl
  · rw [copyPhase_quiet hop, if_neg (mt hpoint.mp hq)]
  · obtain ⟨hop', hslot, hother, hresult, hlast⟩ := copyContext_parts s k
    refine ⟨s.copyContext k, s.image, ?_, himage, hop', hslot, hother, hresult, hlast⟩
    rw [copyPhase_quiet hop, if_pos (hpoint.mpr hq), beginCopy_eq]
  · rw [ringWaits_cx] at hwaits
    by_cases hop : ∃ k v, s.cx.op = .copy k v
    · obtain ⟨k, v, hop⟩ := hop
      rw [saveComplete_copy hop, if_pos hwaits]
    · exact saveComplete_other fun k v h => hop ⟨k, v, h⟩
  · rw [ringWaits_cx] at hwaits
    refine ⟨{ s.cx.setSlot k ⟨.valid, some v, (s.cx.slot k).image⟩ with op := .none }, ?_, rfl, setSlot_same _ _ _,
      fun j hj => setSlot_other _ _ _ hj, (setSlot_results _ _ _).1, (setSlot_results _ _ _).2⟩
    rw [saveComplete_copy hop, hwaits]
    rfl

end Sys2Proof.Machine

/-! ### ROLLBACK and the end of its verify (R140, R142, R177, R178) -/

namespace Sys2Proof.Machine

/-! #### A frame given up by a FINISH -/

section

variable {s : State} {b c : BankId}

/-- A bank without a waiting frame stands while frames are settled. -/
theorem settleIntake_bank_closed (o : FrameOutcome) (h : (s.bank c).state.isOpen = false) :
    (s.settleIntake b o).bank c = s.bank c := by
  by_cases hb : c = b
  · subst hb
    exact congrArg (fun k : Intake => k.banks.get c) (settleIntake_closed o h).1
  · exact settleIntake_bank_other o hb

theorem releaseQueue_bank_closed (h : (s.bank c).state.isOpen = false) : s.releaseQueue.bank c = s.bank c := by
  unfold State.releaseQueue
  generalize s.pi.queue = l
  induction l generalizing s with
  | nil => rfl
  | cons b l ih => rw [List.foldl_cons, ih (by rwa [settleIntake_bank_closed _ h]), settleIntake_bank_closed _ h]

/-- A FREE bank stays FREE when the sweep enters CLOSING or FINISHED. -/
theorem markStoring_releaseQueue_free {m : DropMark} (h : (s.bank c).state = .free) :
    ((s.markStoring m).releaseQueue.bank c).state = .free := by
  have hfree : ((s.markStoring m).bank c).state = .free := by rw [markStoring_bank_state, h]
  rw [releaseQueue_bank_closed (by rw [hfree]; rfl), hfree]

theorem releaseQueue_setAside (s : State) : s.releaseQueue.sc.setAside = s.sc.setAside := by
  unfold State.releaseQueue
  generalize s.pi.queue = l
  induction l generalizing s with
  | nil => rfl
  | cons b l ih => rw [List.foldl_cons, ih, settleIntake_setAside rfl]

/-- FINISH in HELD gives up a frame held at the judge or the push. -/
theorem finishSweep_heldFrame {cause : Condition} {p : Pass} (hheld : s.sc.sweep = .held cause)
    (hpass : s.me.pass = some p) (hstage : p.stage = .judgeHeld ∨ p.stage = .pushHeld) (hbank : p.bank = some b)
    (hmatching : (s.bank b).state = .matching) : s.finishSweep.sc.sweep = .closing ∧ s.finishSweep.me.pass = none ∧
    (s.finishSweep.bank b).state = .free ∧ s.finishSweep.sc.setAside = s.sc.setAside + 1#32 := by
  obtain ⟨hfreed, haside, -⟩ := endPassWith_outcome (o := .discarded) hbank hmatching rfl rfl
  rw [finishSweep_held hheld, giveUpHeld_held hpass hstage]
  refine ⟨enterClosing_sweep _, by simp, ?_, (enterClosing_setAside _).trans haside⟩
  exact markStoring_releaseQueue_free (s := { s.endPassWith p .discarded with sc := _ }) (congrArg Bank.state hfreed)

/-- FINISH in HELD ends a parked batch. -/
theorem finishSweep_parked {cause : Condition} {p : Pass} (hheld : s.sc.sweep = .held cause) (hpass : s.me.pass = some p)
    (hstage : p.stage = .parked) : s.finishSweep.sc.sweep = .closing ∧
    s.finishSweep.me.pass = some { p with admissions := [], stage := .report } ∧
    s.finishSweep.sc.setAside = s.sc.setAside := by
  rw [finishSweep_held hheld, giveUpHeld_parked hpass hstage]
  exact ⟨enterClosing_sweep _, by simp [State.setPass], enterClosing_setAside _⟩

/-- FINISH in ARMED gives up the origin frame. -/
theorem finishArmed_originFrame {p : Pass} (hpass : s.me.pass = some p) (hbank : p.bank = some b)
    (hmatching : (s.bank b).state = .matching) :
    (s.finishArmed.bank b).state = .free ∧ s.finishArmed.sc.setAside = s.sc.setAside + 1#32 := by
  obtain ⟨hfreed, haside, -⟩ := endPassWith_outcome (o := .discarded) hbank hmatching rfl rfl
  simp only [State.finishArmed, hpass]
  refine ⟨?_, ?_⟩
  · exact markStoring_releaseQueue_free (s := { s.endPassWith p .discarded with sc := _ }) (congrArg Bank.state hfreed)
  · refine (releaseQueue_setAside _).trans ?_
    simpa using haside

end

/-! #### FINISH actions that waited (R140, R142) -/

section

variable {s : State}

/-- The state with what waited as a FINISH taken off, and the capture's result as given. -/
def State.withoutWaits (s : State) (c : Capture) : State :=
  { s with sc := { s.sc with markFinishWaits := false, captureFinishWaits := false, capture := c } }

theorem withoutWaits_self {c : Capture} (hmark : s.sc.markFinishWaits = false) (hwaits : s.sc.captureFinishWaits = false)
    (hc : s.sc.capture = c) : s.withoutWaits c = s := by
  have hset (m w : Bool) (hm : s.sc.markFinishWaits = m) (hw : s.sc.captureFinishWaits = w) :
      { s with sc := { s.sc with markFinishWaits := m, captureFinishWaits := w, capture := c } } = s := by
    subst hm hw hc
    rfl
  exact hset false false hmark hwaits

/-- The capture's record once the FINISH actions that waited have been taken. -/
def State.captureAfter (s : State) : Capture :=
  if s.sc.captureFinishWaits then { s.sc.capture with
    result := if s.sc.markFinishWaits ∨ s.sc.sweep.canFinish = false then .none else .taken } else s.sc.capture

theorem takeWaitingFinish_none (hmark : s.sc.markFinishWaits = false) (hwaits : s.sc.captureFinishWaits = false) :
    s.takeWaitingFinish = s := by simp [State.takeWaitingFinish, hmark, hwaits]

/-- After a FINISH has been taken none can be taken. -/
theorem finishSweep_canFinish (s : State) : s.finishSweep.sc.sweep.canFinish = false := by
  unfold State.finishSweep
  cases hsweep : s.sc.sweep with
  | armed => rw [show s.finishArmed.sc.sweep = .finished from (finishArmed_ends s).1]; rfl
  | sweeping => rw [enterClosing_sweep]; rfl
  | held c => rw [enterClosing_sweep]; rfl
  | idle | closing | finished => rw [hsweep]; rfl

/-- What waited is taken as one FINISH, on a state that differs in the capture's record and in what waits. -/
theorem takeWaitingFinish_some (hwaits : s.sc.markFinishWaits = true ∨ s.sc.captureFinishWaits = true)
    (hcan : s.sc.sweep.canFinish = true) : ∃ w c,
    s.takeWaitingFinish = (({ s with sc := { s.sc with
      markFinishWaits := false, captureFinishWaits := w, capture := c } } : State).finishSweep).withoutWaits
        s.captureAfter := by
  cases hmark : s.sc.markFinishWaits with
  | true =>
    refine ⟨s.sc.captureFinishWaits, s.sc.capture, ?_⟩
    have hcannot := finishSweep_canFinish ({ s with sc := { s.sc with markFinishWaits := false } } : State)
    have hkeeps := State.finishSweep_parts ({ s with sc := { s.sc with markFinishWaits := false } } : State)
    simp only [State.takeWaitingFinish, hmark, if_true, State.captureAfter]
    generalize ({ s with sc := { s.sc with markFinishWaits := false } } : State).finishSweep = t at hcannot hkeeps ⊢
    obtain ⟨-, -, -, -, -, htmark, htcapture, -, htwaits, -⟩ := hkeeps
    have htmark : t.sc.markFinishWaits = false := htmark
    have htcapture : t.sc.capture = s.sc.capture := htcapture
    cases hcap : s.sc.captureFinishWaits with
    | true =>
      rw [hcap] at htwaits
      simp only [htwaits, hcannot, State.setCaptureResult, State.withoutWaits, htcapture, if_true]
      simp [htmark]
    | false =>
      rw [hcap] at htwaits
      simp only [htwaits]
      exact (withoutWaits_self htmark htwaits htcapture).symm
  | false =>
    have hcap := hwaits.resolve_left (by simp [hmark])
    refine ⟨false, { s.sc.capture with result := .taken }, ?_⟩
    have hset : s.setCaptureResult .taken = { s with sc := { s.sc with
        markFinishWaits := false, captureFinishWaits := false, capture := { s.sc.capture with result := .taken } } } := by
      simp only [State.setCaptureResult, ← hmark]
    have hkeeps := State.finishSweep_parts (s.setCaptureResult .taken)
    have htake : s.takeWaitingFinish = (s.setCaptureResult .taken).finishSweep := by
      simp [State.takeWaitingFinish, hmark, hcap, hcan]
    obtain ⟨-, -, -, -, -, htmark, htcapture, -, htwaits, -⟩ := hkeeps
    rw [htake, ← hset]
    refine (withoutWaits_self (htmark.trans hmark) htwaits ?_).symm
    rw [htcapture]
    simp [State.captureAfter, hcap, hmark, hcan, State.setCaptureResult]

/-- In CLOSING and FINISHED nothing waits for anything but the capture's result. -/
theorem takeWaitingFinish_late (hsweep : s.sc.sweep = .closing ∨ s.sc.sweep = .finished) :
    s.takeWaitingFinish = s.withoutWaits s.captureAfter := by
  have hcannot : s.sc.sweep.canFinish = false := by obtain h | h := hsweep <;> rw [h] <;> rfl
  have hfinish (t : State) (ht : t.sc.sweep = s.sc.sweep) : t.finishSweep = t := by
    obtain h | h := hsweep <;> simp only [State.finishSweep, ht, h]
  have htake : s.takeWaitingFinish =
      if s.sc.captureFinishWaits then
        ({ s with sc := { s.sc with markFinishWaits := false } } : State).setCaptureResult .none
      else { s with sc := { s.sc with markFinishWaits := false } } := by
    cases hmark : s.sc.markFinishWaits with
    | true => simp [State.takeWaitingFinish, hmark, hfinish, hcannot]
    | false =>
      have hself : ({ s with sc := { s.sc with markFinishWaits := false } } : State) = s := by rw [← hmark]
      rw [hself]
      simp [State.takeWaitingFinish, hmark, hcannot]
  rw [htake]
  cases hcap : s.sc.captureFinishWaits with
  | true => simp [State.withoutWaits, State.captureAfter, State.setCaptureResult, hcap, hcannot]
  | false => simp [State.withoutWaits, State.captureAfter, hcap]

end

/-! #### ROLLBACK and VERIFY_END -/

section

variable {s : State} {k : SlotId}

theorem exec_rollback_ready {n : Byte} (h : s.delivers .rollback [n] = true) (hsweep : s.sc.sweep.canRollBack = true)
    (hop : s.cx.op = .none) : exec (.rollback [n]) s = .next (match SlotId.ofCode n.toNat with
      | none => s.refuse .badValue
      | some k => if !s.hasMemory then s.refuse .noMemory
        else if (s.cx.slot k).state = .empty then s.refuse .slotEmpty
        else (s.beginVerify k).accept) := by
  show execRollback [n] s = _
  rw [execRollback, command_delivered h rfl, hsweep, contextBusy_false hop]
  rfl

theorem exec_rollback_refused {n : Byte} (h : s.delivers .rollback [n] = true) :
    (s.sc.sweep.canRollBack = false → exec (.rollback [n]) s = .next (s.refuse .wrongState)) ∧
    (s.sc.sweep.canRollBack = true → s.cx.op ≠ .none → exec (.rollback [n]) s = .next (s.refuse .busy)) := by
  refine ⟨fun hsweep => ?_, fun hsweep hop => ?_⟩
  · show execRollback [n] s = _
    rw [execRollback, command_delivered h rfl, hsweep]
    rfl
  · show execRollback [n] s = _
    rw [execRollback, command_delivered h rfl, hsweep, (contextBusy_iff s).mpr hop]
    rfl

theorem verifyEnd_waits (h : s.contextWaits = true) (hop : s.cx.op = .verify k) : exec .verifyEnd s = .next s := by
  show execVerifyEnd s = _
  simp only [execVerifyEnd, hop, h, if_true]

/-- The verify of a slot that cannot be applied ends with its result. -/
theorem verifyEnd_fails {r : RollbackResult} (hop : s.cx.op = .verify k) (hread : s.contextWaits = false)
    (h : (r = .slotEmpty ∧ (s.cx.slot k).state ≠ .valid) ∨
      (∃ m, (s.cx.slot k).state = .valid ∧ (s.cx.slot k).image = some m ∧ ((r = .badImage ∧ m.passes s.geo = false) ∨
        (r = .cancelled ∧ m.passes s.geo = true ∧ s.sc.sweep.canRollBack = false)))) :
    exec .verifyEnd s = .next (s.endRollback k r).takeWaitingFinish := by
  show execVerifyEnd s = _
  obtain ⟨rfl, hstate⟩ | ⟨m, hstate, himage, ⟨rfl, hpasses⟩ | ⟨rfl, hpasses, hsweep⟩⟩ := h
  · simp [execVerifyEnd, hop, hread, Slot.validImage, hstate, State.verifyFails]
  · simp [execVerifyEnd, hop, hread, Slot.validImage, hstate, himage, hpasses, State.verifyFails]
  · simp [execVerifyEnd, hop, hread, Slot.validImage, hstate, himage, hpasses, hsweep, State.verifyFails]

theorem verifyEnd_applies {m : Image} (hop : s.cx.op = .verify k) (hread : s.contextWaits = false)
    (hstate : (s.cx.slot k).state = .valid) (himage : (s.cx.slot k).image = some m) (hpasses : m.passes s.geo = true)
    (hsweep : s.sc.sweep.canRollBack = true) : exec .verifyEnd s = .next (s.setOp (.apply k)).stopPass := by
  show execVerifyEnd s = _
  simp [execVerifyEnd, hop, hread, Slot.validImage, hstate, himage, hpasses, hsweep]

theorem verifyEnd_other (hop : ∀ k, s.cx.op ≠ .verify k) : exec .verifyEnd s = .next s := by
  show execVerifyEnd s = _
  cases h : s.cx.op with
  | verify k => exact absurd h (hop k)
  | none | quiet k | copy k v | apply k => simp only [execVerifyEnd, h]

theorem settlePass_noBank {p : Pass} (lf : LastFrame) (h : p.bank = none) : s.settlePass p lf = s := by
  simp only [State.settlePass, h]

end

end Sys2Proof.Machine

/-! ### What a passing image says, and ROLLBACK_REPLACE (R103, R106, R177 to R181) -/

namespace Sys2Proof.Machine

/-! #### A passing image (R178) -/

section

variable {m : Image} {g : Geometry}

theorem inRange_iff (lo hi v : Int) : inRange lo hi v = true ↔ lo ≤ v ∧ v ≤ hi := decide_eq_true_iff

theorem passes_iff (m : Image) (g : Geometry) : m.passes g = true ↔ m.crc = Config.imageCrc m.numbers ∧
    m.format = Config.formatNumber ∧ m.reserved = 0 ∧ m.geo = g ∧ m.sweepOk = true ∧ m.landmarksOk = true ∧
    m.binsOk = true ∧ m.windowOk = true ∧ m.coverageOk = true := by
  simp [Image.passes, and_assoc]

theorem landmarksOk_iff (m : Image) : m.landmarksOk = true ↔ m.landmarks.length = 256 ∧
    (∀ l ∈ m.landmarks.filterMap id, l.inRanges m.geo = true) ∧
    (m.landmarks.filterMap id).countP (·.pinned) ≤ 32 ∧ (m.landmarks.filterMap id).countP (·.origin) ≤ 48 := by
  simp only [Image.landmarksOk, Bool.and_eq_true, decide_eq_true_eq, List.all_eq_true, and_assoc]

theorem landmark_ranges {l : ImageLandmark} (h : l.inRanges g = true) : 0 ≤ l.y ∧ l.y ≤ 4 * g.ch - 1 ∧ 1 ≤ l.hits ∧
    l.hits ≤ 255 ∧ l.misses ≤ 15 ∧ l.bin < g.nBins ∧ l.place < 8 := by
  simp only [ImageLandmark.inRanges, Bool.and_eq_true, inRange_iff, decide_eq_true_eq] at h
  omega

theorem closure_ranges {c : Closure} (h : c.inRanges g = true) :
    (c.state = .none → c.ce = 0 ∧ c.ry = 0 ∧ c.votes = 0 ∧ c.serial = 0#16) ∧
    (∀ r, c.last = some r → 6 ≤ r.votes ∧ r.votes ≤ 96) := by
  simp only [Closure.inRanges, Bool.and_eq_true] at h
  obtain ⟨⟨-, hlast⟩, hstate⟩ := h
  refine ⟨fun hnone => ?_, fun r hr => ?_⟩
  · rw [hnone] at hstate
    simpa using hstate
  · rw [hr] at hlast
    have := (inRange_iff _ _ _).mp hlast
    omega

theorem windowOk_parts (h : m.windowOk = true) : (m.records.map (·.serial)).Nodup ∧ 1 ≤ m.records.length ∧
    ∀ r ∈ m.records, r.savedOk m.geo = true := by
  simp only [Image.windowOk, Bool.and_eq_true, inRange_iff, decide_eq_true_eq, List.all_eq_true] at h
  obtain ⟨⟨⟨-, hlow, -⟩, hnodup⟩, hsaved⟩ := h
  exact ⟨hnodup, by omega, hsaved⟩

theorem savedOk_parts {r : Placement} (h : r.savedOk g = true) : r.state = .blended ∧
    ∃ u f, r.used = some u ∧ u.fixed = some f ∧ 0 ≤ u.y ∧ u.y ≤ (g.ch : Int) - 1 ∧ f.feather ∈ [0, 8, 16, 32, 64] ∧
      32 ≤ f.gain ∧ f.gain ≤ 128 := by
  simp only [Placement.savedOk, Bool.and_eq_true, decide_eq_true_eq] at h
  obtain ⟨⟨⟨hstate, -⟩, -⟩, hused⟩ := h
  cases hu : r.used with
  | none => simp [hu] at hused
  | some u =>
    cases hf : u.fixed with
    | none => simp [hu, hf] at hused
    | some f =>
      simp only [hu, hf, Bool.and_eq_true, inRange_iff, List.contains_iff_mem] at hused
      obtain ⟨⟨hylow, hyhigh⟩, hfeather, hglow, hghigh⟩ := hused
      exact ⟨hstate, u, f, rfl, hf, hylow, hyhigh, hfeather, by omega, by omega⟩

theorem coverageOk_parts (h : m.coverageOk = true) : m.coverage.length = m.geo.nBlocks ∧
    ∀ o, Coverage.opened o ∈ m.coverage → ∃ r ∈ m.records, r.serial = o := by
  simp only [Image.coverageOk, Bool.and_eq_true, decide_eq_true_eq, List.all_eq_true] at h
  refine ⟨h.1, fun o ho => ?_⟩
  obtain ⟨r, hr, hserial⟩ := List.any_eq_true.mp (h.2 _ ho)
  exact ⟨r, hr, of_decide_eq_true hserial⟩

/-! #### Bin lists by place (R178, R180) -/

/-- A list as long as `n` that holds each number below `n` once holds no number twice. -/
theorem nodup_of_counts (l : List Nat) (h : ∀ n ∈ List.range l.length, l.count n = 1) : l.Nodup := by
  have hsub : List.range l.length ⊆ l := fun n hn => List.count_pos_iff.mp (by rw [h n hn]; omega)
  have hperm : (List.range l.length).Perm l :=
    (List.nodup_range.subperm hsub).perm_of_length_le (by rw [List.length_range])
  exact hperm.nodup_iff.mp List.nodup_range

/-- The place of a landmark listed in bin `j`. -/
def placeIn (j : Nat) (l : ImageLandmark) : Option Nat := if l.bin = j then some l.place else none

theorem places_nodup (h : m.binsOk = true) {j : Nat} (hj : j < m.geo.nBins) :
    (m.landmarks.filterMap fun o => o.bind (placeIn j)).Nodup := by
  have hbin := List.all_eq_true.mp h j (List.mem_range.mpr hj)
  rw [Bool.and_eq_true] at hbin
  have hnodup := nodup_of_counts _ fun n hn => beq_iff_eq.mp (List.all_eq_true.mp hbin.2 n hn)
  rw [List.filterMap_filterMap] at hnodup
  exact hnodup

/-- Two landmarks of one bin at one place are one. -/
theorem place_unique (h : m.binsOk = true) {j : Nat} (hj : j < m.geo.nBins) {a b : Nat} {la lb : ImageLandmark}
    (ha : m.landmarks[a]? = some (some la)) (hb : m.landmarks[b]? = some (some lb)) (hla : la.bin = j) (hlb : lb.bin = j)
    (hplace : la.place = lb.place) : a = b := by
  have hpair := List.pairwise_filterMap.mp (places_nodup h hj)
  rw [List.pairwise_iff_getElem] at hpair
  obtain ⟨ha', ha⟩ := List.getElem?_eq_some_iff.mp ha
  obtain ⟨hb', hb⟩ := List.getElem?_eq_some_iff.mp hb
  have hne {a b : Nat} {la lb : ImageLandmark} (ha' : a < m.landmarks.length) (hb' : b < m.landmarks.length)
      (ha : m.landmarks[a] = some la) (hb : m.landmarks[b] = some lb) (hla : la.bin = j) (hlb : lb.bin = j)
      (hplace : la.place = lb.place) : ¬ a < b := fun hlt => by
    refine hpair a b ha' hb' hlt la.place ?_ lb.place ?_ hplace
    · simp [ha, placeIn, hla]
    · simp [hb, placeIn, hlb]
  have hab := hne ha' hb' ha hb hla hlb hplace
  have hba := hne hb' ha' hb ha hlb hla hplace.symm
  omega

/-- The entry that an image lists in bin `j` at a place. -/
theorem findPlace_iff (h : m.binsOk = true) {j : Nat} (hj : j < m.geo.nBins) (place i : Nat) :
    (m.landmarks.findIdx? fun l => l.any fun l => l.bin == j && l.place == place) = some i ↔
    ∃ l, m.landmarks[i]? = some (some l) ∧ l.bin = j ∧ l.place = place := by
  have hany (o : Option ImageLandmark) : (o.any fun l => l.bin == j && l.place == place) = true ↔
      ∃ l, o = some l ∧ l.bin = j ∧ l.place = place := by cases o <;> simp
  rw [List.findIdx?_eq_some_iff_getElem]
  refine ⟨fun ⟨hi, hmatch, _⟩ => ?_, fun ⟨l, hl, hbin, hplace⟩ => ?_⟩
  · obtain ⟨l, hl, hbin, hplace⟩ := (hany _).mp hmatch
    exact ⟨l, by rw [List.getElem?_eq_getElem hi, hl], hbin, hplace⟩
  · obtain ⟨hi, hli⟩ := List.getElem?_eq_some_iff.mp hl
    refine ⟨hi, (hany _).mpr ⟨l, hli, hbin, hplace⟩, fun k hk hmatch => ?_⟩
    obtain ⟨l', hl', hbin', hplace'⟩ := (hany _).mp hmatch
    have hk' : m.landmarks[k]? = some (some l') := by rw [List.getElem?_eq_getElem (by omega), hl']
    have := place_unique h hj hk' hl hbin' hbin (hplace'.trans hplace.symm)
    omega

theorem restored_eq (m : Image) (prm : Params) (i : Nat) :
    m.restored prm i = (m.landmarks.getD i none).bind fun l => l.restore prm := by
  rw [Image.restored, List.getD_eq_getElem?_getD]

theorem restored_isSome {prm : Params} {i : Nat} {l : ImageLandmark} (h : m.landmarks.getD i none = some l) :
    (m.restored prm i).isSome = (l.restoredState prm.anchorHits prm.missLimit).isSome := by
  rw [restored_eq, h, Option.bind_some, ImageLandmark.restore, Option.isSome_map]

theorem getD_some_iff (i : Nat) (l : ImageLandmark) :
    m.landmarks.getD i none = some l ↔ m.landmarks[i]? = some (some l) := by
  rw [List.getD_eq_getElem?_getD]
  cases m.landmarks[i]? <;> simp

/-- A restored bin list holds the restored landmarks of that bin. -/
theorem mem_binList (h : m.passes g = true) (prm : Params) {j : Nat} (hj : j < g.nBins) (i : Nat) :
    i ∈ m.binList prm j ↔ ∃ l, m.landmarks.getD i none = some l ∧ l.bin = j ∧
      (l.restoredState prm.anchorHits prm.missLimit).isSome = true := by
  obtain ⟨-, -, -, hgeo, -, hlm, hbins, -, -⟩ := (passes_iff m g).mp h
  obtain ⟨-, hranges, -⟩ := (landmarksOk_iff m).mp hlm
  subst hgeo
  simp only [Image.binList, List.mem_filter, List.mem_filterMap, List.mem_range]
  refine ⟨fun ⟨⟨place, _, hfind⟩, hsome⟩ => ?_, fun ⟨l, hl, hbin, hsome⟩ => ?_⟩
  · obtain ⟨l, hl, hbin, -⟩ := (findPlace_iff hbins hj place i).mp hfind
    have hget := (getD_some_iff i l).mpr hl
    exact ⟨l, hget, hbin, by rwa [← restored_isSome hget]⟩
  · have hget := (getD_some_iff i l).mp hl
    have hmem : l ∈ m.landmarks.filterMap id := List.mem_filterMap.mpr ⟨some l, List.mem_of_getElem? hget, rfl⟩
    obtain ⟨-, -, -, -, -, -, hplace⟩ := landmark_ranges (hranges l hmem)
    exact ⟨⟨l.place, hplace, (findPlace_iff hbins hj l.place i).mpr ⟨l, hget, hbin, rfl⟩⟩, by rwa [restored_isSome hl]⟩

/-- A restored bin list is in the order of the places. -/
theorem binList_pairwise (h : m.passes g = true) (prm : Params) {j : Nat} (hj : j < g.nBins) :
    (m.binList prm j).Pairwise fun a b => ∀ la lb, m.landmarks.getD a none = some la →
      m.landmarks.getD b none = some lb → la.place < lb.place := by
  obtain ⟨-, -, -, rfl, -, -, hbins, -, -⟩ := (passes_iff m g).mp h
  refine List.Pairwise.filter _ (List.pairwise_filterMap.mpr (List.pairwise_lt_range.imp ?_))
  intro p q hpq a ha b hb la lb hla hlb
  obtain ⟨la', hla', -, rfl⟩ := (findPlace_iff hbins hj p a).mp ha
  obtain ⟨lb', hlb', -, rfl⟩ := (findPlace_iff hbins hj q b).mp hb
  have ha := (getD_some_iff a la').mpr hla'
  have hb := (getD_some_iff b lb').mpr hlb'
  rw [ha] at hla
  rw [hb] at hlb
  cases hla
  cases hlb
  exact hpq

end

/-! #### The table, window and reference after the replace -/

section

variable {t : Table} {m : Image} {prm : Params} {n : Nat}

theorem replaced_entry {i : Nat} (hi : i < t.entries.length) :
    (t.replaced m prm n).gen i = t.gen i + 1#4 ∧ (t.replaced m prm n).lm i = m.restored prm i := by
  simp [Table.gen, Table.lm, Table.replaced, hi]

theorem replaced_bin {j : Nat} (hj : j < n) : (t.replaced m prm n).bin j = m.binList prm j := by
  simp [Table.bin, Table.replaced, hj]

theorem ownedIn_eq (cov : List Coverage) (v : Serial) :
    ownedIn cov v = (cov.filter fun c => decide (c = .opened v)).length := by
  unfold ownedIn
  congr 2
  funext c
  cases c <;> simp [Coverage.owner]

end

end Sys2Proof.Machine

/-! ### ROLLBACK from its command to its replace step (R177 to R181) -/

namespace Sys2Proof.Machine

section

variable {s : State} {k : SlotId} {m : Image}

theorem dropWaitingFinish_eq (s : State) : s.dropWaitingFinish =
    s.withoutWaits (if s.sc.captureFinishWaits then { s.sc.capture with result := .dropped } else s.sc.capture) := by
  have hself (hw : s.sc.captureFinishWaits = false) :
      ({ s with sc := { s.sc with markFinishWaits := false } } : State) = s.withoutWaits s.sc.capture := by
    rw [State.withoutWaits, ← hw]
  cases hwaits : s.sc.captureFinishWaits with
  | true => simp [State.dropWaitingFinish, hwaits, State.setCaptureResult, State.withoutWaits]
  | false => simpa [State.dropWaitingFinish, hwaits] using hself hwaits

theorem rollbackReplace_due (hop : s.cx.op = .apply k) (himage : (s.cx.slot k).image = some m) (hpass : s.me.pass = none)
    (hblend : s.blendAtBoundary = true) : exec .rollbackReplace s = .next (s.replaceWith k m) := by
  show execRollbackReplace s = _
  simp [execRollbackReplace, hop, himage, State.bothStopped, hpass, hblend]

theorem rollbackReplace_notDue (h : (∀ k, s.cx.op ≠ .apply k) ∨ s.me.pass ≠ none ∨ s.blendAtBoundary = false) :
    exec .rollbackReplace s = .next s := by
  show execRollbackReplace s = _
  cases hop : s.cx.op with
  | none | quiet k | copy k v | verify k => simp only [execRollbackReplace, hop]
  | apply k =>
    have hnot : ¬ s.bothStopped = true := fun hboth => by
      obtain ⟨hpass, hblend⟩ := Bool.and_eq_true_iff.mp hboth
      obtain h | h | h := h
      · exact h k hop
      · exact h (by simpa using hpass)
      · rw [h] at hblend
        cases hblend
    cases himage : (s.cx.slot k).image with
    | none => simp only [execRollbackReplace, hop, himage]
    | some m => simp only [execRollbackReplace, hop, himage, if_neg hnot]

theorem finishSweep_sweeping_idle (hsweep : s.sc.sweep = .sweeping) (hqueue : s.pi.queue = []) (hport : s.pi.port = none) :
    s.finishSweep = { s with sc := { s.sc with sweep := .closing } } :=
  (finishSweep_sweeping hsweep).trans (enterClosing_idle hqueue hport)

/-- The verify ends without an apply, and what waited as a FINISH is taken by the sweep state. -/
theorem waiting_finish_taken {ended : State} {capture : Capture} (hcapture : capture = ended.captureAfter) :
    (ended.sc.markFinishWaits = false → ended.sc.captureFinishWaits = false → ended.takeWaitingFinish = ended) ∧
    (ended.sc.sweep = .closing ∨ ended.sc.sweep = .finished → ended.takeWaitingFinish = ended.withoutWaits capture) ∧
    (ended.sc.sweep = .sweeping → ended.sc.markFinishWaits = true ∨ ended.sc.captureFinishWaits = true →
      ended.pi.queue = [] → ended.pi.port = none → ended.takeWaitingFinish =
        { ended with sc := { ended.sc with
          sweep := .closing, markFinishWaits := false, captureFinishWaits := false, capture := capture } }) := by
  refine ⟨takeWaitingFinish_none, fun hsweep => ?_, fun hsweep hwaits hqueue hport => ?_⟩
  · rw [takeWaitingFinish_late hsweep, hcapture]
  · obtain ⟨w, c, htake⟩ := takeWaitingFinish_some hwaits (by rw [hsweep]; rfl)
    rw [htake, ← hcapture, finishSweep_sweeping_idle]
    · rfl
    · exact hsweep
    · exact hqueue
    · exact hport

/-- What waited is taken: the frame, pass and sweep are those of a FINISH on a state with the same frames. -/
theorem waiting_finish_some {ended : State} (hwaits : ended.sc.markFinishWaits = true ∨ ended.sc.captureFinishWaits = true)
    (hcan : ended.sc.sweep.canFinish = true) : ∃ u : State, ended.takeWaitingFinish =
      u.finishSweep.withoutWaits ended.captureAfter ∧ u.pi = ended.pi ∧ u.me = ended.me ∧
      u.sc.sweep = ended.sc.sweep ∧ u.sc.setAside = ended.sc.setAside ∧ u.cx = ended.cx := by
  obtain ⟨w, c, htake⟩ := takeWaitingFinish_some hwaits hcan
  exact ⟨_, htake, rfl, rfl, rfl, rfl, rfl⟩

theorem takeWaitingFinish_cx (s : State) : s.takeWaitingFinish.cx = s.cx := by simp

end

/-- The replace step's outcome, field by field. -/
theorem replaceWith_fields (s : State) (k : SlotId) (m : Image) :
    (s.replaceWith k m).sc.sweep = .sweeping ∧ (s.replaceWith k m).ltc = s.ltc.replaced m s.prm s.geo.nBins ∧
    (s.replaceWith k m).pw = m.placements ∧ (s.replaceWith k m).bu = m.blender s.geo ∧
    (s.replaceWith k m).pi = s.abandonBanks.pi ∧
    (s.replaceWith k m).me = ⟨m.motion, none, m.mode, m.predicted, none⟩ ∧
    (s.replaceWith k m).sc.progress = m.progress ∧ (s.replaceWith k m).sc.flags = m.flags ∧
    (s.replaceWith k m).sc.masks = m.masks ∧ (s.replaceWith k m).sc.mark0 = m.mark0 ∧
    (s.replaceWith k m).sc.mark1 = m.mark1 ∧ (s.replaceWith k m).sc.closure = m.closure ∧
    (s.replaceWith k m).sc.markFinishWaits = false ∧ (s.replaceWith k m).sc.captureFinishWaits = false ∧
    (s.replaceWith k m).sc.capture =
      (if s.sc.captureFinishWaits then { s.sc.capture with result := .dropped } else s.sc.capture) ∧
    (s.replaceWith k m).sc.captureFinish = s.sc.captureFinish ∧
    (s.replaceWith k m).cx = { s.cx with lastResult := .ok, lastSlot := some k, op := .none } ∧
    (s.replaceWith k m).li.events.getLsbD 6 = true ∧ (s.replaceWith k m).sc.started = s.sc.started ∧
    (s.replaceWith k m).sc.placed = s.sc.placed ∧ (s.replaceWith k m).sc.dropped = s.sc.dropped ∧
    (s.replaceWith k m).sc.cue = s.sc.cue ∧ (s.replaceWith k m).sc.pace = s.sc.pace ∧ (s.replaceWith k m).prm = s.prm ∧
    (s.replaceWith k m).geo = s.geo ∧ (s.replaceWith k m).dr = s.dr ∧ (s.replaceWith k m).eu = s.eu ∧
    (s.replaceWith k m).mem = s.mem ∧ (s.replaceWith k m).sc.setAside = s.sc.setAside + BitVec.ofNat 32 s.openBanks := by
  obtain ⟨haside, -, hplaced, hdropped⟩ := abandonBanks_counts s
  obtain ⟨hgeo, hprm, hmem, -, hltc, -, -, hdr, hcx, heu, -⟩ := s.abandonBanks_keeps
  obtain ⟨-, -, -, -, -, -, -, hcapture, hfinish, hwaits, hpace, hcue, -, hstarted, -⟩ := s.abandonBanks_parts
  unfold State.replaceWith
  generalize s.abandonBanks = t at haside hplaced hdropped hgeo hprm hmem hltc hdr hcx heu hcapture hfinish hwaits hpace hcue hstarted ⊢
  rw [← hgeo, ← hprm, ← hmem, ← hltc, ← hdr, ← hcx, ← heu, ← hcapture, ← hfinish, ← hwaits, ← hpace, ← hcue, ← hstarted,
    ← haside, ← hplaced, ← hdropped, dropWaitingFinish_eq]
  exact ⟨rfl, rfl, rfl, rfl, rfl, rfl, rfl, rfl, rfl, rfl, rfl, rfl, rfl, rfl, rfl, rfl, rfl, raise_bit _ .rollbackDone,
    rfl, rfl, rfl, rfl, rfl, rfl, rfl, rfl, rfl, rfl, rfl⟩

/-- Settles O36. -/
theorem rollbackVerifiesAndReplaces : Obligations.RollbackVerifiesAndReplaces := by
  refine ⟨fun s n h => ⟨(exec_rollback_refused h).1, (exec_rollback_refused h).2, fun hsweep hop => ⟨fun hn => ?_,
      fun hn hmem => ?_, fun k hn hmem => ⟨fun hempty => ?_, fun hempty => ?_⟩⟩⟩,
    fun s k hop => ⟨fun hwaits => verifyEnd_waits hwaits hop, fun hread r ended capture hr hended => ?_,
      fun m hread hstate himage hpasses hsweep => ?_⟩, fun m g h => ?_, fun s k m st hop himage hpass hblend hst =>
      ⟨_, rollbackReplace_due hop himage hpass hblend, ?_⟩, fun s => ⟨verifyEnd_other, rollbackReplace_notDue⟩⟩
  · rw [exec_rollback_ready h hsweep hop, slotOfCode_none hn]
  · obtain ⟨k, hk⟩ := slotOfCode_some hn
    rw [exec_rollback_ready h hsweep hop, hk, hmem]
    rfl
  · rw [exec_rollback_ready h hsweep hop, slotOfCode_code k n hn, hmem]
    exact congrArg Host.Outcome.next (if_pos hempty)
  · rw [exec_rollback_ready h hsweep hop, slotOfCode_code k n hn, hmem]
    exact congrArg Host.Outcome.next (if_neg hempty)
  · have hended : ended = s.endRollback k r := hended
    have hexec : exec .verifyEnd s = .next ended.takeWaitingFinish := by rw [hended, verifyEnd_fails hop hread hr]
    have hparts : ended.sc = s.sc ∧ ended.pi = s.pi ∧ ended.me = s.me := by rw [hended]; exact ⟨rfl, rfl, rfl⟩
    rw [hexec]
    clear hended hexec hr
    obtain ⟨hsc, hpi, hme⟩ := hparts
    have hbank (b : BankId) : ended.bank b = s.bank b := bank_of_banks (by rw [hpi]) b
    rw [← hsc, ← hpi, ← hme]
    simp only [← hbank]
    refine ⟨fun hmark hcap => by rw [(waiting_finish_taken rfl).1 hmark hcap], fun hcapture => ?_⟩
    have hcapture : capture = ended.captureAfter := hcapture
    obtain ⟨-, hlate, hsweeping⟩ := waiting_finish_taken hcapture
    refine ⟨fun hsweep => by rw [hlate hsweep]; rfl,
      fun hsweep hwaits hqueue hport => by rw [hsweeping hsweep hwaits hqueue hport],
      fun c p b hsweep hwaits hpass hstage hpb hmatching => ⟨_, rfl, ?_⟩,
      fun c p hsweep hwaits hpass hstage => ⟨_, rfl, ?_⟩, fun hsweep hwaits => ⟨_, rfl, ?_⟩⟩
    · obtain ⟨u, htake, hupi, hume, husweep, huaside, hucx⟩ := waiting_finish_some hwaits (by rw [hsweep]; rfl)
      obtain ⟨hclosing, hnone, hfree, haside⟩ := finishSweep_heldFrame (s := u) (by rw [husweep]; exact hsweep)
        (by rw [hume]; exact hpass) hstage hpb (by rw [bank_of_banks (s := ended) (by rw [hupi])]; exact hmatching)
      refine ⟨?_, ?_, ?_, ?_, ?_, ?_, ?_, takeWaitingFinish_cx ended⟩ <;> rw [htake]
      · exact hclosing
      · exact hnone
      · exact hfree
      · exact haside.trans (by rw [huaside])
      · rfl
      · rfl
      · exact hcapture.symm
    · obtain ⟨u, htake, hupi, hume, husweep, huaside, hucx⟩ := waiting_finish_some hwaits (by rw [hsweep]; rfl)
      obtain ⟨hclosing, hreport, haside⟩ := finishSweep_parked (s := u) (by rw [husweep]; exact hsweep)
        (by rw [hume]; exact hpass) hstage
      refine ⟨?_, ?_, ?_, ?_, ?_, ?_, takeWaitingFinish_cx ended⟩ <;> rw [htake]
      · exact hclosing
      · exact hreport
      · exact haside.trans huaside
      · rfl
      · rfl
      · exact hcapture.symm
    · obtain ⟨u, htake, hupi, hume, husweep, huaside, hucx⟩ := waiting_finish_some hwaits (by rw [hsweep]; rfl)
      have hfinish := finishSweep_armed (s := u) (by rw [husweep]; exact hsweep)
      obtain ⟨hfinished, hevent, hnone⟩ := finishArmed_ends u
      rw [← hfinish] at hfinished hevent hnone
      refine ⟨?_, ?_, ?_, fun p b hpass hpb hmatching => ?_, ?_, ?_, ?_, takeWaitingFinish_cx ended⟩ <;> rw [htake]
      · exact hfinished
      · exact hevent
      · exact hnone
      · obtain ⟨hfree, haside⟩ := finishArmed_originFrame (s := u) (by rw [hume]; exact hpass) hpb
          (by rw [bank_of_banks (s := ended) (by rw [hupi])]; exact hmatching)
        rw [← hfinish] at hfree haside
        exact ⟨hfree, haside.trans (by rw [huaside])⟩
      · rfl
      · rfl
      · exact hcapture.symm
  · have hexec := verifyEnd_applies hop hread hstate himage hpasses hsweep
    rw [hexec]
    refine ⟨fun hstay => ?_, fun p hpass hb => ⟨_, rfl, ?_⟩⟩
    · obtain hpass | ⟨p, i, hpass, hi⟩ := hstay
      · rw [stopPass_none (s := s.setOp (.apply k)) hpass]
        rfl
      · rw [stopPass_inside (s := s.setOp (.apply k)) hpass hi]
        rfl
    · rw [stopPass_boundary (s := s.setOp (.apply k)) hpass hb]
      refine ⟨by simp [State.setOp], by simp [State.endPassWith, State.setPass, State.setOp], by simp [State.setOp],
        fun hbank => ?_, fun b hbank hmatching => ?_⟩
      · rw [State.endPassWith, settlePass_noBank _ hbank]
        exact ⟨rfl, rfl⟩
      · obtain ⟨hfreed, haside, hlast, -⟩ := endPassWith_outcome (s := s.setOp (.apply k)) (o := .abandoned) hbank hmatching
          rfl rfl
        rw [hfreed, haside, hlast]
        exact ⟨rfl, rfl, rfl, rfl⟩
  · obtain ⟨hcrc, hformat, hreserved, hgeo, hsweep, hlm, hbins, hwindow, hcoverage⟩ := (passes_iff m g).mp h
    subst hgeo
    obtain ⟨hlength, hranges, hpinned, horigin⟩ := (landmarksOk_iff m).mp hlm
    obtain ⟨hcovlength, hopened⟩ := coverageOk_parts hcoverage
    obtain ⟨hnodup, hnonempty, hsaved⟩ := windowOk_parts hwindow
    have hclosure : m.closure.inRanges m.geo = true := (Bool.and_eq_true_iff.mp hsweep).2
    obtain ⟨hclosureNone, hrejection⟩ := closure_ranges hclosure
    exact ⟨hcrc, hformat, hreserved, rfl, hlength, hcovlength, hpinned, horigin, fun l hl => landmark_ranges (hranges l hl),
      hclosureNone, hrejection, hnodup, hnonempty, fun r hr => savedOk_parts (hsaved r hr), hopened⟩
  · obtain ⟨hsweep, hltc, hpw, hbu, hpi, hme, hprogress, hflags, hmasks, hmark0, hmark1, hclosure, hmark, hwaits, hcapture,
      hfinish, hcx, hevent, hstarted, hplaced, hdropped, hcue, hpace, hprm, hgeo, hdr, heu, hmem, haside⟩ :=
      replaceWith_fields s k m
    have hst (l : ImageLandmark) : st l = l.restoredState s.prm.anchorHits s.prm.missLimit := by
      rw [hst, ImageLandmark.restoredState]
    have hbanks : (s.replaceWith k m).pi.banks = s.abandonBanks.pi.banks := by rw [hpi]
    have hserial : s.abandonBanks.pi.serial = s.pi.serial := by simp
    refine ⟨hsweep, fun b => ?_, by rw [hpi]; rfl, by rw [hpi]; rfl, by rw [hpi]; rfl, by rw [hpi]; rfl, by rw [hpi, hserial],
      haside, fun i hi => ?_, by rw [hltc]; rfl, by rw [hltc]; rfl, by rw [hltc]; rfl, by rw [hltc]; simp [Table.replaced],
      fun hpasses j hj => ?_, ?_, by rw [hbu]; rfl, by rw [hbu]; rfl, by rw [hbu]; rfl, by rw [hbu]; rfl, fun hnone => ?_,
      fun r older u hcons hused => ?_, hme, hprogress, hflags, hmasks, hmark0, hmark1, hclosure, hmark, hwaits, hcapture,
      hfinish, hcx, hevent, hstarted, hplaced, hdropped, hcue, hpace, hprm, hgeo, hdr, heu, hmem⟩
    · rw [bank_of_banks (s := s.abandonBanks) hbanks]
      cases b <;> exact ⟨rfl, rfl⟩
    · obtain ⟨hgen, hlm⟩ := replaced_entry (m := m) (prm := s.prm) (n := s.geo.nBins) hi
      rw [hltc, hgen, hlm, restored_eq]
      refine ⟨rfl, fun hnone => by rw [hnone]; rfl, fun l hl => ?_⟩
      rw [hl, hst]
      rfl
    · rw [hltc, replaced_bin hj]
      refine ⟨fun i => ?_, binList_pairwise hpasses s.prm hj⟩
      simp only [mem_binList hpasses s.prm hj, hst]
    · rw [hpw]
      simp only [Image.placements, ownedIn_eq]
      rfl
    · rw [hpw, Image.placements, List.map_eq_nil_iff] at hnone
      rw [hbu, Image.blender, hnone]
      rfl
    · rw [hpw, Image.placements] at hcons
      cases hrecords : m.records with
      | nil => simp [hrecords] at hcons
      | cons r₀ rest =>
        rw [hrecords, List.map_cons, List.cons.injEq] at hcons
        obtain ⟨rfl, -⟩ := hcons
        have hused : r₀.used = some u := hused
        simp only [hbu, Image.blender, hrecords, referenceOf, hused]
        rfl

end Sys2Proof.Machine

/-! ### EXPORT and EXPORT STOP (R152, R154, R155, R158) -/

namespace Sys2Proof.Machine

section

variable {s : State}

theorem exec_exportStart {p : List Byte} (h : s.delivers .exportStart p = true) (hlen : p.length = 10) :
    exec (.exportStart p) s = .next (s.runExport p) := by
  show execExportStart p s = _
  rw [execExportStart, command_delivered h (by rw [hlen]; rfl)]

theorem exec_exportStop (h : s.delivers .exportStop [] = true) : exec (.exportStop []) s = .next
    (if s.eu.state = .idle then s.refuse .wrongState else s.stopJob.answer []) := by
  show execExportStop [] s = _
  rw [execExportStop, command_delivered h rfl]

theorem u8At_of_get {p : List Byte} {i : Nat} {b : Byte} (h : p[i]? = some b) : u8At p i = b.toNat := by
  rw [u8At, List.getD_eq_getElem?_getD, h]
  rfl

/-- A byte that spells a bit. -/
theorem bitOfCode_byte {b : Byte} (h : b.toNat ≤ 1) : ∃ e, bitOfCode b.toNat = some e ∧ (e = false ↔ b = 0#8) ∧
    (e = true ↔ b = 1#8) ∧ e = (b == 1#8) := by
  obtain h | h : b.toNat = 0 ∨ b.toNat = 1 := by omega
  · obtain rfl : b = 0#8 := BitVec.eq_of_toNat_eq h
    exact ⟨false, rfl, by decide, by decide, rfl⟩
  · obtain rfl : b = 1#8 := BitVec.eq_of_toNat_eq h
    exact ⟨true, rfl, by decide, by decide, rfl⟩

theorem spanLength_eq (s : State) : s.spanLength =
    if s.sc.closure.state = .joined then s.sc.closure.ce.toNat else min s.sc.progress s.geo.cw := by
  cases h : s.sc.closure.state <;> simp [State.spanLength, h]

theorem shiftAt_eq (s : State) (u : Nat) : s.shiftAt u = if s.sc.closure.state = .joined then
    roundDiv (s.sc.closure.ry * u) s.sc.closure.ce.toNat else 0 := by
  cases h : s.sc.closure.state <;> simp [State.shiftAt, h]

theorem panoramaColumns_eq (s : State) : s.panoramaColumns =
    (if s.geo.direction = .east then List.range s.spanLength else (List.range s.spanLength).reverse).map fun (u : Nat) =>
      (s.geo.memColU u, if s.sc.closure.state = .joined then
        roundDiv (s.sc.closure.ry * u) s.sc.closure.ce.toNat else 0) := by
  unfold State.panoramaColumns
  simp only [shiftAt_eq]
  cases s.geo.direction <;> rfl

/-- EXPORT with scale and mode bytes that spell a bit each. -/
theorem runExport_spelled {p : List Byte} {quarter panorama : Bool} (hidle : s.eu.state = .idle)
    (hq : bitOfCode (u8At p 8) = some quarter) (hp : bitOfCode (u8At p 9) = some panorama) : s.runExport p =
      if panorama = false ∧ (s.geo.cw ≤ u16At p 0 ∨ u16At p 2 = 0 ∨ s.geo.cw < u16At p 2) then s.refuse .badValue
      else if s.geo.ch ≤ u16At p 4 ∨ u16At p 6 = 0 ∨ s.geo.ch < u16At p 6 ∨ s.geo.ch < u16At p 4 + u16At p 6 then
        s.refuse .badValue
      else if quarter = true ∧ (u16At p 6 < 8 ∨ (panorama = false ∧ u16At p 2 < 8)) then s.refuse .badValue
      else if !s.hasMemory then s.refuse .noMemory
      else if panorama = true ∧ (s.spanLength < 1 ∨ (quarter = true ∧ s.spanLength < 8)) then s.refuse .emptyEntry
      else
        (s.startJob quarter panorama
          (if panorama then s.panoramaColumns else regionColumns s.geo (u16At p 0) (u16At p 2))
          (u16At p 4) (u16At p 6)).answer [] := by
  simp only [State.runExport, hidle, hq, hp]
  exact if_neg (by simp)

theorem runExport_unspelled {p : List Byte} (hidle : s.eu.state = .idle)
    (h : bitOfCode (u8At p 8) = none ∨ bitOfCode (u8At p 9) = none) : s.runExport p = s.refuse .badValue := by
  unfold State.runExport
  rw [if_neg (by simp [hidle])]
  split
  · rename_i hq hp
    obtain h | h := h <;> simp_all
  · rfl

theorem hasMemory_not (s : State) : (!s.hasMemory) = true ↔ s.hasMemory = false := by simp

/-- EXPORT's seven checks in their order, in the words of its parameters. -/
theorem exportStart_checks {p : List Byte} {col count row rows : Nat} {scale mode : Byte}
    (h : s.delivers .exportStart p = true) (hlen : p.length = 10) (hcol : u16At p 0 = col) (hcount : u16At p 2 = count)
    (hrow : u16At p 4 = row) (hrows : u16At p 6 = rows) (hscale : p[8]? = some scale) (hmode : p[9]? = some mode)
    {span : Nat} (hspan : span = if s.sc.closure.state = .joined then s.sc.closure.ce.toNat
      else min s.sc.progress s.geo.cw) : exec (.exportStart p) s = .next
    (if s.eu.state ≠ .idle then s.refuse .busy
    else if 1 < scale.toNat ∨ 1 < mode.toNat then s.refuse .badValue
    else if mode = 0#8 ∧ (s.geo.cw ≤ col ∨ count = 0 ∨ s.geo.cw < count) then s.refuse .badValue
    else if s.geo.ch ≤ row ∨ rows = 0 ∨ s.geo.ch < rows ∨ s.geo.ch < row + rows then s.refuse .badValue
    else if scale = 1#8 ∧ (rows < 8 ∨ (mode = 0#8 ∧ count < 8)) then s.refuse .badValue
    else if s.hasMemory = false then s.refuse .noMemory
    else if mode = 1#8 ∧ (span < 1 ∨ (scale = 1#8 ∧ span < 8)) then s.refuse .emptyEntry
    else { s with
      eu := ⟨.running, mode == 1#8, scale == 1#8,
        if mode = 1#8 then
          (if s.geo.direction = .east then List.range span else (List.range span).reverse).map fun (u : Nat) =>
            (s.geo.memColU u, if s.sc.closure.state = .joined then
              roundDiv (s.sc.closure.ry * u) s.sc.closure.ce.toNat else 0)
        else (List.range count).map fun i => ((col + i) % s.geo.cw, 0),
        row, rows, 0, s.eu.result, true, [], none⟩
      port := s.port ++ [.frameStart]
      li := { s.li with reply := ⟨.done, []⟩, processing := none } }) := by
  rw [exec_exportStart h hlen]
  refine congrArg Host.Outcome.next ?_
  by_cases hidle : s.eu.state ≠ .idle
  · rw [if_pos hidle, State.runExport, if_pos hidle]
  rw [if_neg hidle]
  have hidle := not_not.mp hidle
  by_cases hbad : 1 < scale.toNat ∨ 1 < mode.toNat
  · rw [if_pos hbad, runExport_unspelled hidle]
    rw [u8At_of_get hscale, u8At_of_get hmode]
    exact hbad.imp (bitOfCode_none _).mpr (bitOfCode_none _).mpr
  rw [if_neg hbad]
  rw [← spanLength_eq] at hspan
  subst hcol hcount hrow hrows hspan
  obtain ⟨quarter, hq, -, hq1, hqeq⟩ := bitOfCode_byte (b := scale) (by omega)
  obtain ⟨panorama, hp, hp0, hp1, hpeq⟩ := bitOfCode_byte (b := mode) (by omega)
  rw [← u8At_of_get hscale] at hq
  rw [← u8At_of_get hmode] at hp
  rw [runExport_spelled hidle hq hp, panoramaColumns_eq]
  refine if_congr (and_congr hp0 Iff.rfl) rfl (if_congr Iff.rfl rfl (if_congr
    (and_congr hq1 (or_congr Iff.rfl (and_congr hp0 Iff.rfl))) rfl (if_congr (hasMemory_not s) rfl
    (if_congr (and_congr hp1 (or_congr Iff.rfl (and_congr hq1 Iff.rfl))) rfl ?_))))
  rw [← hqeq, ← hpeq]
  simp only [← hp1]
  rfl

end

/-- The end of a job that waits between two lines. -/
theorem endJob_eq (s : State) (r : JobResult) : s.endJob r = ({ s with
    eu := { s.eu with state := .idle, result := r, lineBegun := false, fetched := [], reached := none }
    port := s.port ++ [PortEvent.frameEnd] }).raise .exportDone := rfl

/-- EXPORT STOP by the state of the job. -/
theorem exportStop_cases {s : State} (h : s.delivers .exportStop [] = true) :
    (s.eu.state = .idle → exec (.exportStop []) s = .next (s.refuse .wrongState)) ∧
    (s.eu.state = .stopping → exec (.exportStop []) s = .next (s.answer [])) ∧
    (s.eu.state = .running → s.eu.lineBegun = true → exec (.exportStop []) s = .next { s with
      eu := { s.eu with state := .stopping }
      li := { s.li with reply := ⟨.done, []⟩, processing := none } }) ∧
    (s.eu.state = .running → s.eu.lineBegun = false → exec (.exportStop []) s = .next ((({ s with
      eu := { s.eu with state := .idle, result := .stopped, lineBegun := false, fetched := [], reached := none }
      port := s.port ++ [PortEvent.frameEnd] }).raise .exportDone).answer [])) := by
  rw [exec_exportStop h]
  refine ⟨fun hidle => by rw [if_pos hidle], fun hstop => ?_, fun hrun hline => ?_, fun hrun hline => ?_⟩
  · rw [if_neg (by simp [hstop])]
    simp only [State.stopJob, hstop]
  · rw [if_neg (by simp [hrun]), stopJob_begun hrun hline]
    rfl
  · rw [if_neg (by simp [hrun]), stopJob_between hrun hline, endJob_eq]

end Sys2Proof.Machine

/-! ### EU goes along its line (R10, R156) -/

namespace Sys2Proof.Machine

section

variable (s : State)

/-! #### The block EU stands in -/

/-- The block EU has reached once it has come to these sources. -/
def State.reachAll (at' : Option Reached) (cs : List Source) : Option Reached :=
  cs.foldl (fun r c => some (s.reach r (s.eu.blockOf c))) at'

theorem reachAll_snoc (at' : Option Reached) (cs : List Source) (c : Source) :
    s.reachAll at' (cs ++ [c]) = some (s.reach (s.reachAll at' cs) (s.eu.blockOf c)) := by
  simp [State.reachAll]

theorem reach_block (at' : Option Reached) (block : Nat) : (s.reach at' block).block = block := by
  unfold State.reach
  cases at' with
  | none => rfl
  | some r => by_cases h : r.block = block <;> simp [h]

theorem reach_same {r : Reached} {block : Nat} (h : r.block = block) : s.reach (some r) block = r := if_pos h

/-- While the sources lie in the block already reached, its reading is kept. -/
theorem reachAll_stays (q : Reached) (cs : List Source) (h : ∀ c ∈ cs, s.eu.blockOf c = q.block) :
    s.reachAll (some q) cs = some q := by
  induction cs using List.reverseRecOn with
  | nil => rfl
  | append_singleton cs c ih =>
    rw [reachAll_snoc, ih fun d hd => h d (by simp [hd]), reach_same s (h c (by simp)).symm]

/-- After the first source outside the block reached at first, the block's reading is that of its coverage entry. -/
theorem reachAll_anew (at' : Option Reached) (cs : List Source)
    (h : ∀ q, at' = some q → ∃ d ∈ cs, s.eu.blockOf d ≠ q.block) {r : Reached} (hr : s.reachAll at' cs = some r) :
    r.blank = decide (s.coverageAt r.block = .blank) := by
  induction cs using List.reverseRecOn generalizing r with
  | nil =>
    obtain ⟨d, hd, -⟩ := h r hr
    cases hd
  | append_singleton cs c ih =>
    rw [reachAll_snoc] at hr
    cases hbefore : s.reachAll at' cs with
    | none =>
      rw [hbefore] at hr
      cases hr
      rfl
    | some r₀ =>
      rw [hbefore] at hr
      by_cases hsame : r₀.block = s.eu.blockOf c
      · rw [reach_same s hsame] at hr
        cases hr
        refine ih (fun q hq => ?_) hbefore
        obtain ⟨d, hd, hne⟩ := h q hq
        obtain hd | hd := List.mem_append.mp hd
        · exact ⟨d, hd, hne⟩
        · obtain rfl := List.mem_singleton.mp hd
          by_contra hstay
          push Not at hstay
          subst hq
          rw [reachAll_stays s q cs hstay] at hbefore
          cases hbefore
          exact hne hsame.symm
      · rw [show s.reach (some r₀) (s.eu.blockOf c) = ⟨s.eu.blockOf c, _⟩ from if_neg hsame] at hr
        cases hr
        rfl

/-- How EU reads the blocks of a line's sources. -/
structure ReadsBlocks (at' : Option Reached) (left : List Source) (blank : Nat → Bool) : Prop where
  kept : ∀ n q, at' = some q → (∀ c ∈ left.take (n + 1), s.eu.blockOf c = q.block) → blank n = q.blank
  anew : ∀ n c, left[n]? = some c → (∀ q, at' = some q → ∃ d ∈ left.take (n + 1), s.eu.blockOf d ≠ q.block) →
    blank n = decide (s.coverageAt (s.eu.blockOf c) = .blank)

variable {s} {at' : Option Reached} {left : List Source} {blank : Nat → Bool}

/-- The reading EU has of a source's block when it comes to it. -/
theorem ReadsBlocks.reach (h : ReadsBlocks s at' left blank) {n : Nat} {c : Source} (hc : left[n]? = some c) :
    s.reach (s.reachAll at' (left.take n)) (s.eu.blockOf c) = ⟨s.eu.blockOf c, blank n⟩ := by
  have htake : left.take (n + 1) = left.take n ++ [c] := by rw [List.take_add_one, hc]; rfl
  have hstep := reachAll_snoc s at' (left.take n) c
  rw [← htake] at hstep
  generalize hr : s.reach (s.reachAll at' (left.take n)) (s.eu.blockOf c) = r at hstep ⊢
  have hblock : r.block = s.eu.blockOf c := by rw [← hr, reach_block]
  have hblank : r.blank = blank n := by
    by_cases hstay : ∃ q, at' = some q ∧ ∀ d ∈ left.take (n + 1), s.eu.blockOf d = q.block
    · obtain ⟨q, hq, hstay⟩ := hstay
      rw [hq, reachAll_stays s q _ hstay] at hstep
      have hr : q = r := Option.some.inj hstep
      rw [← hr, h.kept n q hq hstay]
    · push Not at hstay
      rw [reachAll_anew s at' _ hstay hstep, hblock, h.anew n c hc hstay]
  rw [← hblock, ← hblank]

/-! #### What a burst passes -/

/-- With a burst of `budget` bytes EU passes sources `left`: the values it has passed, and the block it then stands in. -/
structure PassesOn (s : State) (budget : Nat) (at' : Option Reached) (left : List Source) (blank : Nat → Bool)
    (addr : Nat → Option Nat) (more : List Byte) (now : Option Reached) : Prop where
  length_le : more.length ≤ left.length
  value : ∀ n c, n < more.length → left[n]? = some c →
    more[n]? = some (match addr n with | some a => s.mem.read a | none => c.fill)
  reads_le : ((List.range more.length).filter fun n => (addr n).isSome).length ≤ budget
  full : more.length < left.length →
    ((List.range more.length).filter fun n => (addr n).isSome).length = budget ∧ (addr more.length).isSome = true
  unmoved : more = [] → now = at'
  reached : ∀ n c, more.length = n + 1 → left[n]? = some c → now = some ⟨s.eu.blockOf c, blank n⟩

/-- Reads among the first `k + 1` sources are the first one's and those of the rest. -/
theorem reads_succ (f : Nat → Bool) (k : Nat) : ((List.range (k + 1)).filter f).length =
    (f 0).toNat + ((List.range k).filter fun n => f (n + 1)).length := by
  rw [List.range_succ_eq_map, List.filter_cons, List.filter_map]
  cases f 0 <;> simp [Function.comp_def, Nat.add_comm]

/-- One source passed, and then the rest. -/
theorem PassesOn.cons {budget used : Nat} {at' : Option Reached} {c : Source} {rest : List Source}
    {blank : Nat → Bool} {addr : Nat → Option Nat} {more : List Byte} {now : Option Reached} {v : Byte}
    (h : PassesOn s budget (some ⟨s.eu.blockOf c, blank 0⟩) rest (fun n => blank (n + 1)) (fun n => addr (n + 1)) more now)
    (hv : v = match addr 0 with | some a => s.mem.read a | none => c.fill)
    (hused : used = (addr 0).isSome.toNat) :
    PassesOn s (used + budget) at' (c :: rest) blank addr (v :: more) now where
  length_le := Nat.succ_le_succ h.length_le
  value n d hn hd := by
    cases n with
    | zero => cases hd; rw [hv]; rfl
    | succ n => exact h.value n d (Nat.lt_of_succ_lt_succ hn) hd
  reads_le := by
    rw [List.length_cons, reads_succ, hused]
    exact Nat.add_le_add_left h.reads_le _
  full hlt := by
    obtain ⟨hreads, hnext⟩ := h.full (Nat.lt_of_succ_lt_succ hlt)
    rw [List.length_cons, reads_succ, hused, hreads]
    exact ⟨rfl, hnext⟩
  unmoved hnil := by cases hnil
  reached n d hn hd := by
    cases n with
    | zero =>
      cases hd
      exact h.unmoved (List.length_eq_zero_iff.mp (Nat.succ.inj hn))
    | succ n => exact h.reached n d (Nat.succ.inj hn) hd

/-- Nothing is passed where the line is read or its next source needs a byte the burst has no room for. -/
theorem PassesOn.nil {left : List Source} {addr : Nat → Option Nat}
    (h : left ≠ [] → (addr 0).isSome = true) : PassesOn s 0 at' left blank addr [] at' where
  length_le := Nat.zero_le _
  value n c hn _ := absurd hn (Nat.not_lt_zero _)
  reads_le := Nat.le_refl _
  full hlt := ⟨rfl, h (List.length_pos_iff.mp hlt)⟩
  unmoved _ := rfl
  reached n c hn _ := by cases hn

theorem passAlong_passes (budget : Nat) {left : List Source} {blank : Nat → Bool} {addr : Nat → Option Nat}
    (hreach : ∀ n c, left[n]? = some c →
      s.reach (s.reachAll at' (left.take n)) (s.eu.blockOf c) = ⟨s.eu.blockOf c, blank n⟩)
    (haddr : ∀ n c, left[n]? = some c → s.sourceAddr (blank n) c = addr n) :
    PassesOn s budget at' left blank addr (s.passAlong budget at' [] left).1 (s.passAlong budget at' [] left).2 := by
  induction left generalizing at' budget blank addr with
  | nil => exact ⟨Nat.le_refl _, fun n c hn => absurd hn (Nat.not_lt_zero _), Nat.zero_le _,
      fun hlt => absurd hlt (Nat.not_lt_zero _), fun _ => rfl, fun n c hn => by cases hn⟩
  | cons c rest ih =>
    have hfirst : s.reach at' (s.eu.blockOf c) = ⟨s.eu.blockOf c, blank 0⟩ := hreach 0 c rfl
    have hrest (b : Nat) := ih b (at' := some ⟨s.eu.blockOf c, blank 0⟩) (blank := fun n => blank (n + 1))
      (addr := fun n => addr (n + 1)) (fun n d hd => by
        rw [← hreach (n + 1) d hd, ← hfirst]
        rfl) fun n d hd => haddr (n + 1) d hd
    have hzero := haddr 0 c rfl
    cases ha : addr 0 with
    | none =>
      rw [ha] at hzero
      have hpass : s.passAlong budget at' [] (c :: rest) =
          (c.fill :: (s.passAlong budget (some ⟨s.eu.blockOf c, blank 0⟩) [] rest).1,
            (s.passAlong budget (some ⟨s.eu.blockOf c, blank 0⟩) [] rest).2) := by
        simp only [State.passAlong, hfirst, hzero]
        rw [State.passAlong_values]
        rfl
      rw [hpass]
      have := (hrest budget).cons (at' := at') (v := c.fill) (used := 0) (by rw [ha]) (by rw [ha]; rfl)
      rwa [Nat.zero_add] at this
    | some a =>
      rw [ha] at hzero
      cases budget with
      | zero =>
        rw [State.passAlong_full s at' c rest a (by rw [hfirst, hzero])]
        exact .nil fun _ => by rw [ha]; rfl
      | succ budget =>
        have hpass : s.passAlong (budget + 1) at' [] (c :: rest) =
            (s.mem.read a :: (s.passAlong budget (some ⟨s.eu.blockOf c, blank 0⟩) [] rest).1,
              (s.passAlong budget (some ⟨s.eu.blockOf c, blank 0⟩) [] rest).2) := by
          simp only [State.passAlong, hfirst, hzero]
          rw [State.passAlong_values]
          rfl
        rw [hpass, Nat.add_comm]
        exact (hrest budget).cons (v := s.mem.read a) (used := 1) (by rw [ha]) (by rw [ha]; rfl)

end

end Sys2Proof.Machine

/-! ### The lines a job of the Export Unit sends (R155 to R158) -/

namespace Sys2Proof.Machine

/-! #### Lists made of blocks of one length -/

theorem length_flatMap_blocks {β : Type} (f : Nat → List β) {k : Nat} (hf : ∀ p, (f p).length = k) (l : List Nat) :
    (l.flatMap f).length = k * l.length := by
  rw [List.length_flatMap, List.map_congr_left (g := fun _ => k) fun p _ => hf p]
  simp [Nat.mul_comm]

/-- `n` blocks from block `i` on. -/
theorem slice_flatMap_blocks {β : Type} (f : Nat → List β) {k : Nat} (hf : ∀ p, (f p).length = k) {N i n : Nat}
    (h : i + n ≤ N) : (((List.range N).flatMap f).drop (k * i)).take (k * n) =
      (List.range n).flatMap fun a => f (i + a) := by
  obtain ⟨rest, rfl⟩ := Nat.exists_eq_add_of_le h
  have hlen (l : List Nat) := length_flatMap_blocks f hf l
  rw [Nat.add_assoc, List.range_add, List.flatMap_append, List.drop_left' (by rw [hlen, List.length_range]),
    List.flatMap_map, List.range_add, List.flatMap_append,
    List.take_left' (by rw [length_flatMap_blocks _ fun p => hf _, List.length_range])]

/-- The numbers below `n` that are even, as twice those below half of it. -/
theorem flatMap_evens {β : Type} (g : Nat → β) (n : Nat) :
    ((List.range n).flatMap fun p => if p % 2 = 0 then [g p] else []) =
      (List.range ((n + 1) / 2)).flatMap fun i => [g (2 * i)] := by
  induction n with
  | zero => rfl
  | succ n ih =>
    rw [List.range_succ, List.flatMap_append, ih]
    obtain h | h := Nat.mod_two_eq_zero_or_one n
    · have hhalf : (n + 1 + 1) / 2 = (n + 1) / 2 + 1 := by omega
      have hn : n = 2 * ((n + 1) / 2) := by omega
      rw [hhalf, List.range_succ, List.flatMap_append]
      simp [h, ← hn]
    · have hhalf : (n + 1 + 1) / 2 = (n + 1) / 2 := by omega
      simp [hhalf, h]

/-! #### Means (R156, R157) -/

theorem meanByte_one (v : Byte) : meanByte [v] = v := by
  have h : (2 * v.toNat + 1) / 2 = v.toNat := by omega
  simp [meanByte, byteOf, h]

/-- The mean of a block of columns by rows. -/
theorem meanByte_block (n m : Nat) (f : Nat → Nat → Byte) :
    meanByte ((List.range n).flatMap fun a => (List.range m).map (f a)) =
      byteOf ((2 * ((List.range n).map fun a => ((List.range m).map fun b => (f a b).toNat).sum).sum + m * n) /
        (2 * (m * n))) := by
  have hlen : ((List.range n).flatMap fun a => (List.range m).map (f a)).length = m * n := by
    rw [length_flatMap_blocks _ (k := m) fun p => by simp, List.length_range]
  have hsum : ((((List.range n).flatMap fun a => (List.range m).map (f a))).map BitVec.toNat).sum =
      ((List.range n).map fun a => ((List.range m).map fun b => (f a b).toNat).sum).sum := by
    rw [List.map_flatMap, List.flatMap_def, List.sum_flatten, List.map_map]
    simp only [List.map_map, Function.comp_def]
  rw [meanByte, hlen, hsum]

theorem meansOf_length (n count : Nat) (vs : List Byte) : (meansOf n count vs).length = count := by simp [meansOf]

theorem meansOf_get {n count i : Nat} (vs : List Byte) (h : i < count) :
    (meansOf n count vs)[i]? = some (meanByte ((vs.drop (n * i)).take n)) := by simp [meansOf, h]

/-! #### The source values of one kind, in list order -/

theorem fill_eq (c : Source) : c.fill = if c.part = none then 16#8 else 128#8 := by
  cases h : c.part <;> simp [Source.fill, h]

theorem values_filter (l : List Source) (value : Source → Byte) (part : Option Nat) :
    ((l.zip (l.map value)).filter fun cv => decide (cv.1.part = part)).map Prod.snd =
      (l.filter fun c => decide (c.part = part)).map value := by
  induction l with
  | nil => rfl
  | cons c l ih =>
    rw [List.map_cons, List.zip_cons_cons, List.filter_cons, List.filter_cons]
    by_cases h : c.part = part <;> simp [h, ih]

theorem sourceRows_filter (p q : Option Nat) (pos row n : Nat) :
    (sourceRows p pos row n).filter (fun c => decide (c.part = q)) = if p = q then sourceRows p pos row n else [] := by
  unfold sourceRows
  rw [List.filter_map]
  by_cases h : p = q <;> simp [Function.comp_def, h]

section

variable (e : Export) (k pos : Nat)

theorem sourcesAt_luma : (e.sourcesAt k pos).filter (fun c => decide (c.part = none)) =
    sourceRows none pos (e.firstRow + if e.quarter then 4 * k else k) (if e.quarter then 4 else 1) := by
  unfold Export.sourcesAt
  rw [List.filter_append, sourceRows_filter, if_pos rfl]
  by_cases h : k % 2 = 0 ∧ (e.quarter = true ∨ pos % 2 = 0)
  · rw [if_pos h, List.filter_append, sourceRows_filter, sourceRows_filter]
    simp
  · rw [if_neg h]
    simp

theorem sourcesAt_chroma {part : Nat} (hpart : part = 0 ∨ part = 1) :
    (e.sourcesAt k pos).filter (fun c => decide (c.part = some part)) =
      if k % 2 = 0 ∧ (e.quarter = true ∨ pos % 2 = 0) then
        sourceRows (some part) pos (e.firstRow + if e.quarter then 4 * k else k) (if e.quarter then 8 else 1)
      else [] := by
  unfold Export.sourcesAt
  rw [List.filter_append, sourceRows_filter, if_neg (by simp)]
  split
  · obtain rfl | rfl := hpart <;> simp [sourceRows_filter]
  · simp

theorem sources_filter (part : Option Nat) : (e.sources k).filter (fun c => decide (c.part = part)) =
    (List.range e.positions).flatMap fun pos => (e.sourcesAt k pos).filter fun c => decide (c.part = part) :=
  List.filter_flatMap

end

section

variable {s : State} {value : Source → Byte} {luma : List Byte} {chroma : List (Byte × Byte)}

theorem valuesOf_eq (h : s.lineValues = (s.eu.sources s.eu.linesSent).map value) (part : Option Nat) :
    s.valuesOf part = (List.range s.eu.positions).flatMap fun pos =>
      ((s.eu.sourcesAt s.eu.linesSent pos).filter fun c => decide (c.part = part)).map value := by
  rw [State.valuesOf, h, values_filter, sources_filter, List.map_flatMap]

/-- The luma values, by list position and source row. -/
theorem valuesOf_luma (h : s.lineValues = (s.eu.sources s.eu.linesSent).map value) {row rows : Nat}
    (hrow : row = s.eu.firstRow + if s.eu.quarter then 4 * s.eu.linesSent else s.eu.linesSent)
    (hrows : rows = if s.eu.quarter then 4 else 1) : s.valuesOf none =
      (List.range s.eu.positions).flatMap fun pos => (List.range rows).map fun b => value ⟨none, pos, row + b⟩ := by
  rw [valuesOf_eq h, hrow, hrows]
  refine List.flatMap_congr fun pos _ => ?_
  rw [sourcesAt_luma, sourceRows, List.map_map]
  rfl

/-- The values of one chroma byte on an even-numbered line at QUARTER. -/
theorem valuesOf_chroma_quarter (h : s.lineValues = (s.eu.sources s.eu.linesSent).map value) {row part : Nat}
    (hquarter : s.eu.quarter = true) (heven : s.eu.linesSent % 2 = 0) (hrow : row = s.eu.firstRow + 4 * s.eu.linesSent)
    (hpart : part = 0 ∨ part = 1) : s.valuesOf (some part) =
      (List.range s.eu.positions).flatMap fun pos => (List.range 8).map fun b => value ⟨some part, pos, row + b⟩ := by
  rw [valuesOf_eq h, hrow]
  refine List.flatMap_congr fun pos _ => ?_
  rw [sourcesAt_chroma _ _ _ hpart, if_pos ⟨heven, .inl hquarter⟩, sourceRows, List.map_map, hquarter]
  rfl

/-- The values of one chroma byte on an even-numbered line at FULL. -/
theorem valuesOf_chroma_full (h : s.lineValues = (s.eu.sources s.eu.linesSent).map value) {row part : Nat}
    (hquarter : s.eu.quarter = false) (heven : s.eu.linesSent % 2 = 0) (hrow : row = s.eu.firstRow + s.eu.linesSent)
    (hpart : part = 0 ∨ part = 1) : s.valuesOf (some part) =
      (List.range ((s.eu.positions + 1) / 2)).flatMap fun i => [value ⟨some part, 2 * i, row⟩] := by
  rw [valuesOf_eq h, hrow, ← flatMap_evens fun pos => value ⟨some part, pos, s.eu.firstRow + s.eu.linesSent⟩]
  refine List.flatMap_congr fun pos _ => ?_
  rw [sourcesAt_chroma _ _ _ hpart, hquarter]
  by_cases hpos : pos % 2 = 0 <;> simp [heven, hpos, sourceRows]

theorem nextLine_iff : s.nextLine = .line luma chroma ↔
    luma = meansOf (if s.eu.quarter then 16 else 1) s.eu.width (s.valuesOf none) ∧
    chroma = (meansOf (if s.eu.quarter then 64 else 1) (s.eu.pairs s.eu.linesSent) (s.valuesOf (some 0))).zip
      (meansOf (if s.eu.quarter then 64 else 1) (s.eu.pairs s.eu.linesSent) (s.valuesOf (some 1))) := by
  rw [State.nextLine, PortEvent.line.injEq]
  exact and_congr eq_comm eq_comm

theorem pairs_eq (e : Export) (k : Nat) : e.pairs k = if k % 2 = 1 then 0 else (e.width + 1) / 2 := by
  obtain h | h := Nat.mod_two_eq_zero_or_one k <;> simp [Export.pairs, h]

/-- An element of a line's chroma, from the two lists of means. -/
theorem zip_means_get {n count i : Nat} (cb cr : List Byte) (h : i < count) :
    ((meansOf n count cb).zip (meansOf n count cr))[i]? =
      some (meanByte ((cb.drop (n * i)).take n), meanByte ((cr.drop (n * i)).take n)) := by
  rw [List.getElem?_zip_eq_some]
  exact ⟨meansOf_get cb h, meansOf_get cr h⟩

/-- The samples of a FULL line. -/
theorem fullLine (h : s.lineValues = (s.eu.sources s.eu.linesSent).map value) (hline : s.nextLine = .line luma chroma)
    (hquarter : s.eu.quarter = false) {row : Nat} (hrow : row = s.eu.firstRow + s.eu.linesSent) :
    (∀ i, i < luma.length → luma[i]? = some (value ⟨none, i, row⟩)) ∧
    (∀ i, i < chroma.length → chroma[i]? = some (value ⟨some 0, 2 * i, row⟩, value ⟨some 1, 2 * i, row⟩)) := by
  obtain ⟨hluma, hchroma⟩ := nextLine_iff.mp hline
  have hpositions : s.eu.positions = s.eu.width := by simp [Export.positions, hquarter]
  have hone {N i : Nat} (f : Nat → Byte) (hi : i < N) :
      meanByte ((((List.range N).flatMap fun p => [f p]).drop (1 * i)).take 1) = f i := by
    rw [show (1 : Nat) = 1 * 1 from rfl, Nat.mul_assoc, slice_flatMap_blocks (fun p => [f p]) (k := 1) (fun _ => rfl)
      (N := N) (by omega)]
    exact (congrArg meanByte (by simp)).trans (meanByte_one (f i))
  refine ⟨fun i hi => ?_, fun i hi => ?_⟩
  · subst hluma
    rw [meansOf_length] at hi
    rw [meansOf_get _ hi, hquarter, valuesOf_luma h (row := row) (rows := 1) (by rw [hquarter]; exact hrow)
      (by rw [hquarter]; rfl), hpositions]
    exact congrArg some (hone (fun p => value ⟨none, p, row⟩) hi)
  · subst hchroma
    rw [List.length_zip, meansOf_length, meansOf_length, Nat.min_self, pairs_eq] at hi
    have heven : s.eu.linesSent % 2 = 0 := by
      by_contra hodd
      rw [if_pos (by omega)] at hi
      omega
    rw [zip_means_get _ _ (by rw [pairs_eq]; exact hi), hquarter, valuesOf_chroma_full h hquarter heven hrow (.inl rfl),
      valuesOf_chroma_full h hquarter heven hrow (.inr rfl), hpositions]
    rw [if_neg (by omega)] at hi
    exact congrArg some (Prod.ext (hone (fun i => value ⟨some 0, 2 * i, row⟩) hi)
      (hone (fun i => value ⟨some 1, 2 * i, row⟩) hi))

/-- The mean of `n` columns of `n` values each, from column `n * i` on. -/
theorem meanByte_slice {N n m i : Nat} (f : Nat → Nat → Byte) (h : n * i + n ≤ N) :
    meanByte ((((List.range N).flatMap fun p => (List.range m).map (f p)).drop (m * n * i)).take (m * n)) =
      byteOf ((2 * ((List.range n).map fun a => ((List.range m).map fun b => (f (n * i + a) b).toNat).sum).sum + m * n) /
        (2 * (m * n))) := by
  rw [Nat.mul_assoc, slice_flatMap_blocks _ (k := m) (fun p => by simp) h]
  exact meanByte_block n m fun a => f (n * i + a)

/-- The samples of a QUARTER line. -/
theorem quarterLine (h : s.lineValues = (s.eu.sources s.eu.linesSent).map value) (hline : s.nextLine = .line luma chroma)
    (hquarter : s.eu.quarter = true) {row : Nat} (hrow : row = s.eu.firstRow + 4 * s.eu.linesSent) :
    (∀ x, x < luma.length → luma[x]? = some (byteOf ((2 * ((List.range 4).map fun a =>
      ((List.range 4).map fun b => (value ⟨none, 4 * x + a, row + b⟩).toNat).sum).sum + 16) / 32))) ∧
    (∀ i, i < chroma.length → ∃ mean : Nat → Nat, chroma[i]? = some (byteOf (mean 0), byteOf (mean 1)) ∧
      ∀ part, mean part = (2 * ((List.range 8).map fun a =>
        ((List.range 8).map fun b => (value ⟨some part, 8 * i + a, row + b⟩).toNat).sum).sum + 64) / 128) := by
  obtain ⟨hluma, hchroma⟩ := nextLine_iff.mp hline
  have hpositions : s.eu.positions = 4 * s.eu.width := by simp [Export.positions, hquarter]
  have hwidth : s.eu.width = 2 * (s.eu.columns.length / 8) := by simp [Export.width, hquarter]
  refine ⟨fun x hx => ?_, fun i hi => ⟨fun part => (2 * ((List.range 8).map fun a =>
    ((List.range 8).map fun b => (value ⟨some part, 8 * i + a, row + b⟩).toNat).sum).sum + 64) / 128, ?_, fun _ => rfl⟩⟩
  · subst hluma
    rw [meansOf_length] at hx
    rw [meansOf_get _ hx, hquarter, valuesOf_luma h (row := row) (rows := 4) (by rw [hquarter]; exact hrow)
      (by rw [hquarter]; rfl), hpositions]
    exact congrArg some (meanByte_slice (n := 4) (m := 4) (fun p b => value ⟨none, p, row + b⟩) (by omega))
  · subst hchroma
    rw [List.length_zip, meansOf_length, meansOf_length, Nat.min_self, pairs_eq] at hi
    have heven : s.eu.linesSent % 2 = 0 := by
      by_contra hodd
      rw [if_pos (by omega)] at hi
      omega
    rw [zip_means_get _ _ (by rw [pairs_eq]; exact hi), hquarter, valuesOf_chroma_quarter h hquarter heven hrow (.inl rfl),
      valuesOf_chroma_quarter h hquarter heven hrow (.inr rfl), hpositions]
    rw [if_neg (by omega)] at hi
    exact congrArg some (Prod.ext
      (meanByte_slice (n := 8) (m := 8) (fun p b => value ⟨some 0, p, row + b⟩) (by omega))
      (meanByte_slice (n := 8) (m := 8) (fun p b => value ⟨some 1, p, row + b⟩) (by omega)))

/-! #### EXPORT_LINE -/

theorem exportWaits_iff (s : State) : s.ringWaits .eu = true ↔
    (s.eu.state = .running ∨ (s.eu.state = .stopping ∧ s.eu.lineBegun = true)) ∧ s.lineRead = false := by
  show s.exportWaits = true ↔ _
  cases h : s.eu.state <;> simp [State.exportWaits, h]

theorem exportLine_waits (h : s.ringWaits .eu = true) : exec .exportLine s = .next s := by
  obtain ⟨hstate, hread⟩ := (exportWaits_iff s).mp h
  show execExportLine s = _
  obtain hrun | ⟨hstop, hline⟩ := hstate
  · simp [execExportLine, hrun, hread]
  · simp [execExportLine, hstop, hline, hread]

theorem sendLine_eq (hline : s.nextLine = .line luma chroma) : s.sendLine = { s with
    eu := { s.eu with linesSent := s.eu.linesSent + 1, fetched := [], reached := none }
    port := s.port ++ [PortEvent.line luma chroma] } := by
  rw [State.sendLine, hline]
  rfl

theorem exportLine_running (hrun : s.eu.state = .running) (hread : s.lineRead = true) :
    exec .exportLine s = .next s.sendLine.afterLine := by
  show execExportLine s = _
  simp [execExportLine, hrun, hread]

theorem exportLine_stopping (hstop : s.eu.state = .stopping) : exec .exportLine s = .next
    (if !s.eu.lineBegun then s.endJob .stopped else if s.lineRead then s.sendLine.endJob .stopped else s) := by
  show execExportLine s = _
  simp only [execExportLine, hstop]

/-- The end of a job behind its last line. -/
theorem sendLine_endJob (hline : s.nextLine = .line luma chroma) (r : JobResult) : s.sendLine.endJob r = ({ s with
    eu := { s.eu with
      state := .idle, result := r, linesSent := s.eu.linesSent + 1
      lineBegun := false, fetched := [], reached := none }
    port := s.port ++ [PortEvent.line luma chroma, PortEvent.frameEnd] }).raise .exportDone := by
  rw [sendLine_eq hline, endJob_eq, List.append_assoc]
  rfl

end

/-- Where a line's sources and their readings are as told, EU's burst passes on along them. -/
theorem passOn_passes {s : State} {left : List Source} {blank : Nat → Bool} {addr : Nat → Option Nat}
    (hleft : left = s.unread) (hblocks : ReadsBlocks s s.eu.reached left blank)
    (haddr : ∀ n c (col : Nat × Int) (r : Int), left[n]? = some c → col = s.eu.columns.getD c.pos (0, 0) →
      r = c.row + col.2 → addr n = if r < 0 ∨ (s.geo.ch : Int) ≤ r ∨ blank n = true then none else some (match c.part with
        | none => r.toNat * s.geo.cw + col.1
        | some part => s.geo.cw * s.geo.ch + r.toNat / 2 * s.geo.cw + 2 * (col.1 / 2) + part)) (budget : Nat) :
    PassesOn s budget s.eu.reached left blank addr (s.passOn budget).1 (s.passOn budget).2 := by
  rw [State.passOn, ← hleft]
  refine passAlong_passes budget (fun n c hc => hblocks.reach hc) fun n c hc => ?_
  rw [haddr n c _ _ hc rfl rfl, State.sourceAddr, Export.column, List.getD_eq_getElem?_getD]
  rfl

/-- EU waits for memory exactly while an unread source of its line is a canvas byte. -/
theorem lineRead_iff {s : State} {left : List Source} {blank : Nat → Bool} {addr : Nat → Option Nat}
    (hleft : left = s.unread) (h : PassesOn s 0 s.eu.reached left blank addr (s.passOn 0).1 (s.passOn 0).2) :
    s.lineRead = false ↔ ∃ n, n < left.length ∧ (addr n).isSome = true := by
  rw [State.lineRead, ← hleft, decide_eq_false_iff_not, Nat.not_le]
  refine ⟨fun hlt => ⟨_, hlt, (h.full hlt).2⟩, fun ⟨n, hn, hsome⟩ => ?_⟩
  by_contra hle
  have hmem : n ∈ (List.range (s.passOn 0).1.length).filter fun n => (addr n).isSome :=
    List.mem_filter.mpr ⟨List.mem_range.mpr (by omega), hsome⟩
  have := List.length_pos_of_mem hmem
  have := h.reads_le
  omega

/-- Of a line that waits for no memory only fill is left. -/
theorem lineValues_read {s : State} {left : List Source} {blank : Nat → Bool} {addr : Nat → Option Nat}
    (hleft : left = s.unread) (h : PassesOn s 0 s.eu.reached left blank addr (s.passOn 0).1 (s.passOn 0).2)
    (hread : s.lineRead = true) : s.lineValues = s.eu.fetched ++ left.map Source.fill := by
  have hnone (n : Nat) (hn : n < left.length) : addr n = none := by
    cases ha : addr n with
    | none => rfl
    | some a =>
      have := (lineRead_iff hleft h).mpr ⟨n, hn, by rw [ha]; rfl⟩
      rw [hread] at this
      cases this
  have hlen : left.length ≤ (s.passOn 0).1.length := by
    rw [hleft]
    exact of_decide_eq_true hread
  refine congrArg (s.eu.fetched ++ ·) (List.ext_getElem? fun n => ?_)
  cases hc : left[n]? with
  | none =>
    have := List.getElem?_eq_none_iff.mp hc
    have := h.length_le
    rw [List.getElem?_eq_none (by omega), List.getElem?_map, hc]
    rfl
  | some c =>
    have hn : n < left.length := (List.getElem?_eq_some_iff.mp hc).1
    rw [h.value n c (by omega) hc, hnone n hn, List.getElem?_map, hc]
    rfl

/-- Settles O37. -/
theorem exportJobSendsItsLines : Obligations.ExportJobSendsItsLines := by
  refine ⟨fun s => ⟨fun p col count row rows scale mode h hlen hcol hcount hrow hrows hscale hmode span hspan =>
      exportStart_checks h hlen hcol hcount hrow hrows hscale hmode hspan, exportStop_cases⟩,
    fun s left block blank addr fill hleft hblock hkept hanew haddr hfill => ?_, fun s => ⟨fun hidle => ?_, fun hstop hline =>
      ?_⟩⟩
  · have hblockOf : block = s.eu.blockOf := by
      rw [hblock]
      funext c
      rw [Export.blockOf, Export.column, List.getD_eq_getElem?_getD]
    have hfillOf : fill = Source.fill := by rw [hfill]; funext c; rw [fill_eq]
    subst hblockOf hfillOf
    have hpass := passOn_passes hleft ⟨hkept, hanew⟩ haddr
    have hwaits := lineRead_iff hleft (hpass 0)
    refine ⟨(exportWaits_iff s).trans (and_congr Iff.rfl hwaits), exportLine_waits,
      ⟨(s.passOn 64).1, (s.passOn 64).2, rfl, (hpass 64).length_le, (hpass 64).value, fun reads hreads => ?_,
        (hpass 64).unmoved, (hpass 64).reached⟩, fun value luma chroma hwait hidle hfetched hvalues hbegun hline => ?_⟩
    · subst hreads
      exact ⟨(hpass 64).reads_le, (hpass 64).full⟩
    · have hread : s.lineRead = true := by
        by_contra hread
        have hwaiting := (exportWaits_iff s).mpr ⟨?_, by simpa using hread⟩
        · rw [hwait] at hwaiting
          cases hwaiting
        · cases hstate : s.eu.state with
          | idle => exact absurd hstate hidle
          | running => exact .inl rfl
          | stopping => exact .inr ⟨rfl, hbegun hstate⟩
      have hall : s.lineValues = (s.eu.sources s.eu.linesSent).map value :=
        (lineValues_read hleft (hpass 0) hread).trans hvalues
      obtain ⟨hluma, hchroma⟩ := nextLine_iff.mp hline
      have hlumaLength : luma.length = s.eu.width := by rw [hluma, meansOf_length]
      refine ⟨hlumaLength, ?_, fun row hquarter hrow => fullLine hall hline hquarter hrow,
        fun row hquarter hrow => quarterLine hall hline hquarter hrow, fun hrun => ⟨fun hlast => ?_, fun hmore => ?_⟩,
        fun hstop => ?_⟩
      · rw [hchroma, List.length_zip, meansOf_length, meansOf_length, Nat.min_self, hlumaLength, pairs_eq]
      · rw [exportLine_running hrun hread, ← sendLine_endJob hline]
        exact congrArg Host.Outcome.next (if_pos hlast)
      · rw [exportLine_running hrun hread, sendLine_eq hline]
        exact congrArg Host.Outcome.next (if_neg (Nat.not_le.mpr hmore))
      · rw [exportLine_stopping hstop, hbegun hstop, hread, ← sendLine_endJob hline]
        rfl
  · show execExportLine s = _
    simp only [execExportLine, hidle]
  · rw [exportLine_stopping hstop, hline, ← endJob_eq]
    rfl

end Sys2Proof.Machine

/-! ### FRAME_START (R18, R21, R25, R26, R164) -/

namespace Sys2Proof.Machine

section

variable {s : State}

/-! #### A frame that PI drops -/

theorem clearHint_eq (s : State) (v : Serial) : s.clearHint v =
    { s with me := { s.me with hint := s.me.hint.filter fun h => decide (h.tag ≠ some v) } } := by
  have hself (h : Option Hint) (hh : s.me.hint = h) : ({ s with me := { s.me with hint := h } } : State) = s := by
    subst hh
    rfl
  cases hhint : s.me.hint with
  | none =>
    simp only [State.clearHint, hhint, Option.filter_none]
    exact (hself none hhint).symm
  | some h =>
    by_cases htag : h.tag = some v
    · have hdrop : (some h).filter (fun h : Hint => decide (h.tag ≠ some v)) = none := by simp [Option.filter, htag]
      simp only [State.clearHint, hhint, htag, hdrop, if_true]
    · have hkeep : (some h).filter (fun h : Hint => decide (h.tag ≠ some v)) = some h := by simp [Option.filter, htag]
      simp only [State.clearHint, hhint, htag, hkeep, if_false]
      exact (hself (some h) hhint).symm

theorem recordOutcome_eq_dropped {lf : LastFrame} (h : lf.outcome.isDropped = true) : s.recordOutcome lf =
    ({ s with sc := { s.sc with dropped := s.sc.dropped + 1#32, last := lf } }).raise .frameDropped := if_pos h

/-- A frame without an outcome that PI drops, in full. -/
theorem settleIntake_eq_dropped {b : BankId} {v : Serial} {o : FrameOutcome} (hopen : (s.bank b).state.isOpen = true)
    (hserial : (s.bank b).serial = some v) (ho : o.isDropped = true) : s.settleIntake b o = ({ s with
      pi := { s.pi with
        queue := s.pi.queue.filter fun c => !decide (c = b)
        banks := s.pi.banks.set b { s.bank b with state := .free, serial := none } }
      sc := { s.sc with dropped := s.sc.dropped + 1#32, last := ⟨v, o, 0, 0, 0, 0, 0, 0⟩ }
      me := { s.me with hint := s.me.hint.filter fun h => decide (h.tag ≠ some v) } }).raise .frameDropped := by
  rw [State.settleIntake, hserial, clearHint_eq, settle_open _ hopen, recordOutcome_eq_dropped (by exact ho)]
  rfl

/-- A frame dropped at its start, in full. -/
theorem dropAtStart_eq {o : FrameOutcome} (ho : o.isDropped = true) : s.countFrame.dropAtStart o = ({ s with
    pi := { s.pi with serial := s.pi.serial + 1#16 }
    sc := { s.sc with
      started := s.sc.started + 1#32, dropped := s.sc.dropped + 1#32
      last := ⟨s.pi.serial + 1#16, o, 0, 0, 0, 0, 0, 0⟩ }
    me := { s.me with
      hint := s.me.hint.filter fun h => decide (h.tag ≠ some (s.pi.serial + 1#16)) } }).raise .frameDropped := by
  rw [State.dropAtStart, clearHint_eq, recordOutcome_eq_dropped (by exact ho)]
  rfl

/-! #### A bank is taken -/

theorem findFree_none (h : ∀ b, (s.bank b).state ≠ .free) :
    (bankIds.find? fun b => decide ((s.bank b).state = .free)) = none := by
  simp [bankIds, h]

theorem findFree_some {b : BankId} (hfree : (s.bank b).state = .free)
    (hlowest : ∀ c, c.index < b.index → (s.bank c).state ≠ .free) :
    (bankIds.find? fun b => decide ((s.bank b).state = .free)) = some b := by
  cases b with
  | b0 => simp [bankIds, hfree]
  | b1 => simp [bankIds, hfree, hlowest .b0 (by decide)]
  | b2 => simp [bankIds, hfree, hlowest .b0 (by decide), hlowest .b1 (by decide)]

theorem takeBank_none (h : ∀ b, (s.bank b).state ≠ .free) : s.countFrame.takeBank = s.countFrame.dropAtStart .droppedBusy := by
  have hfind := findFree_none (s := s.countFrame) h
  simp only [State.takeBank, hfind]

theorem takeBank_some {b : BankId} (hfree : (s.bank b).state = .free)
    (hlowest : ∀ c, c.index < b.index → (s.bank c).state ≠ .free) : s.countFrame.takeBank = { s with
      pi := { s.pi with
        port := some b, serial := s.pi.serial + 1#16
        banks := s.pi.banks.set b ⟨.filling, some (s.pi.serial + 1#16), 0, false, .none, s.prm.cornerMin, [], [], [], 0⟩ }
      sc := { s.sc with started := s.sc.started + 1#32 } } := by
  have hfind := findFree_some (s := s.countFrame) hfree hlowest
  simp only [State.takeBank, hfind]
  rfl

/-! #### The gap opens (R164) -/

theorem openGap_unread (v : Serial) (h : ∀ g, s.dr.gap = some g → g.word = none) : s.openGap v = { s with
    dr := if s.dr.enabled then { s.dr with readPtr := s.dr.startPtr, budget := 0, gap := some ⟨v, none⟩ } else s.dr } := by
  unfold State.openGap
  rw [closeGap_unread h]
  cases henabled : s.dr.enabled <;> simp [henabled]

theorem openGap_read {frame v : Serial} {w : ReadWord} {t : State} (henabled : s.dr.enabled = true)
    (h : s.dr.gap = some ⟨frame, some w⟩) (ht : t = s.applyWord frame w) : s.openGap v = { t with
      dr := if t.dr.enabled then { t.dr with readPtr := t.dr.startPtr, budget := 0, gap := some ⟨v, none⟩ }
        else { t.dr with gap := none } } := by
  unfold State.openGap
  rw [closeGap_read h, ← ht, if_pos henabled]
  cases hgap : t.dr.enabled <;> simp [State.dropGap, hgap]

/-! #### FRAME_START in AWAIT -/

/-- A counted frame with its bank or its outcome, before its gap opens. -/
def State.begun (s : State) : State :=
  if s.sc.sweep = .armed ∨ s.sc.sweep = .sweeping then s.countFrame.takeBank else s.countFrame.dropAtStart .droppedHeld

theorem frameStart_opens (h : s.sc.sweep = .armed ∨ s.sc.sweep = .sweeping ∨ ∃ c, s.sc.sweep = .held c) :
    s.frameStart = s.begun.openGap s.begun.pi.serial := by
  obtain h | h | ⟨c, h⟩ := h <;> simp [State.frameStart, State.begun, h]

theorem begun_setReader (s : State) (d : Reader) : ({ s with dr := d } : State).begun = { s.begun with dr := d } := by
  by_cases h : s.sc.sweep = .armed ∨ s.sc.sweep = .sweeping
  · have htake : ({ s with dr := d } : State).countFrame.takeBank = { s.countFrame.takeBank with dr := d } := by
      have hbank (b : BankId) : ({ s with dr := d } : State).countFrame.bank b = s.countFrame.bank b := rfl
      cases hfind : bankIds.find? fun b => decide ((s.countFrame.bank b).state = .free) with
      | none =>
        simp only [State.takeBank, hbank, hfind]
        rw [dropAtStart_eq (s := s) (o := .droppedBusy) rfl, dropAtStart_eq (o := .droppedBusy) rfl]
        rfl
      | some b =>
        simp only [State.takeBank, hbank, hfind]
        rfl
    rw [State.begun, if_pos (by exact h), htake, State.begun, if_pos h]
  · rw [State.begun, if_neg (by exact h), State.begun, if_neg h,
      dropAtStart_eq (s := s) (o := .droppedHeld) rfl, dropAtStart_eq (o := .droppedHeld) rfl]
    rfl

theorem begun_keeps (s : State) : s.begun.pi.serial = s.pi.serial + 1#16 ∧ s.begun.dr = s.dr := by
  have hcount : s.countFrame.pi.serial = s.pi.serial + 1#16 ∧ s.countFrame.dr = s.dr := ⟨rfl, rfl⟩
  unfold State.begun State.takeBank
  split
  · split <;> simp [hcount, State.setBank, State.setPort, State.dropAtStart]
  · simp [hcount, State.dropAtStart]

theorem frameStart_await (h : s.pi.port = none) : exec .frameStart s = .next s.frameStart := by
  show execFrameStart s = _
  simp only [execFrameStart, State.closeUnended, h]

end

/-- Settles O38. -/
theorem frameStartBySweepState : Obligations.FrameStartBySweepState := by
  refine ⟨fun s b v hport hfilling hserial => ?_, fun s v gapped drop hport hv hgap hgapped hdrop => ?_,
    fun s u t frame w n hport hsweep henabled hgap hu ht => ?_⟩
  · rw [frameStart_await (s := State.raise _ _) rfl]
    show execFrameStart s = _
    simp only [execFrameStart, State.closeUnended, hport]
    rw [settleIntake_eq_dropped (isOpen_of_filling hfilling) hserial rfl]
    rfl
  · subst hv hgapped hdrop
    have hopen (t : State) (ht : t.dr = s.dr) := openGap_unread (s := t) t.pi.serial (by rw [ht]; exact hgap)
    rw [frameStart_await hport]
    refine ⟨fun hsweep => ?_, fun hsweep => ?_, fun c hsweep => ?_, fun hsweep => ⟨fun hnone => ?_, fun b hfree hlowest =>
      ?_⟩⟩
    · obtain h | h := hsweep <;> simp only [State.frameStart, h]
    · have hstart : s.frameStart = s.countFrame.dropAtStart .droppedClosing := by simp only [State.frameStart, hsweep]
      rw [hstart, dropAtStart_eq rfl]
    · have hbegun : s.begun = s.countFrame.dropAtStart .droppedHeld := if_neg (by simp [hsweep])
      rw [frameStart_opens (.inr (.inr ⟨c, hsweep⟩)), hopen _ (begun_keeps s).2, hbegun, dropAtStart_eq rfl]
      rfl
    · have hbegun : s.begun = s.countFrame.takeBank := if_pos hsweep
      rw [frameStart_opens (hsweep.imp id .inl), hopen _ (begun_keeps s).2, hbegun, takeBank_none hnone, dropAtStart_eq rfl]
      rfl
    · have hbegun : s.begun = s.countFrame.takeBank := if_pos hsweep
      rw [frameStart_opens (hsweep.imp id .inl), hopen _ (begun_keeps s).2, hbegun, takeBank_some hfree hlowest]
  · obtain ⟨hserial, hdr⟩ := begun_keeps s
    rw [frameStart_await (s := { s with dr := { s.dr with enabled := false } }) hport,
      frameStart_opens (s := { s with dr := { s.dr with enabled := false } }) hsweep, begun_setReader] at hu
    have hu : ({ s.begun with dr := { s.dr with enabled := false } } : State) = u := Host.Outcome.next.inj hu
    have hback : ({ u with dr := s.dr } : State) = s.begun := by rw [← hu, ← hdr]
    rw [hback] at ht
    rw [frameStart_await hport, frameStart_opens hsweep,
      openGap_read (by rw [hdr]; exact henabled) (by rw [hdr]; exact hgap) ht, hserial]

end Sys2Proof.Machine

/-! ### LINE and FRAME_END (R15, R17, R19, R20, R24, R28, R32) -/

namespace Sys2Proof.Machine

section

variable {s : State} {b : BankId} {luma : List Byte} {chroma : List (Byte × Byte)}

/-! #### The bank's record after a line -/

theorem addGuideRow_keeps (k : Bank) (g : Geometry) (row : List Byte) :
    (k.addGuideRow g row).lineCount = k.lineCount ∧ (k.addGuideRow g row).damaged = k.damaged ∧
    (k.addGuideRow g row).state = k.state ∧ (k.addGuideRow g row).serial = k.serial ∧
    (k.addGuideRow g row).drop = k.drop ∧ (k.addGuideRow g row).cornerMin = k.cornerMin ∧
    (k.addGuideRow g row).guide = k.guide ++ [row] := by
  unfold Bank.addGuideRow
  dsimp only
  split <;> exact ⟨rfl, rfl, rfl, rfl, rfl, rfl, rfl⟩

/-- The guide row in progress once the line's samples have been added. -/
def Bank.guideTotal (k : Bank) (g : Geometry) (r : Nat) (luma : List Byte) : List Nat :=
  if r % 4 = 0 then lineSums g.guideWidth luma else List.zipWith (· + ·) k.sums (lineSums g.guideWidth luma)

theorem feedGuide_eq (k : Bank) (g : Geometry) (r : Nat) (luma : List Byte) : k.feedGuide g r luma =
    if r % 4 = 3 then ({ k with sums := [] }).addGuideRow g (guideRow (k.guideTotal g r luma))
    else { k with sums := k.guideTotal g r luma } := rfl

theorem feedGuide_keeps (k : Bank) (g : Geometry) (r : Nat) (luma : List Byte) :
    (k.feedGuide g r luma).lineCount = k.lineCount ∧ (k.feedGuide g r luma).damaged = k.damaged ∧
    (k.feedGuide g r luma).state = k.state ∧ (k.feedGuide g r luma).serial = k.serial ∧
    (k.feedGuide g r luma).drop = k.drop ∧ (k.feedGuide g r luma).cornerMin = k.cornerMin ∧
    (k.feedGuide g r luma).guide.length = k.guide.length + if r % 4 = 3 then 1 else 0 := by
  rw [feedGuide_eq]
  by_cases h : r % 4 = 3
  · obtain ⟨hcount, hdamaged, hstate, hserial, hdrop, hmin, hguide⟩ := addGuideRow_keeps { k with sums := [] } g
      (guideRow (k.guideTotal g r luma))
    rw [if_pos h, if_pos h]
    exact ⟨hcount, hdamaged, hstate, hserial, hdrop, hmin, by rw [hguide, List.length_append]; rfl⟩
  · rw [if_neg h, if_neg h]
    exact ⟨rfl, rfl, rfl, rfl, rfl, rfl, rfl⟩

/-- The bank's record after a line: number, damage, guide; its frame's serial, state and marks stand. -/
theorem addLine_record (k : Bank) (g : Geometry) (luma : List Byte) (chroma : List (Byte × Byte)) :
    (k.addLine g luma chroma).lineCount = min 65535 (k.lineCount + 1) ∧
    (k.addLine g luma chroma).damaged = (k.damaged || g.lineDamaged k.lineCount luma chroma) ∧
    (k.addLine g luma chroma).state = k.state ∧ (k.addLine g luma chroma).serial = k.serial ∧
    (k.addLine g luma chroma).drop = k.drop ∧ (k.addLine g luma chroma).cornerMin = k.cornerMin ∧
    (k.addLine g luma chroma).guide.length =
      k.guide.length + if k.lineCount < g.fh ∧ k.lineCount % 4 = 3 then 1 else 0 := by
  unfold Bank.addLine
  by_cases h : k.lineCount < g.fh
  · obtain ⟨hcount, hdamaged, hstate, hserial, hdrop, hmin, hguide⟩ := feedGuide_keeps { k with
        lineCount := min 65535 (k.lineCount + 1)
        damaged := k.damaged || g.lineDamaged k.lineCount luma chroma } g k.lineCount luma
    simp only [if_pos h]
    exact ⟨hcount, hdamaged, hstate, hserial, hdrop, hmin, by rw [hguide]; simp [h]⟩
  · simp [h]

theorem lineDamaged_iff (g : Geometry) (r : Nat) (luma : List Byte) (chroma : List (Byte × Byte)) :
    g.lineDamaged r luma chroma = true ↔ luma.length ≠ g.fw ∨ (r % 2 = 0 ∧ chroma.length ≠ g.fw / 2) ∨
      (r % 2 = 1 ∧ chroma ≠ []) := by
  obtain h | h := Nat.mod_two_eq_zero_or_one r <;> simp [Geometry.lineDamaged, h]

theorem lineCells_eq (g : Geometry) (base r : Nat) (luma : List Byte) (chroma : List (Byte × Byte)) :
    g.lineCells base r luma chroma = if g.fh ≤ r then [] else
      cellsAt (base + r * g.fw) (luma.take g.fw) ++ (if r % 2 = 1 then [] else
        cellsAt (base + g.fw * g.fh + r / 2 * g.fw) ((chroma.take (g.fw / 2)).flatMap fun c => [c.1, c.2])) := by
  unfold Geometry.lineCells
  by_cases h : r < g.fh
  · rw [if_pos h, if_neg (c := g.fh ≤ r) (by omega)]
    obtain hr | hr := Nat.mod_two_eq_zero_or_one r <;> simp [hr, Geometry.frameLuma, Geometry.frameChroma]
  · rw [if_neg h, if_pos (by omega)]

/-! #### LINE -/

/-- The state after a line: what the grants wrote, the buffer and the bank. -/
def State.lineTaken (s : State) (b : BankId) (luma : List Byte) (chroma : List (Byte × Byte)) : State :=
  ({ s.writeMem (s.lineFill b luma chroma).1 with pi := (s.lineFill b luma chroma).2 }).setBank b
    ((s.bank b).addLine s.geo luma chroma)

theorem exec_line (hfits : s.memoryFits = true) (hport : s.pi.port = some b) :
    exec (.line luma chroma) s = .next (s.lineTaken b luma chroma) := by
  show execLine luma chroma s = _
  simp only [execLine, hport]
  rw [State.granted_next _ _ _ hfits]
  rfl

theorem line_await (h : s.pi.port = none) : exec (.line luma chroma) s = .next s := by
  show execLine luma chroma s = _
  simp only [execLine, h]

/-- A line leaves the buffer's port, serial and queue, and gives its bank the next record. -/
theorem lineTaken_parts (s : State) (b : BankId) (luma : List Byte) (chroma : List (Byte × Byte)) :
    (s.lineTaken b luma chroma).pi.port = s.pi.port ∧ (s.lineTaken b luma chroma).pi.serial = s.pi.serial ∧
    (s.lineTaken b luma chroma).pi.queue = s.pi.queue ∧
    (s.lineTaken b luma chroma).pi.waiting = (s.lineFill b luma chroma).2.waiting ∧
    (s.lineTaken b luma chroma).pi.filling = (s.lineFill b luma chroma).2.filling ∧
    (s.lineTaken b luma chroma).bank b = (s.bank b).addLine s.geo luma chroma ∧
    ∀ c, c ≠ b → (s.lineTaken b luma chroma).bank c = s.bank c := by
  obtain ⟨hport, hserial, hqueue, hbanks⟩ := Intake.fill_keeps s.pi
    (s.geo.lineCells (s.bankBase b) (s.bank b).lineCount luma chroma)
  refine ⟨hport, hserial, hqueue, rfl, rfl, bank_setBank_same _ _ _, fun c hc => ?_⟩
  rw [State.lineTaken, bank_setBank_other _ _ hc]
  exact bank_of_banks hbanks c

/-! #### FRAME_END -/

theorem exec_frameEnd (hfits : s.memoryFits = true) (hport : s.pi.port = some b) : exec .frameEnd s =
    .next (((s.writeMem (s.pi.waiting ++ s.pi.filling)).closeFrame b).leaveStore) := by
  show execFrameEnd s = _
  simp only [execFrameEnd, hport]
  exact State.granted_next _ _ _ hfits

theorem frameEnd_await (h : s.pi.port = none) : exec .frameEnd s = .next s := by
  show execFrameEnd s = _
  simp only [execFrameEnd, h]

theorem closeFrame_damaged (h : (s.bank b).lineCount ≠ s.geo.fh ∨ (s.bank b).damaged = true) :
    s.closeFrame b = s.settleIntake b .damaged := if_pos h

theorem closeFrame_complete (hcount : (s.bank b).lineCount = s.geo.fh) (hdamaged : (s.bank b).damaged = false) :
    s.closeFrame b = match (s.bank b).drop with
      | .held => s.settleIntake b .droppedHeld
      | .closing => s.settleIntake b .droppedClosing
      | .none => if (s.bank b).state = .filling then s.queueBank b else s := by
  refine (if_neg ?_).trans ?_
  · simp [hcount, hdamaged]
  · cases (s.bank b).drop <;> rfl

end

/-! #### Every candidate is strong enough (R30, R32) -/

/-- Candidates the Corner Finder may give a list: corners of at least CORNER_MIN. -/
def StrongEnough (cornerMin : Nat) (l : List Candidate) : Prop := ∀ c ∈ l, cornerMin ≤ c.strength

theorem mem_insertStronger (c e : Candidate) (l : List Candidate) :
    e ∈ Geometry.insertStronger c l ↔ e = c ∨ e ∈ l := by
  induction l with
  | nil => simp [Geometry.insertStronger]
  | cons k l ih =>
    rw [Geometry.insertStronger]
    split
    · simp
    · rw [List.mem_cons, ih, List.mem_cons]
      tauto

theorem mem_foldl_insertStronger (l acc : List Candidate) (e : Candidate) :
    e ∈ l.foldl (fun l c => Geometry.insertStronger c l) acc ↔ e ∈ acc ∨ e ∈ l := by
  induction l generalizing acc with
  | nil => simp
  | cons c l ih =>
    rw [List.foldl_cons, ih, mem_insertStronger, List.mem_cons]
    tauto

theorem cellCandidates_strong (g : Geometry) (img : List (List Byte)) (cornerMin row col : Nat) :
    StrongEnough cornerMin (g.cellCandidates img cornerMin row col) := by
  intro c hc
  have hmem := List.mem_of_mem_take hc
  rw [mem_foldl_insertStronger] at hmem
  obtain ⟨p, hp, rfl⟩ := List.mem_map.mp (hmem.resolve_left (by simp))
  have hcorner := (Bool.and_eq_true_iff.mp (List.mem_filter.mp hp).2).2
  simp only [Geometry.isCorner, Bool.and_eq_true, decide_eq_true_eq] at hcorner
  exact hcorner.1.1

theorem rowCandidates_strong (g : Geometry) (img : List (List Byte)) (cornerMin row : Nat) :
    StrongEnough cornerMin (g.rowCandidates img cornerMin row) := by
  intro c hc
  obtain ⟨col, -, hcol⟩ := List.mem_flatMap.mp hc
  exact cellCandidates_strong g img cornerMin row col c hcol

/-- Settles O39: a line is its buffer's filling and its bank's record. -/
theorem lineFillsTheStoringBank : Obligations.LineFillsTheStoringBank := by
  intro s luma chroma
  refine ⟨line_await, fun b r cells hfits hport hr hcells => ⟨_, (s.lineFill b luma chroma).1, exec_line hfits hport, rfl,
    ?_⟩⟩
  obtain ⟨hport', hserial, hqueue, hwaiting, hfilling, hbank, hother⟩ := lineTaken_parts s b luma chroma
  obtain ⟨hcount, hdamaged, hstate, hfserial, hdrop, hmin, hguide⟩ := addLine_record (s.bank b) s.geo luma chroma
  have hfill : s.lineFill b luma chroma = s.pi.fill cells := by rw [State.lineFill, lineCells_eq, hcells, hr]
  rw [hport', hserial, hqueue, hwaiting, hfilling, hbank, hcount, hdamaged, hstate, hfserial, hdrop, hmin, hguide, hfill, hr,
    Bool.or_eq_true, lineDamaged_iff]
  exact ⟨Intake.fill_conserves _ _, Intake.fill_filling_length _ _, fun h => by rw [Intake.fill_short _ _ h]; exact ⟨rfl, rfl⟩,
    Intake.fill_waiting_length _ _, rfl, rfl, rfl, hother, rfl, Iff.rfl, rfl, rfl, rfl, rfl, rfl⟩

/-- Settles O40. -/
theorem frameEndDecidesTheFrame : Obligations.FrameEndDecidesTheFrame := by
  intro s
  refine ⟨frameEnd_await, fun b v drop hport hfilling hserial hfits hdrop => ?_⟩
  have hsettle (o : FrameOutcome) (ho : o.isDropped = true) :
      ((s.writeMem (s.pi.waiting ++ s.pi.filling)).settleIntake b o).leaveStore = drop o := by
    rw [settleIntake_eq_dropped (s := s.writeMem _) (isOpen_of_filling hfilling) hserial ho, hdrop]
    rfl
  rw [exec_frameEnd hfits hport]
  refine ⟨fun hbad => ?_, fun hcount hdamaged => ⟨fun hmark => ?_, fun hmark => ?_, fun hmark =>
    ⟨(List.range' (s.bank b).cellRows (6 - (s.bank b).cellRows)).flatMap fun row =>
      s.geo.rowCandidates (s.bank b).guide (s.bank b).cornerMin row, fun c hc => ?_, ?_⟩⟩⟩
  · rw [closeFrame_damaged (s := s.writeMem _) hbad, hsettle .damaged rfl]
  · rw [closeFrame_complete (s := s.writeMem _) hcount hdamaged, ← hsettle .droppedHeld rfl]
    simp only [show ((s.writeMem (s.pi.waiting ++ s.pi.filling)).bank b).drop = .held from hmark]
  · rw [closeFrame_complete (s := s.writeMem _) hcount hdamaged, ← hsettle .droppedClosing rfl]
    simp only [show ((s.writeMem (s.pi.waiting ++ s.pi.filling)).bank b).drop = .closing from hmark]
  · obtain ⟨row, -, hrow⟩ := List.mem_flatMap.mp hc
    exact rowCandidates_strong s.geo _ _ row c hrow
  · rw [closeFrame_complete (s := s.writeMem _) hcount hdamaged]
    simp only [show ((s.writeMem (s.pi.waiting ++ s.pi.filling)).bank b).drop = .none from hmark,
      show ((s.writeMem (s.pi.waiting ++ s.pi.filling)).bank b).state = .filling from hfilling, if_true]
    rfl

end Sys2Proof.Machine

/-! ### The Corner Finder (R28 to R32) -/

namespace Sys2Proof.Machine

/-! #### Guide rows and the rows of cells they complete (R28, R32) -/

section

variable {s : State} {b : BankId} {luma : List Byte} {chroma : List (Byte × Byte)}

theorem guideTotal_eq (k : Bank) (g : Geometry) (luma : List Byte) {r : Nat}
    (hsums : r % 4 = 0 ∨ k.sums.length = g.fw / 4) : k.guideTotal g r luma =
      (List.range (g.fw / 4)).map fun i => (if r % 4 = 0 then 0 else k.sums.getD i 0) +
        ((List.range 4).map fun n => (luma.getD (4 * i + n) 0#8).toNat).sum := by
  unfold Bank.guideTotal lineSums Geometry.guideWidth
  by_cases h : r % 4 = 0
  · simp [h]
  · have hlen := hsums.resolve_left h
    rw [if_neg h]
    refine List.ext_getElem? fun i => ?_
    rw [List.getElem?_zipWith, List.getElem?_map, List.getElem?_map]
    by_cases hi : i < g.fw / 4
    · simp [hi, hlen, h]
    · simp [hi, hlen]

theorem addLine_feeds {k : Bank} {g : Geometry} (h : k.lineCount < g.fh) : k.addLine g luma chroma =
    ({ k with
      lineCount := min 65535 (k.lineCount + 1)
      damaged := k.damaged || g.lineDamaged k.lineCount luma chroma }).feedGuide g k.lineCount luma := if_pos h

/-- A guide row is written, and a row of cells below which 8 more are written is selected. -/
theorem addGuideRow_cells (k : Bank) (g : Geometry) (row : List Byte) {img : List (List Byte)} (himg : img = k.guide ++ [row]) :
    (k.addGuideRow g row).sums = k.sums ∧ (k.addGuideRow g row).guide = img ∧
    (k.cellRows < 6 ∧ ((k.cellRows + 1) * (g.fh / 4) - 1) / 6 + 9 ≤ img.length →
      (k.addGuideRow g row).cellRows = k.cellRows + 1 ∧ (k.addGuideRow g row).cands = k.cands ++
        (List.range 8).flatMap (g.cellCandidates img k.cornerMin k.cellRows)) ∧
    (¬ (k.cellRows < 6 ∧ ((k.cellRows + 1) * (g.fh / 4) - 1) / 6 + 9 ≤ img.length) →
      (k.addGuideRow g row).cellRows = k.cellRows ∧ (k.addGuideRow g row).cands = k.cands) := by
  subst himg
  by_cases h : k.cellRows < 6 ∧ g.lastGuideRow k.cellRows + 9 ≤ (k.guide ++ [row]).length
  · have hadd : k.addGuideRow g row = { k with
        guide := k.guide ++ [row]
        cands := k.cands ++ g.rowCandidates (k.guide ++ [row]) k.cornerMin k.cellRows
        cellRows := k.cellRows + 1 } := if_pos h
    rw [hadd]
    exact ⟨rfl, rfl, fun _ => ⟨rfl, rfl⟩, fun hnot => absurd h hnot⟩
  · have hadd : k.addGuideRow g row = { k with guide := k.guide ++ [row] } := if_neg h
    rw [hadd]
    exact ⟨rfl, rfl, fun hyes => absurd hyes h, fun _ => ⟨rfl, rfl⟩⟩

theorem rows_from (c : Nat) : (List.range 6).filter (fun row => decide (c ≤ row)) = List.range' c (6 - c) := by
  by_cases h : c ≤ 6
  · interval_cases c <;> rfl
  · have hzero : 6 - c = 0 := by omega
    rw [hzero]
    refine List.filter_eq_nil_iff.mpr fun row hrow => ?_
    have := List.mem_range.mp hrow
    simp
    omega

end

/-! #### The two strongest corners of a cell (R30, R32) -/

/-- Raster order of candidates. -/
def RasterBefore (a b : Candidate) : Prop := a.p < b.p ∨ (a.p = b.p ∧ a.q < b.q)

/-- The order of a guide cell's candidates: the stronger first, the earlier in raster order among equals. -/
def StrongerFirst (a b : Candidate) : Prop :=
  b.strength < a.strength ∨ (b.strength = a.strength ∧ RasterBefore a b)

theorem insertStronger_pairwise (c : Candidate) (l : List Candidate) (hl : l.Pairwise StrongerFirst)
    (hc : ∀ e ∈ l, RasterBefore e c) : (Geometry.insertStronger c l).Pairwise StrongerFirst := by
  induction l with
  | nil => simp [Geometry.insertStronger]
  | cons k l ih =>
    obtain ⟨hk, hl⟩ := List.pairwise_cons.mp hl
    rw [Geometry.insertStronger]
    split
    · rename_i hlt
      refine List.pairwise_cons.mpr ⟨fun e he => .inl ?_, List.pairwise_cons.mpr ⟨hk, hl⟩⟩
      obtain rfl | he := List.mem_cons.mp he
      · exact hlt
      · obtain h | ⟨h, -⟩ := hk e he <;> omega
    · rename_i hge
      refine List.pairwise_cons.mpr ⟨fun e he => ?_, ih hl fun e he => hc e (by simp [he])⟩
      obtain rfl | he := (mem_insertStronger c e l).mp he
      · obtain hlt | heq := Nat.lt_or_eq_of_le (Nat.not_lt.mp hge)
        · exact .inl hlt
        · exact .inr ⟨heq, hc k (by simp)⟩
      · exact hk e he

/-- Inserting candidates in raster order gives them in order of strength. -/
theorem foldl_insertStronger_pairwise (l acc : List Candidate) (hl : l.Pairwise RasterBefore)
    (hacc : acc.Pairwise StrongerFirst) (hbefore : ∀ a ∈ acc, ∀ c ∈ l, RasterBefore a c) :
    (l.foldl (fun l c => Geometry.insertStronger c l) acc).Pairwise StrongerFirst := by
  induction l generalizing acc with
  | nil => exact hacc
  | cons c l ih =>
    obtain ⟨hc, hl⟩ := List.pairwise_cons.mp hl
    refine ih _ hl (insertStronger_pairwise c acc hacc fun a ha => hbefore a ha c (by simp)) fun a ha d hd => ?_
    obtain rfl | ha := (mem_insertStronger c a acc).mp ha
    · exact hc d hd
    · exact hbefore a ha d (by simp [hd])

section

variable (g : Geometry) (img : List (List Byte)) (cornerMin row col : Nat)

/-- The pixels of a guide cell in raster order. -/
def cellPoints : List (Nat × Nat) :=
  ((List.range g.guideHeight).filter fun gy => g.cellRow gy == row).flatMap fun gy =>
    (List.range (g.fw / 32)).map fun i => (g.fw / 32 * col + i, gy)

/-- The candidate of a corner. -/
def candidateAt (c : Nat × Nat) : Candidate :=
  ⟨8 * row + col, 16 * c.1 + 6, 16 * c.2 + 6, g.strength img c.1 c.2, g.descriptor img c.1 c.2⟩

/-- A guide cell's corners in raster order. -/
def cellCorners : List Candidate :=
  ((cellPoints g row col).filter fun c => g.eligible c.1 c.2 && g.isCorner img cornerMin c.1 c.2).map
    (candidateAt g img row col)

theorem cellCandidates_eq : g.cellCandidates img cornerMin row col =
    ((cellCorners g img cornerMin row col).foldl (fun l c => Geometry.insertStronger c l) []).take 2 := rfl

theorem cellCorners_pairwise : (cellCorners g img cornerMin row col).Pairwise RasterBefore := by
  have hpoints : (cellPoints g row col).Pairwise fun a b => a.2 < b.2 ∨ (a.2 = b.2 ∧ a.1 < b.1) := by
    refine List.pairwise_flatMap.mpr ⟨fun gy _ => ?_, ?_⟩
    · refine List.pairwise_map.mpr (List.pairwise_lt_range.imp fun h => .inr ⟨rfl, ?_⟩)
      exact Nat.add_lt_add_left h _
    · refine (List.pairwise_lt_range.filter _).imp fun {a b} h x hx y hy => .inl ?_
      obtain ⟨-, -, rfl⟩ := List.mem_map.mp hx
      obtain ⟨-, -, rfl⟩ := List.mem_map.mp hy
      exact h
  refine List.pairwise_map.mpr ((hpoints.filter _).imp fun {a b} h => ?_)
  show 16 * a.2 + 6 < 16 * b.2 + 6 ∨ (16 * a.2 + 6 = 16 * b.2 + 6 ∧ 16 * a.1 + 6 < 16 * b.1 + 6)
  omega

/-- All corners of the cell, the stronger first. -/
def cellRanking : List Candidate :=
  (cellCorners g img cornerMin row col).foldl (fun l c => Geometry.insertStronger c l) []

theorem cellRanking_pairwise : (cellRanking g img cornerMin row col).Pairwise StrongerFirst :=
  foldl_insertStronger_pairwise _ _ (cellCorners_pairwise g img cornerMin row col) .nil (by simp)

theorem mem_cellRanking (hcols : 0 < g.fw / 32) (c : Candidate) : c ∈ cellRanking g img cornerMin row col ↔
    ∃ t gy, (t / (g.fw / 32) = col ∧ 6 * gy / (g.fh / 4) = row ∧ gy < g.fh / 4 ∧ g.eligible t gy = true ∧
      g.isCorner img cornerMin t gy = true) ∧ c = candidateAt g img row col (t, gy) := by
  rw [cellRanking, mem_foldl_insertStronger, cellCorners]
  simp only [List.not_mem_nil, false_or, List.mem_map, List.mem_filter, cellPoints, List.mem_flatMap, List.mem_range,
    Bool.and_eq_true, beq_iff_eq]
  refine ⟨?_, ?_⟩
  · rintro ⟨p, ⟨⟨gy, ⟨hgy, hrow⟩, i, hi, rfl⟩, heligible, hcorner⟩, rfl⟩
    refine ⟨_, _, ⟨?_, hrow, hgy, heligible, hcorner⟩, rfl⟩
    rw [Nat.mul_add_div hcols, Nat.div_eq_of_lt hi, Nat.add_zero]
  · rintro ⟨t, gy, ⟨hcol, hrow, hgy, heligible, hcorner⟩, rfl⟩
    refine ⟨(t, gy), ⟨⟨gy, ⟨hgy, hrow⟩, t % (g.fw / 32), Nat.mod_lt _ hcols, ?_⟩, heligible, hcorner⟩, rfl⟩
    rw [← hcol, Nat.div_add_mod]

/-- A corner is among a cell's two candidates, or the two there are go before it. -/
theorem mem_or_beaten {l : List Candidate} (hl : l.Pairwise StrongerFirst) {e : Candidate} (he : e ∈ l) :
    e ∈ l.take 2 ∨ ((l.take 2).length = 2 ∧ ∀ c ∈ l.take 2, StrongerFirst c e) := by
  rw [← List.take_append_drop 2 l] at he hl
  obtain he | he := List.mem_append.mp he
  · exact .inl he
  · refine .inr ⟨?_, fun c hc => (List.pairwise_append.mp hl).2.2 c hc e he⟩
    have := List.length_pos_of_mem he
    rw [List.length_drop] at this
    rw [List.length_take]
    omega

end

/-! #### Corner and descriptor (R29 to R31) -/

section

variable (g : Geometry) (img : List (List Byte))

theorem around_eq (t gy : Nat) : Geometry.around t gy =
    (List.range 3).flatMap fun j => (List.range 3).map fun i => (t + i - 1, gy + j - 1) := rfl

theorem eligible_iff (t gy : Nat) : g.eligible t gy = true ↔
    8 ≤ t ∧ t + 9 ≤ g.fw / 4 ∧ 8 ≤ gy ∧ gy + 9 ≤ g.fh / 4 := by
  simp only [Geometry.eligible, Geometry.guideWidth, Geometry.guideHeight, Bool.and_eq_true, decide_eq_true_eq, and_assoc]
  exact and_congr Iff.rfl (and_congr decide_eq_true_iff (and_congr Iff.rfl decide_eq_true_iff))

/-- A corner is at least as strong as each neighbour, and stronger than each earlier one. -/
theorem isCorner_iff {cornerMin t gy : Nat} (ht : 8 ≤ t) (hgy : 8 ≤ gy) : g.isCorner img cornerMin t gy = true ↔
    cornerMin ≤ g.strength img t gy ∧ ∀ c ∈ Geometry.around t gy, g.strength img c.1 c.2 ≤ g.strength img t gy ∧
      (c.2 < gy ∨ (c.2 = gy ∧ c.1 < t) → g.strength img c.1 c.2 < g.strength img t gy) := by
  obtain ⟨t, rfl⟩ := Nat.exists_eq_add_of_le' (Nat.le_trans (by decide : 1 ≤ 8) ht)
  obtain ⟨gy, rfl⟩ := Nat.exists_eq_add_of_le' (Nat.le_trans (by decide : 1 ≤ 8) hgy)
  have hearlier : ∀ c : Nat × Nat, c = (t, gy) ∨ c = (t + 1, gy) ∨ c = (t + 2, gy) ∨ c = (t, gy + 1) →
      (c.2 < gy + 1 ∨ (c.2 = gy + 1 ∧ c.1 < t + 1)) := by
    rintro c (rfl | rfl | rfl | rfl) <;> simp
  simp [Geometry.isCorner, Geometry.around]
  omega

theorem testBit_sum_pow (f : Nat → Bool) (n : Nat) :
    ((List.range n).map fun k => if f k then 2 ^ k else 0).sum < 2 ^ n ∧
    ∀ k, (((List.range n).map fun k => if f k then 2 ^ k else 0).sum).testBit k = (decide (k < n) && f k) := by
  induction n with
  | zero => simp
  | succ n ih =>
    obtain ⟨hlt, hbits⟩ := ih
    rw [List.range_succ, List.map_append, List.sum_append, List.map_singleton, List.sum_singleton]
    refine ⟨?_, fun k => ?_⟩
    · rw [Nat.pow_succ]
      split <;> omega
    · obtain hk | rfl | hk := Nat.lt_trichotomy k n
      · have hlow : ((if f n then 2 ^ n else 0) + ((List.range n).map fun k => if f k then 2 ^ k else 0).sum).testBit k =
            (((List.range n).map fun k => if f k then 2 ^ k else 0).sum).testBit k := by
          split
          · exact Nat.testBit_two_pow_add_gt hk _
          · rw [Nat.zero_add]
        rw [Nat.add_comm, hlow, hbits k]
        simp [hk, Nat.lt_succ_of_lt hk]
      · have hnone := hbits k
        rw [Nat.add_comm]
        split
        · rename_i hset
          rw [Nat.testBit_two_pow_add_eq, hnone]
          simp [hset]
        · rename_i hset
          rw [Nat.zero_add, hnone]
          simp [hset]
      · have hsmall : ((List.range n).map fun k => if f k then 2 ^ k else 0).sum + (if f n then 2 ^ n else 0) < 2 ^ k := by
          have := Nat.pow_le_pow_right (n := 2) (by decide) hk
          rw [Nat.pow_succ] at this
          split <;> omega
        rw [Nat.testBit_lt_two_pow hsmall]
        simp
        omega

theorem getLsbD_ofBits (f : Nat → Bool) {k : Nat} (hk : k < 64) :
    (BitVec.ofNat 64 ((List.range 64).map fun n => if f n then 2 ^ n else 0).sum).getLsbD k = f k := by
  rw [BitVec.getLsbD_ofNat, (testBit_sum_pow f 64).2 k]
  simp [hk]

theorem descriptor_bit (t gy : Nat) {i j : Nat} (hi : i < 8) (hj : j < 8) :
    (g.descriptor img t gy).getLsbD (8 * i + j) =
      decide ((2 * ((Geometry.around t gy).map fun c => g.guideAt img c.1 c.2).sum + 9) / 18 <
        g.guideAt img (t - 7 + 2 * j) (gy - 7 + 2 * i)) := by
  have hbits := getLsbD_ofBits (fun n => decide ((2 * ((Geometry.around t gy).map fun c => g.guideAt img c.1 c.2).sum + 9) /
    18 < g.guideAt img (t - 7 + 2 * (n % 8)) (gy - 7 + 2 * (n / 8)))) (k := 8 * i + j) (by omega)
  have hcol : (8 * i + j) % 8 = j := by omega
  have hrow : (8 * i + j) / 8 = i := by omega
  simp only [decide_eq_true_eq, hcol, hrow] at hbits
  exact hbits

end

/-- Settles O41. -/
theorem cornerFinderSelectsTheCandidates : Obligations.CornerFinderSelectsTheCandidates := by
  refine ⟨fun s luma chroma b k total hfits hport hk hcount hsums htotal => ⟨_, exec_line hfits hport, ?_⟩,
    fun s b k hfits hport hk hfilling hcount hdamaged hdrop => ⟨_, exec_frameEnd hfits hport, ?_⟩, ?_⟩
  · have hbank : (s.lineTaken b luma chroma).bank b = k.addLine s.geo luma chroma := by
      rw [hk]
      exact (lineTaken_parts s b luma chroma).2.2.2.2.2.1
    have hguide := guideTotal_eq k s.geo luma hsums
    rw [← htotal] at hguide
    rw [hbank, addLine_feeds hcount, feedGuide_eq]
    refine ⟨fun hrow => ?_, fun img hrow himg => ?_⟩
    · rw [if_neg hrow]
      exact ⟨hguide, rfl, rfl, rfl⟩
    · rw [if_pos hrow]
      exact addGuideRow_cells _ s.geo _ (himg.trans (by rw [← hguide]; rfl))
  · subst hk
    have hclose := closeFrame_complete (s := s.writeMem (s.pi.waiting ++ s.pi.filling)) (b := b) hcount hdamaged
    simp only [show ((s.writeMem (s.pi.waiting ++ s.pi.filling)).bank b).drop = .none from hdrop,
      show ((s.writeMem (s.pi.waiting ++ s.pi.filling)).bank b).state = .filling from hfilling, if_true] at hclose
    have hbank : (((s.writeMem (s.pi.waiting ++ s.pi.filling)).closeFrame b).leaveStore).bank b =
        { (s.bank b).completeCandidates s.geo with state := .queued } := by
      rw [hclose]
      exact bank_setBank_same _ b _
    rw [hbank, rows_from]
    exact ⟨rfl, rfl⟩
  · intro g img cornerMin row col pix around dx dy strength corner cs hcols hpix haround hdx hdy hstrength hcorner hcs
    have hpix : pix = g.guideAt img := hpix
    have haround : around = Geometry.around := haround
    subst hpix haround hdx hdy
    have hstrength : strength = g.strength img := by
      funext t gy
      exact hstrength t gy _ _ _ rfl rfl rfl
    subst hstrength hcorner
    have hrank := cellRanking_pairwise g img cornerMin row col
    have hmem := mem_cellRanking g img cornerMin row col hcols
    have hcs : cs = (cellRanking g img cornerMin row col).take 2 := hcs
    subst hcs
    refine ⟨List.length_take_le _ _, hrank.sublist (List.take_sublist _ _), fun c hc => ?_, fun t gy h => ?_⟩
    · obtain ⟨t, gy, ⟨hcol, hrow, hgy, heligible, hcorner⟩, rfl⟩ := (hmem c).mp (List.mem_of_mem_take hc)
      obtain ⟨ht, htw, hgy8, hgyh⟩ := (eligible_iff g t gy).mp heligible
      obtain ⟨hmin, haround⟩ := (isCorner_iff g img ht hgy8).mp hcorner
      exact ⟨t, gy, ⟨hcol, hrow, hgy, ht, htw, hgy8, hgyh, hmin, haround⟩, rfl, rfl, rfl, rfl,
        fun i j hi hj => descriptor_bit g img t gy hi hj⟩
    · obtain ⟨hcol, hrow, hgy, ht, htw, hgy8, hgyh, hmin, haround⟩ := h
      have hlisted : candidateAt g img row col (t, gy) ∈ cellRanking g img cornerMin row col :=
        (hmem _).mpr ⟨t, gy, ⟨hcol, hrow, hgy, (eligible_iff g t gy).mpr ⟨ht, htw, hgy8, hgyh⟩,
          (isCorner_iff g img ht hgy8).mpr ⟨hmin, haround⟩⟩, rfl⟩
      exact (mem_or_beaten hrank hlisted).imp (fun h => ⟨_, h, rfl, rfl⟩) id

end Sys2Proof.Machine

/-! ### A pass begins (R62, R65 to R67, R85) -/

namespace Sys2Proof.Machine

section

variable {s : State} {b : BankId} {rest : List BankId} {v : Serial}

theorem takenBy_some {h : Hint} (htag : h.tag = none ∨ h.tag = some v) : Hint.takenBy (some h) v = some h := by
  obtain htag | htag := htag <;> simp [Hint.takenBy, Option.filter, htag]

theorem takenBy_none {o : Option Hint} (h : o = none ∨ ∃ h u, o = some h ∧ h.tag = some u ∧ u ≠ v) :
    Hint.takenBy o v = none := by
  obtain rfl | ⟨h, u, rfl, htag, hu⟩ := h
  · rfl
  · simp [Hint.takenBy, Option.filter, htag, hu]

/-- What a bank take leaves of the queue and the banks. -/
def State.takenIntake (s : State) (b : BankId) (rest : List BankId) : Intake :=
  { s.pi with queue := rest, banks := s.pi.banks.set b { s.bank b with state := .matching } }

theorem takeQueued_eq (s : State) (b : BankId) (rest : List BankId) :
    s.takeQueued b rest = { s with pi := s.takenIntake b rest } := rfl

theorem takeQueued_bank (s : State) (b : BankId) (rest : List BankId) :
    (s.takeQueued b rest).bank b = { s.bank b with state := .matching } := bank_setBank_same s b _

theorem matchBankTake_due (hpass : s.me.pass = none) (hqueue : s.pi.queue = b :: rest)
    (hqueued : (s.bank b).state = .queued) (hstop : s.stopping = false) : exec .matchBankTake s = .next
    (match s.sc.sweep with
      | .armed => (s.takeQueued b rest).beginOrigin b
      | .sweeping => (s.takeQueued b rest).beginMatch b
      | .idle | .held _ | .closing | .finished => s) := by
  show execMatchBankTake s = _
  simp only [execMatchBankTake, hpass, hqueue, hqueued, hstop]
  rfl

theorem matchBankTake_notDue (h : s.me.pass ≠ none ∨ s.pi.queue = [] ∨ s.stopping = true ∨
    (s.sc.sweep ≠ .armed ∧ s.sc.sweep ≠ .sweeping)) : exec .matchBankTake s = .next s := by
  show execMatchBankTake s = _
  unfold execMatchBankTake
  cases hpass : s.me.pass with
  | some p => rfl
  | none =>
    cases hqueue : s.pi.queue with
    | nil => rfl
    | cons b rest =>
      have h := (h.resolve_left (by simp [hpass])).resolve_left (by simp [hqueue])
      dsimp only
      split
      · rfl
      · rename_i hdue
        have hsweep := h.resolve_left fun hstop => hdue (by simp [hstop])
        cases hs : s.sc.sweep with
        | armed => exact absurd hs hsweep.1
        | sweeping => exact absurd hs hsweep.2
        | idle | held c | closing | finished => rfl

/-- The origin pass, in full. -/
theorem beginOrigin_eq (hserial : (s.bank b).serial = some v) : (s.takeQueued b rest).beginOrigin b = { s with
    pi := s.takenIntake b rest
    me := ⟨[⟨v, 0, 4 * s.geo.startRow⟩], s.me.hint.filter fun h => decide (h.tag ≠ some v), .locked, 0,
      some { Pass.fresh v b (s.bank b).cands (.push false) with how := .origin, y := 4 * s.geo.startRow }⟩ } := by
  have hbank : ((s.takeQueued b rest).clearHint v).bank b = { s.bank b with state := .matching } := by
    rw [bank_of_banks (s := s.takeQueued b rest) (by simp), takeQueued_bank]
  unfold State.beginOrigin
  rw [takeQueued_bank]
  simp only [hserial, Option.getD_some, hbank]
  simp only [clearHint_eq]
  rfl

/-- A match pass, in full. -/
theorem beginMatch_eq (hserial : (s.bank b).serial = some v) : (s.takeQueued b rest).beginMatch b = { s with
    pi := s.takenIntake b rest
    me := { s.me with
      hint := if (Hint.takenBy s.me.hint v).isSome then none else s.me.hint
      pass := some { Pass.fresh v b (s.bank b).cands (if (s.bank b).cands = [] then .solve else .lookup 0 false) with
        predX := (s.predict v).1, predY := (s.predict v).2, progress := s.sc.progress } } } := by
  unfold State.beginMatch
  rw [takeQueued_bank]
  simp only [hserial, Option.getD_some, List.isEmpty_iff]
  rfl

end

/-- Settles O42: the prediction's table is that of the hint and the motion record. -/
theorem bankTakeBeginsThePass : Obligations.BankTakeBeginsThePass := by
  refine fun s => ⟨matchBankTake_notDue, fun b rest v pi hpass hqueue hqueued hstop hserial hpi => ⟨fun hsweep => ?_,
    fun hsweep => ⟨(s.predict v).1, (s.predict v).2, if (Hint.takenBy s.me.hint v).isSome then none else s.me.hint, ?_,
      fun h m older hhint htag hmotion => ?_, fun hhint => ?_⟩⟩⟩
  · rw [matchBankTake_due hpass hqueue hqueued hstop, hsweep, hpi]
    exact congrArg Host.Outcome.next (beginOrigin_eq hserial)
  · rw [matchBankTake_due hpass hqueue hqueued hstop, hsweep, hpi]
    exact congrArg Host.Outcome.next (beginMatch_eq hserial)
  · have htaken := takenBy_some htag
    have hpredict : s.predict v = (m.x + 4 * s.geo.d * h.dx, m.y + 4 * h.dy) := by
      simp only [State.predict, hhint, htaken, hmotion]
      rfl
    rw [hpredict, hhint, htaken]
    exact ⟨rfl, rfl, rfl⟩
  · have htaken := takenBy_none hhint
    have hpredict : s.predict v = predictFrom s.me.mode v s.me.motion := by simp only [State.predict, htaken]
    rw [hpredict, htaken]
    refine ⟨rfl, fun m hmotion => ?_, fun m o older hmotion hstay => ?_, fun m o older k n hmotion hmode hne hk hn => ?_⟩
    · rw [hmotion]
      exact ⟨rfl, rfl⟩
    · have hcond : s.me.mode = .searching ∨ (m.serial - o.serial).toNat = 0 := by
        refine hstay.imp id fun heq => ?_
        rw [heq]
        simp
      rw [hmotion, predictFrom, if_pos hcond]
      exact ⟨rfl, rfl⟩
    · have hcond : ¬ (s.me.mode = .searching ∨ (m.serial - o.serial).toNat = 0) := by
        rintro (h | h)
        · exact hmode h
        · refine hne ?_
          bv_omega
      rw [hmotion, predictFrom, if_neg hcond, hk, hn]
      exact ⟨rfl, rfl⟩

end Sys2Proof.Machine

/-! ### LOOKUP and its comparisons (R38, R63, R67 to R69) -/

namespace Sys2Proof.Machine

/-! #### The nearest of a candidate's comparisons (R69) -/

section

variable {before after : List (Sighting × LandmarkState)} {b : Sighting} {st : LandmarkState}

theorem bestSighting_none {cs : List (Sighting × LandmarkState)} : bestSighting cs = none ↔ cs = [] := by
  cases cs with
  | nil => simp [bestSighting]
  | cons c cs =>
    simp only [bestSighting, reduceCtorEq, iff_false]
    cases bestSighting cs with
    | none => simp
    | some b =>
      dsimp only
      split <;> simp

theorem bestSighting_mem {cs : List (Sighting × LandmarkState)} {e : Sighting × LandmarkState}
    (h : bestSighting cs = some e) : e ∈ cs := by
  induction cs with
  | nil => simp [bestSighting] at h
  | cons c cs ih =>
    simp only [bestSighting] at h
    cases hrest : bestSighting cs with
    | none =>
      rw [hrest] at h
      cases h
      simp
    | some r =>
      rw [hrest] at h
      dsimp only at h
      split at h
      · cases h
        exact List.mem_cons_of_mem _ (ih hrest)
      · cases h
        simp

/-- The comparison that is below each earlier one and at most each later one is the best. -/
theorem bestSighting_eq (hbefore : ∀ e ∈ before, b.dist < e.1.dist) (hafter : ∀ e ∈ after, b.dist ≤ e.1.dist) :
    bestSighting (before ++ (b, st) :: after) = some (b, st) := by
  induction before with
  | nil =>
    simp only [List.nil_append, bestSighting]
    cases hrest : bestSighting after with
    | none => rfl
    | some e =>
      have := hafter e (bestSighting_mem hrest)
      exact if_neg (by omega)
  | cons c before ih =>
    have := hbefore c (by simp)
    simp only [List.cons_append, bestSighting, ih fun e he => hbefore e (by simp [he])]
    exact if_pos this

theorem two_le_countP {p : Sighting × LandmarkState → Bool} (h : p (b, st) = true) :
    2 ≤ (before ++ (b, st) :: after).countP p ↔ ∃ e ∈ before ++ after, p e = true := by
  rw [List.countP_append, List.countP_cons_of_pos h, ← List.countP_pos_iff, List.countP_append]
  omega

/-- The result of comparisons by the best of them. -/
theorem verdictOf_best {matchDist : Nat} {cs : List (Sighting × LandmarkState)} (h : bestSighting cs = some (b, st)) :
    verdictOf matchDist cs =
      if b.dist ≤ matchDist then
        if st = .fading then (.stale, some b)
        else if 2 ≤ cs.countP (fun c => c.1.dist < b.dist + 3) then (.ambiguous, none)
        else (.isMatch, some b)
      else if b.dist ≤ 2 * matchDist then (.near, some b)
      else (.far, some b) := by
  simp only [verdictOf, h]

end

/-! #### What a lookup returns and the window leaves (R38, R67, R68) -/

theorem hamming_eq (a b : BitVec 64) :
    hamming a b = ((List.range 64).filter fun n => a.getLsbD n != b.getLsbD n).length := by
  rw [hamming, List.countP_eq_length_filter]
  congr 2
  funext n
  rw [BitVec.getLsbD_xor]

/-- The comparisons of a candidate with the landmarks of a run of bins that a window leaves. -/
theorem comparisons_eq (t : Table) (bins : List Nat) (c : Candidate) (f : Landmark → Bool) :
    ((t.lookup bins).filter fun e => f e.2.2).map (fun e => (sighting c e, e.2.2.state)) =
      (bins.flatMap t.bin).filterMap fun k => (t.lm k).bind fun r =>
        if f r then some (⟨k, t.gen k, r.x, r.y, ((List.range 64).filter fun n =>
          c.descriptor.getLsbD n != r.descriptor.getLsbD n).length⟩, r.state) else none := by
  rw [Table.lookup]
  induction bins.flatMap t.bin with
  | nil => rfl
  | cons k ks ih =>
    rw [List.filterMap_cons, List.filterMap_cons]
    cases t.lm k with
    | none => exact ih
    | some r =>
      simp only [Option.map_some, Option.bind_some]
      rw [List.filter_cons]
      by_cases hf : f r = true
      · simp only [hf, if_true, List.map_cons, ih]
        rw [sighting, hamming_eq]
      · simp only [hf]
        exact ih

section

variable {s : State} {p : Pass} {i : Nat}

theorem lookup_other (hpass : s.me.pass = some p) (h : ∀ j w, p.stage ≠ .lookup j w) :
    exec .lookup s = .next s := by
  show execLookup s = _
  unfold execLookup
  rw [hpass]
  cases hstage : p.stage with
  | lookup j w => exact absurd hstage (h j w)
  | solve | judge | judgeHeld | push a | pushHeld | footprint | opening | batch a | parked | fenced | report =>
    simp only [hstage]

/-- The pass after its candidate's lookup, normal or wrapped. -/
def State.looked (s : State) (p : Pass) (i : Nat) : Bool → Pass
  | false => { p with
      cands := p.cands.modify i (s.compareNormal p)
      stage := if s.wrapsDue p then .lookup i true else p.afterCandidate i }
  | true => { p with
      cands := p.cands.modify i (s.compareWrapped p)
      stage := p.afterCandidate i }

theorem lookup_due {w : Bool} (hpass : s.me.pass = some p) (h : p.stage = .lookup i w) :
    exec .lookup s = .next (s.setPass (some (s.looked p i w))).meetStop := by
  show execLookup s = _
  unfold execLookup
  rw [hpass]
  cases w <;> simp only [h] <;> rfl

theorem wrapsDue_iff (s : State) (p : Pass) :
    s.wrapsDue p = true ↔ s.prm.closeEnable = true ∧ s.geo.fw < p.progress := by
  simp [State.wrapsDue]

theorem meetStop_none (h : s.stopping = false) : s.meetStop = s := by simp [State.meetStop, h]

theorem afterCandidate_boundary (p : Pass) (i j : Nat) : p.afterCandidate i ≠ .lookup j true := by
  unfold Pass.afterCandidate
  split <;> simp

/-- A frame set aside touches PI and SC alone. -/
theorem settle_quiet (s : State) (b : BankId) {lf : LastFrame} (h : lf.outcome.isDropped = false) :
    s.settle b lf = { s with pi := (s.settle b lf).pi, sc := (s.settle b lf).sc } := by
  cases hopen : (s.bank b).state.isOpen with
  | false => rw [settle_closed lf hopen]
  | true =>
    rw [settle_open lf hopen, State.recordOutcome, if_neg (by rw [h]; simp)]
    split <;> rfl

theorem settle_matching {b : BankId} {lf : LastFrame} (h : (s.bank b).state = .matching)
    (hdropped : lf.outcome.isDropped = false) (hplaced : lf.outcome.isPlaced = false) : s.settle b lf = { s with
      pi := { s.pi with
        queue := s.pi.queue.filter fun c => !decide (c = b)
        banks := s.pi.banks.set b { s.bank b with state := .free, serial := none } }
      sc := { s.sc with setAside := s.sc.setAside + 1#32, last := lf } } := by
  rw [settle_open lf (isOpen_of_matching h), State.recordOutcome, if_neg (by rw [hdropped]; simp),
    if_neg (by rw [hplaced]; simp)]
  rfl

theorem modify_of_get {α : Type} {l : List α} {i : Nat} {c : α} (h : l[i]? = some c) (f : α → α) :
    l.modify i f = l.set i (f c) := by
  rw [List.modify_eq_set_getElem?, h]
  rfl

end

/-- A candidate's comparisons, as its lookup's answer and its window give them. -/
def comparisonsOf (t : Table) (bins : List Nat) (c : Candidate) (f : Landmark → Bool) : List (Sighting × LandmarkState) :=
  ((t.lookup bins).filter fun e => f e.2.2).map fun e => (sighting c e, e.2.2.state)

section

variable {s : State} {p : Pass} {c : PassCand} {cs : List (Sighting × LandmarkState)}

theorem compareNormal_eq (h : cs = comparisonsOf s.ltc (s.geo.lookupBins s.me.mode (p.predX + s.geo.d * c.cand.q)) c.cand
      (s.geo.inWindow s.prm s.me.mode (p.predX + s.geo.d * c.cand.q) (p.predY + c.cand.p))) :
    s.compareNormal p c =
      { c with verdict := (verdictOf s.prm.matchDist cs).1, chosen := (verdictOf s.prm.matchDist cs).2 } := by
  rw [h]
  rfl

theorem compareWrapped_eq (h : cs = comparisonsOf s.ltc s.geo.wrappedBins c.cand
      (s.geo.inWrapWindow s.prm (p.predX + s.geo.d * c.cand.q) (p.predY + c.cand.p))) :
    s.compareWrapped p c = match bestSighting (cs.filter fun e => e.1.dist ≤ s.prm.matchDist) with
      | some (b, _) => { c with wrapVote := some b, verdict := if c.verdict = .none then .wrapped else c.verdict }
      | none => c := by
  rw [h]
  rfl

/-- The verdict of the comparisons by the best of them, in R69's cases. -/
theorem verdict_cases (matchDist : Nat) {before after : List (Sighting × LandmarkState)} {b : Sighting}
    {st : LandmarkState} (hcs : cs = before ++ (b, st) :: after) (hbefore : ∀ e ∈ before, b.dist < e.1.dist)
    (hafter : ∀ e ∈ after, b.dist ≤ e.1.dist) :
    (b.dist ≤ matchDist → st = .fading → verdictOf matchDist cs = (.stale, some b)) ∧
    (b.dist ≤ matchDist → st ≠ .fading → (∃ e ∈ before ++ after, e.1.dist < b.dist + 3) →
      verdictOf matchDist cs = (.ambiguous, none)) ∧
    (b.dist ≤ matchDist → st ≠ .fading → (∀ e ∈ before ++ after, b.dist + 3 ≤ e.1.dist) →
      verdictOf matchDist cs = (.isMatch, some b)) ∧
    (matchDist < b.dist → b.dist ≤ 2 * matchDist → verdictOf matchDist cs = (.near, some b)) ∧
    (2 * matchDist < b.dist → verdictOf matchDist cs = (.far, some b)) := by
  rw [verdictOf_best (by rw [hcs]; exact bestSighting_eq hbefore hafter)]
  have hcount : 2 ≤ cs.countP (fun c => c.1.dist < b.dist + 3) ↔ ∃ e ∈ before ++ after, e.1.dist < b.dist + 3 := by
    rw [hcs, two_le_countP (by simp)]
    simp only [decide_eq_true_eq]
  refine ⟨fun hd hst => ?_, fun hd hst hclose => ?_, fun hd hst hfar => ?_, fun hd hd' => ?_, fun hd => ?_⟩
  · rw [if_pos hd, if_pos hst]
  · rw [if_pos hd, if_neg hst, if_pos (hcount.mpr hclose)]
  · rw [if_pos hd, if_neg hst, if_neg fun h => ?_]
    obtain ⟨e, he, hlt⟩ := hcount.mp h
    have := hfar e he
    omega
  · rw [if_neg (by omega), if_pos hd']
  · rw [if_neg (by omega), if_neg (by omega)]

theorem lookupBins_eq (g : Geometry) (mode : TrackMode) (xc : Int) : g.lookupBins mode xc =
    if mode = .searching then g.binRun ((g.binOf (4 * (xc / 4 - (g.fw / 2 : Nat))) : Int) - 1)
      ((((g.binOf (4 * (xc / 4 + (g.fw / 2 : Nat))) : Int) - g.binOf (4 * (xc / 4 - (g.fw / 2 : Nat)))) %
        g.nBins).toNat + 3)
    else g.binRun ((g.binOf xc : Int) - 1) 3 := by cases mode <;> rfl

theorem inWindow_eq (g : Geometry) (prm : Params) (mode : TrackMode) (xc yc : Int) (r : Landmark) :
    g.inWindow prm mode xc yc r = decide (
      min ((r.x - xc) % (4 * g.cw)) (4 * g.cw - (r.x - xc) % (4 * g.cw)) ≤
        (if mode = .searching then 2 * g.fw else 4 * prm.searchRadius : Nat) ∧
      (r.y - yc).natAbs ≤ (if mode = .searching then 2 * g.fh else 4 * prm.searchRadius) ∧
      (r.x - xc).natAbs ≤ 2 * g.cw) := by
  cases mode <;> simp [Geometry.inWindow, wrappedDist]

theorem wrappedBins_eq (g : Geometry) : g.wrappedBins =
    g.binRun (if g.direction = .east then ((g.startCol / 64 : Nat) : Int) - 1
      else ((g.startCol / 64 : Nat) : Int) - ((g.fw + 63) / 64 : Nat)) ((g.fw + 63) / 64 + 2) := by
  unfold Geometry.wrappedBins
  cases g.direction <;> rfl

end

/-- The pass ends behind a lookup where a stop stands. -/
theorem lookup_stopped {s : State} {p : Pass} {i : Nat} {w : Bool} (hpass : s.me.pass = some p)
    (hstage : p.stage = .lookup i w) (hstop : s.stopping = true)
    (hlast : w = true ∨ s.prm.closeEnable = false ∨ p.progress ≤ s.geo.fw) : ∃ q : Pass,
    q.bank = p.bank ∧ q.serial = p.serial ∧
    exec .lookup s = .next ((s.setPass (some q)).endPassWith q .abandoned) := by
  have hstage' : (s.looked p i w).stage = p.afterCandidate i := by
    cases w with
    | true => rfl
    | false =>
      have hnot : ¬ s.wrapsDue p = true := by
        rw [wrapsDue_iff]
        rintro ⟨hclose, hprogress⟩
        obtain h | h | h := hlast
        · cases h
        · rw [hclose] at h
          cases h
        · omega
      exact if_neg hnot
  refine ⟨s.looked p i w, by cases w <;> rfl, by cases w <;> rfl, ?_⟩
  rw [lookup_due hpass hstage]
  refine congrArg Host.Outcome.next ((if_pos hstop).trans (stopPass_boundary rfl fun j => ?_))
  rw [hstage']
  exact afterCandidate_boundary p i j

/-- A stop that does not come behind a candidate's last lookup leaves the pass. -/
theorem lookup_goesOn {s : State} {p : Pass} {i : Nat} {w : Bool} (hpass : s.me.pass = some p)
    (hstage : p.stage = .lookup i w)
    (h : s.stopping = false ∨ (w = false ∧ s.prm.closeEnable = true ∧ s.geo.fw < p.progress)) :
    exec .lookup s = .next (s.setPass (some (s.looked p i w))) := by
  rw [lookup_due hpass hstage]
  refine congrArg Host.Outcome.next ?_
  obtain h | ⟨rfl, hwraps⟩ := h
  · exact meetStop_none h
  · unfold State.meetStop
    split
    · exact stopPass_inside (i := i) rfl (if_pos ((wrapsDue_iff s p).mpr hwraps))
    · rfl

/-- Settles O43. -/
theorem lookupComparesOneCandidate : Obligations.LookupComparesOneCandidate := by
  refine fun s p hpass => ⟨lookup_other hpass, fun i w hstage hstop hlast => ?_,
    fun i c xc yc run comps hc hxc hyc hrun hcomps => ⟨fun bins near cs hstage hbins hnear hcs hgo => ?_,
      fun bins near cs hstage hbins hnear hcs hstop => ?_⟩⟩
  · obtain ⟨q, hbank, hserial, hexec⟩ := lookup_stopped hpass hstage hstop hlast
    refine ⟨_, hexec, ?_, fun hnone => ?_, fun b hb hmatching => ?_⟩
    · cases hb : q.bank with
      | none =>
        rw [State.endPassWith, settlePass_noBank _ hb]
        rfl
      | some b =>
        rw [State.endPassWith, State.settlePass, hb]
        dsimp only
        rw [settle_quiet (s.setPass (some q)) b rfl]
        rfl
    · rw [State.endPassWith, settlePass_noBank _ (hbank.trans hnone)]
      exact ⟨rfl, rfl⟩
    · rw [State.endPassWith, State.settlePass, hbank.trans hb]
      dsimp only
      rw [settle_matching (s := s.setPass (some q)) hmatching rfl rfl]
      refine ⟨?_, rfl, rfl, hserial⟩
      simp only [State.setPass, ne_eq, decide_not]
      rfl
  · have hrun' (first : Int) (n : Nat) : run first n = s.geo.binRun first n := by rw [hrun]; rfl
    have hcs' : cs = comparisonsOf s.ltc (s.geo.lookupBins s.me.mode xc) c.cand (s.geo.inWindow s.prm s.me.mode xc yc) := by
      rw [hcs, hcomps, comparisonsOf, comparisons_eq, lookupBins_eq, hbins]
      simp only [hrun', hnear, inWindow_eq]
    rw [hxc, hyc] at hcs'
    refine ⟨(verdictOf s.prm.matchDist cs).1, (verdictOf s.prm.matchDist cs).2, ?_, fun hnil => ?_,
      fun before b st after hsplit hbefore hafter => ?_⟩
    · rw [lookup_goesOn hpass hstage (hgo.imp id fun h => ⟨rfl, h⟩), State.looked, modify_of_get hc, compareNormal_eq hcs']
      simp only [wrapsDue_iff]
      rfl
    · rw [hnil]
      exact ⟨rfl, rfl⟩
    · obtain ⟨hstale, hambiguous, hmatch, hnearby, hfar⟩ := verdict_cases s.prm.matchDist hsplit hbefore hafter
      exact ⟨fun hd hst => by rw [hstale hd hst]; exact ⟨rfl, rfl⟩,
        fun hd hst he => by rw [hambiguous hd hst he]; exact ⟨rfl, rfl⟩,
        fun hd hst he => by rw [hmatch hd hst he]; exact ⟨rfl, rfl⟩,
        fun hd hd' => by rw [hnearby hd hd']; exact ⟨rfl, rfl⟩, fun hd => by rw [hfar hd]; exact ⟨rfl, rfl⟩⟩
  · have hrun' (first : Int) (n : Nat) : run first n = s.geo.binRun first n := by rw [hrun]; rfl
    have hcs' : cs = comparisonsOf s.ltc s.geo.wrappedBins c.cand (s.geo.inWrapWindow s.prm xc yc) := by
      rw [hcs, hcomps, comparisonsOf, comparisons_eq, wrappedBins_eq, hbins, hrun', hnear]
      rfl
    rw [hxc, hyc] at hcs'
    refine ⟨s.compareWrapped p c, ?_, fun hfar => ?_, fun before b st after hsplit hd hbefore hafter => ?_⟩
    · rw [lookup_goesOn hpass hstage (.inl hstop), State.looked, modify_of_get hc]
      rfl
    · have hnone : bestSighting (cs.filter fun e => e.1.dist ≤ s.prm.matchDist) = none := by
        refine bestSighting_none.mpr (List.filter_eq_nil_iff.mpr fun e he => ?_)
        have := hfar e he
        simpa using this
      rw [compareWrapped_eq hcs', hnone]
    · have hbest : bestSighting (cs.filter fun e => e.1.dist ≤ s.prm.matchDist) = some (b, st) := by
        rw [hsplit, List.filter_append, List.filter_cons_of_pos (by simpa using hd)]
        exact bestSighting_eq (fun e he => hbefore e (List.mem_of_mem_filter he))
          fun e he => hafter e (List.mem_of_mem_filter he)
      rw [compareWrapped_eq hcs', hbest]

end Sys2Proof.Machine

/-! ### SOLVE: one claim per landmark, and the votes (R70 to R72) -/

namespace Sys2Proof.Machine

/-! #### One claim per landmark (R70) -/

section

variable {cs : List PassCand} {i : Nat} {c : PassCand}

theorem losesPick_iff (pick : PassCand → Option Sighting) (hc : cs[i]? = some c) :
    losesPick pick cs i c = true ↔ ∃ j e l m, cs[j]? = some e ∧ pick c = some l ∧ pick e = some m ∧
      m.index = l.index ∧ (m.dist < l.dist ∨ (m.dist = l.dist ∧ (c.cand.strength < e.cand.strength ∨
        (c.cand.strength = e.cand.strength ∧ j < i)))) := by
  unfold losesPick
  cases hl : pick c with
  | none => simp
  | some l =>
    rw [List.any_eq_true]
    constructor
    · rintro ⟨⟨e, j⟩, hmem, hbeats⟩
      have hj := List.mem_zipIdx_iff_getElem?.mp hmem
      dsimp only at hj hbeats
      cases hm : pick e with
      | none => simp [hm] at hbeats
      | some m =>
        simp only [hm, beats, Bool.and_eq_true, Bool.or_eq_true, decide_eq_true_eq, beq_iff_eq] at hbeats
        obtain ⟨⟨-, hindex⟩, hlower⟩ := hbeats
        refine ⟨j, e, l, m, hj, rfl, hm, hindex, hlower.imp_right fun ⟨hdist, hstrength⟩ => ⟨hdist, ?_⟩⟩
        exact hstrength.imp_right fun ⟨heq, hlt⟩ => ⟨heq.symm, hlt⟩
    · rintro ⟨j, e, l', m, hj, ⟨⟩, hm, hindex, hlower⟩
      refine ⟨(e, j), List.mem_zipIdx_iff_getElem?.mpr hj, ?_⟩
      simp only [hm, beats, Bool.and_eq_true, Bool.or_eq_true, decide_eq_true_eq, beq_iff_eq]
      refine ⟨⟨?_, hindex⟩, hlower.imp_right fun ⟨hdist, hstrength⟩ => ⟨hdist, ?_⟩⟩
      · rintro rfl
        rw [hc] at hj
        cases hj
        rw [hl] at hm
        cases hm
        omega
      · exact hstrength.imp_right fun ⟨heq, hlt⟩ => ⟨heq.symm, hlt⟩

/-- What the rule of one claim per landmark leaves of the candidate at a position. -/
def deduped (cs : List PassCand) (i : Nat) (c : PassCand) : PassCand :=
  let c1 := if losesPick PassCand.claimed cs i c then { c with verdict := .ambiguous, chosen := none } else c
  if losesPick PassCand.wrapVote cs i c then
    { c1 with wrapVote := none, verdict := if c1.verdict = .wrapped then .ambiguous else c1.verdict }
  else c1

theorem dedupe_get (cs : List PassCand) (i : Nat) : (dedupe cs)[i]? = cs[i]?.map (deduped cs i) :=
  List.getElem?_mapIdx

theorem dedupe_length (cs : List PassCand) : (dedupe cs).length = cs.length := List.length_mapIdx

theorem deduped_keeps : (deduped cs i c).cand = c.cand ∧ (deduped cs i c).inlier = c.inlier ∧
    (deduped cs i c).revival = c.revival := by
  unfold deduped
  cases losesPick PassCand.claimed cs i c <;> cases losesPick PassCand.wrapVote cs i c <;> exact ⟨rfl, rfl, rfl⟩

theorem deduped_beaten (h : losesPick PassCand.claimed cs i c = true) :
    (deduped cs i c).chosen = none ∧ (deduped cs i c).verdict = .ambiguous := by
  simp only [deduped, h, if_true]
  cases losesPick PassCand.wrapVote cs i c <;> exact ⟨rfl, rfl⟩

theorem deduped_keepsClaim (h : ¬ losesPick PassCand.claimed cs i c = true) :
    (deduped cs i c).chosen = c.chosen ∧
      (c.verdict ≠ .wrapped ∨ ¬ losesPick PassCand.wrapVote cs i c = true → (deduped cs i c).verdict = c.verdict) ∧
      (c.verdict = .wrapped → losesPick PassCand.wrapVote cs i c = true →
        (deduped cs i c).verdict = .ambiguous) := by
  simp only [deduped, if_neg h]
  by_cases hwrap : losesPick PassCand.wrapVote cs i c = true
  · simp only [hwrap, if_true]
    exact ⟨trivial, fun hverdict => if_neg (hverdict.resolve_right fun h => h trivial), fun hverdict _ => if_pos hverdict⟩
  · simp only [if_neg hwrap]
    exact ⟨trivial, fun _ => trivial, fun _ h => absurd h hwrap⟩

theorem deduped_wrapVote : (deduped cs i c).wrapVote =
    if losesPick PassCand.wrapVote cs i c = true then none else c.wrapVote := by
  unfold deduped
  cases losesPick PassCand.claimed cs i c <;> cases losesPick PassCand.wrapVote cs i c <;> rfl

theorem claimed_eq (c : PassCand) :
    c.claimed = if c.verdict = .isMatch ∨ c.verdict = .stale then c.chosen else none := by
  unfold PassCand.claimed
  cases c.verdict <;> rfl

end

/-! #### The election (R71) -/

/-- In a list the member `w` is elected: it stands before every other of at most its rank and after those of less,
where a vote ranks by its count and then by being near. -/
def Elected (count far : Int × Int → Nat) (vs : List (Int × Int)) (w : Int × Int) : Prop :=
  ∃ before after, vs = before ++ w :: after ∧
    (∀ u ∈ before, count u < count w ∨ (count u = count w ∧ far w < far u)) ∧
    (∀ u ∈ after, count u < count w ∨ (count u = count w ∧ far w ≤ far u))

/-- One step of the election. -/
def electStep (count far : Int × Int → Nat) (best : Option (Int × Int)) (v : Int × Int) : Option (Int × Int) :=
  match best with
  | none => some v
  | some b => if count b < count v ∨ (count b = count v ∧ far v < far b) then some v else some b

theorem elected_append {count far : Int × Int → Nat} {vs : List (Int × Int)} {w v : Int × Int}
    (h : Elected count far vs w) :
    ∃ w', electStep count far (some w) v = some w' ∧ Elected count far (vs ++ [v]) w' := by
  obtain ⟨before, after, rfl, hbefore, hafter⟩ := h
  by_cases hbetter : count w < count v ∨ (count w = count v ∧ far v < far w)
  · refine ⟨v, if_pos hbetter, before ++ w :: after, [], rfl, fun u hu => ?_, by simp⟩
    rcases List.mem_append.mp hu with hu | hu
    · have := hbefore u hu
      omega
    · rcases List.mem_cons.mp hu with rfl | hu
      · exact hbetter
      · have := hafter u hu
        omega
  · refine ⟨w, if_neg hbetter, before, after ++ [v], by simp, hbefore, fun u hu => ?_⟩
    rcases List.mem_append.mp hu with hu | hu
    · exact hafter u hu
    · rw [List.mem_singleton.mp hu]
      omega

theorem foldl_electStep {count far : Int × Int → Nat} (rest : List (Int × Int)) {vs : List (Int × Int)}
    {w : Int × Int} (h : Elected count far vs w) :
    ∃ w', rest.foldl (electStep count far) (some w) = some w' ∧ Elected count far (vs ++ rest) w' := by
  induction rest generalizing vs w with
  | nil => exact ⟨w, rfl, by rwa [List.append_nil]⟩
  | cons v rest ih =>
    obtain ⟨w₁, hstep, hw₁⟩ := elected_append (v := v) h
    obtain ⟨w', hfold, hw'⟩ := ih hw₁
    exact ⟨w', by rw [List.foldl_cons, hstep, hfold], by rwa [List.append_assoc] at hw'⟩

theorem winningVote_none {pred : Int × Int} : winningVote pred [] = none := rfl

/-- The winning vote of votes there are. -/
theorem winningVote_elected {pred : Int × Int} {vs : List (Int × Int)} (h : vs ≠ []) : ∃ w,
    winningVote pred vs = some w ∧ Elected (fun u => (vs.filter (isNear u)).length)
      (fun u => (u.1 - pred.1).natAbs + (u.2 - pred.2).natAbs) vs w := by
  obtain ⟨v, rest, rfl⟩ := List.exists_cons_of_ne_nil h
  have hfirst : Elected (fun u => ((v :: rest).filter (isNear u)).length)
      (fun u => (u.1 - pred.1).natAbs + (u.2 - pred.2).natAbs) [v] v := ⟨[], [], rfl, by simp, by simp⟩
  obtain ⟨w, hfold, hw⟩ := foldl_electStep rest hfirst
  refine ⟨w, ?_, hw⟩
  simp only [winningVote, List.countP_eq_length_filter]
  exact hfold

/-! #### The solved pass -/

theorem vote_eq (g : Geometry) (c : PassCand) :
    c.vote g = if c.verdict = .isMatch then c.chosen.map (voteOf g c.cand) else none := by
  unfold PassCand.vote
  cases c.verdict <;> rfl

theorem staleOffset_eq (g : Geometry) (c : PassCand) :
    c.staleOffset g = if c.verdict = .stale then c.chosen.map (voteOf g c.cand) else none := by
  unfold PassCand.staleOffset
  cases c.verdict <;> rfl

/-- A candidate of the wanted verdict whose offset is near. -/
theorem any_near_iff {verdict wanted : Verdict} {chosen : Option Sighting} {f : Sighting → Int × Int}
    {w : Int × Int} :
    (if verdict = wanted then chosen.map f else none).any (isNear w) = true ↔
      verdict = wanted ∧ ∃ l, chosen = some l ∧ (w.1 - (f l).1).natAbs ≤ 8 ∧ (w.2 - (f l).2).natAbs ≤ 8 := by
  by_cases h : verdict = wanted
  · cases chosen <;> simp [h, isNear]
  · simp [h]

/-- What the solve makes of a candidate that stands: marked as inlier and revival, and nothing else. -/
def OnlyMarked (mark : PassCand → PassCand) : Prop :=
  ∀ c, mark c = { c with inlier := (mark c).inlier, revival := (mark c).revival }

section

variable {g : Geometry} {p : Pass}

/-- The votes of the MATCH candidates that stand. -/
def Pass.matchVotes (p : Pass) (g : Geometry) : List (Int × Int) := (dedupe p.cands).filterMap (PassCand.vote g)

/-- The votes of the wrapped lookups that stand. -/
def Pass.wrappedVotes (p : Pass) (g : Geometry) : List (Int × Int) :=
  (dedupe p.cands).filterMap fun c => c.wrapVote.map (voteOf g c.cand)

theorem solve_noVotes (h : p.matchVotes g = []) :
    p.solve g = { p with
      cands := dedupe p.cands, inliers := 0, solved := none, wrapMean := none, stage := .judge } := by
  unfold Pass.matchVotes at h
  simp only [Pass.solve, h, winningVote_none]

theorem solve_votes {w : Int × Int} (h : winningVote (p.predX, p.predY) (p.matchVotes g) = some w) :
    p.solve g = { p with
      cands := (dedupe p.cands).map fun c =>
        { c with
          inlier := (c.vote g).any (isNear w)
          revival := (c.staleOffset g).any (isNear (clusterMean ((p.matchVotes g).filter (isNear w)))) }
      inliers := ((p.matchVotes g).filter (isNear w)).length
      solved := some (clusterMean ((p.matchVotes g).filter (isNear w)))
      wrapMean := closureCluster g (p.predX, p.predY) (dedupe p.cands)
      stage := .judge } := by
  unfold Pass.matchVotes at h ⊢
  simp only [Pass.solve, h]

theorem solve_frame : p.solve g = { p with
    cands := (p.solve g).cands, inliers := (p.solve g).inliers, solved := (p.solve g).solved
    wrapMean := (p.solve g).wrapMean, stage := .judge } := by
  by_cases h : p.matchVotes g = []
  · rw [solve_noVotes h]
  · obtain ⟨w, hw, -⟩ := winningVote_elected (pred := (p.predX, p.predY)) h
    rw [solve_votes hw]

theorem solve_cands : ∃ mark, OnlyMarked mark ∧ (p.solve g).cands = (dedupe p.cands).map mark := by
  by_cases h : p.matchVotes g = []
  · exact ⟨id, fun _ => rfl, by rw [solve_noVotes h, List.map_id]⟩
  · obtain ⟨w, hw, -⟩ := winningVote_elected (pred := (p.predX, p.predY)) h
    exact ⟨_, fun _ => rfl, by rw [solve_votes hw]⟩

theorem filterMap_marked {α : Type} {mark : PassCand → PassCand} {f : PassCand → Option α} {cs : List PassCand}
    (h : ∀ c, f (mark c) = f c) : (cs.map mark).filterMap f = cs.filterMap f := by
  rw [List.filterMap_map]
  exact congrArg (List.filterMap · cs) (funext h)

theorem solve_matchVotes : p.matchVotes g = (p.solve g).cands.filterMap fun c =>
    if c.verdict = .isMatch then c.chosen.map (voteOf g c.cand) else none := by
  obtain ⟨mark, hmark, hcands⟩ := solve_cands (g := g) (p := p)
  rw [hcands, filterMap_marked fun c => by rw [hmark c], Pass.matchVotes]
  exact congrArg (List.filterMap · _) (funext (vote_eq g))

theorem solve_wrappedVotes : p.wrappedVotes g = (p.solve g).cands.filterMap fun c =>
    c.wrapVote.map (voteOf g c.cand) := by
  obtain ⟨mark, hmark, hcands⟩ := solve_cands (g := g) (p := p)
  rw [hcands, filterMap_marked fun c => by rw [hmark c], Pass.wrappedVotes]

/-- A candidate of the solved pass, apart from its marks, is what one claim per landmark leaves. -/
theorem solve_cand {i : Nat} {c c' : PassCand} (hc : p.cands[i]? = some c) (hc' : (p.solve g).cands[i]? = some c') :
    c'.cand = (deduped p.cands i c).cand ∧ c'.chosen = (deduped p.cands i c).chosen ∧
      c'.verdict = (deduped p.cands i c).verdict ∧ c'.wrapVote = (deduped p.cands i c).wrapVote := by
  obtain ⟨mark, hmark, hcands⟩ := solve_cands (g := g) (p := p)
  rw [hcands, List.getElem?_map, dedupe_get, hc] at hc'
  cases hc'
  rw [hmark]
  exact ⟨rfl, rfl, rfl, rfl⟩

theorem solve_unmarked {i : Nat} {c c' : PassCand} (h : p.matchVotes g = []) (hc : p.cands[i]? = some c)
    (hc' : (p.solve g).cands[i]? = some c') : c'.inlier = c.inlier ∧ c'.revival = c.revival := by
  rw [solve_noVotes h] at hc'
  dsimp only at hc'
  rw [dedupe_get, hc] at hc'
  cases hc'
  exact deduped_keeps.2

theorem solve_marks {w : Int × Int} (hw : winningVote (p.predX, p.predY) (p.matchVotes g) = some w)
    {c : PassCand} (hc : c ∈ (p.solve g).cands) :
    (c.inlier = true ↔ c.verdict = .isMatch ∧ ∃ l, c.chosen = some l ∧
      (w.1 - (voteOf g c.cand l).1).natAbs ≤ 8 ∧ (w.2 - (voteOf g c.cand l).2).natAbs ≤ 8) ∧
    (c.revival = true ↔ c.verdict = .stale ∧ ∃ l, c.chosen = some l ∧
      ((clusterMean ((p.matchVotes g).filter (isNear w))).1 - (voteOf g c.cand l).1).natAbs ≤ 8 ∧
      ((clusterMean ((p.matchVotes g).filter (isNear w))).2 - (voteOf g c.cand l).2).natAbs ≤ 8) := by
  rw [solve_votes hw] at hc
  obtain ⟨e, -, rfl⟩ := List.mem_map.mp hc
  dsimp only
  rw [vote_eq, staleOffset_eq]
  exact ⟨any_near_iff, any_near_iff⟩

theorem closureCluster_none (pred : Int × Int) (h : p.wrappedVotes g = []) :
    closureCluster g pred (dedupe p.cands) = none := by
  unfold Pass.wrappedVotes at h
  simp only [closureCluster, h, winningVote_none, Option.map_none]

theorem closureCluster_some {pred w : Int × Int} (h : winningVote pred (p.wrappedVotes g) = some w) :
    closureCluster g pred (dedupe p.cands) = some (((p.wrappedVotes g).filter (isNear w)).length,
      clusterMean ((p.wrappedVotes g).filter (isNear w))) := by
  unfold Pass.wrappedVotes at h ⊢
  simp only [closureCluster, h, Option.map_some]

end

/-- Settles O44: each obligation's part is a lemma about the solved pass, and an election is a walk along the votes
that keeps the elected one of those seen. -/
theorem solveElectsTheBusiestVote : Obligations.SolveElectsTheBusiestVote := by
  intro s p hp hstage
  refine ⟨p.solve s.geo, p.matchVotes s.geo, p.wrappedVotes s.geo, ?_, solve_frame, ?_, ?_, ?_⟩
  · show execSolve s = _
    simp only [execSolve, hp, hstage, if_true]
    rfl
  · obtain ⟨mark, -, hcands⟩ := solve_cands (g := s.geo) (p := p)
    rw [hcands, List.length_map, dedupe_length]
  · rintro claim beaten rfl rfl i c c' hc hc'
    obtain ⟨hcand, hchosen, hverdict, hwrapVote⟩ := solve_cand hc hc'
    have hclaim := losesPick_iff PassCand.claimed hc
    have hwrap := losesPick_iff PassCand.wrapVote hc
    simp only [claimed_eq] at hclaim
    dsimp only
    rw [hcand, hchosen, hverdict, hwrapVote, ← hclaim, ← hwrap, deduped_wrapVote]
    exact ⟨deduped_keeps.1, deduped_beaten, deduped_keepsClaim, fun h => if_pos h, fun h => if_neg h⟩
  · rintro offset close elects rfl rfl helects
    have helected : ∀ {vs : List (Int × Int)} {w : Int × Int}, Elected (fun u => (vs.filter (isNear u)).length)
        (fun u => (u.1 - p.predX).natAbs + (u.2 - p.predY).natAbs) vs w → elects vs w (vs.filter (isNear w)) :=
      fun ⟨before, after, hvs, hbefore, hafter⟩ =>
        (helects _ _ _).mpr ⟨before, after, _, _, hvs, fun _ => rfl, fun _ => rfl, hbefore, hafter, rfl⟩
    refine ⟨solve_matchVotes, solve_wrappedVotes, fun hnone => ?_, fun hsome => ?_⟩
    · refine ⟨?_, ?_, ?_, fun i c c' hc hc' => solve_unmarked hnone hc hc'⟩ <;> rw [solve_noVotes hnone]
    · obtain ⟨w, hw, hwon⟩ := winningVote_elected (pred := (p.predX, p.predY)) hsome
      refine ⟨w, _, clusterMean ((p.matchVotes s.geo).filter (isNear w)), helected hwon, by rw [solve_votes hw],
        by rw [solve_votes hw], rfl,
        fun c hc => solve_marks hw hc, fun hnone => ?_, fun hwrapped => ?_⟩
      · rw [solve_votes hw]
        exact closureCluster_none _ hnone
      · obtain ⟨w', hw', hwon'⟩ := winningVote_elected (pred := (p.predX, p.predY)) hwrapped
        refine ⟨w', _, helected hwon', ?_⟩
        rw [solve_votes hw]
        exact closureCluster_some hw'

end Sys2Proof.Machine

/-! ### Condition reports, and JUDGE (R22, R64, R73 to R80, R124, R125, R145) -/

namespace Sys2Proof.Machine

/-! #### A condition is reported (R22, R124, R125) -/

section

variable {s t : State} {p : Pass} {b : BankId} {c : Condition}

/-- A report of the condition takes its default. -/
def State.defaults (s : State) (c : Condition) : Prop := s.masked c = true ∨ s.sc.sweep ≠ .sweeping

/-- A hold's mark on PI: a storing bank without a mark takes HELD. -/
def State.heldIntake (s : State) : Intake :=
  match s.pi.port with
  | some c => if (s.bank c).drop = .none then
      { s.pi with banks := s.pi.banks.set c { s.bank c with drop := .held } } else s.pi
  | none => s.pi

theorem markStoring_eq (s : State) (m : DropMark) : s.markStoring m = { s with pi := (s.markStoring m).pi } := by
  unfold State.markStoring
  cases s.pi.port with
  | none => rfl
  | some c =>
    dsimp only
    split <;> rfl

theorem markStoring_held_pi (s : State) : (s.markStoring .held).pi = s.heldIntake := by
  unfold State.markStoring State.heldIntake
  cases s.pi.port with
  | none => rfl
  | some c =>
    dsimp only
    split <;> rfl

/-- The state with its sweep held at a condition and the pass waiting. -/
def State.heldWith (s : State) (c : Condition) (p : Pass) : State :=
  ({ s with
    pi := s.heldIntake
    sc := { s.sc with sweep := .held c, flags := s.sc.flags ||| c.mask }
    me := { s.me with pass := some p } } : State).raise .held

theorem report_default (h : s.defaults c) : s.report c = (s.setFlag c, false) := by
  have hmask : (s.setFlag c).masked c = s.masked c := rfl
  refine if_neg ?_
  rw [hmask]
  obtain h | h := h
  · simp [h]
  · simp [State.setFlag, h]

theorem report_holds (hsweep : s.sc.sweep = .sweeping) (hmask : s.masked c = false) :
    (s.report c).2 = true ∧ (s.report c).1.setPass (some p) = s.heldWith c p := by
  have hreport : s.report c = ((s.setFlag c).hold c, true) := by
    have hmask' : (s.setFlag c).masked c = false := hmask
    refine if_pos ?_
    rw [hmask']
    simp [State.setFlag, hsweep]
  rw [hreport]
  refine ⟨rfl, ?_⟩
  dsimp only
  rw [State.hold, markStoring_eq, markStoring_held_pi]
  rfl

theorem judgeReport_default {f : State → State} (h : s.defaults c) : s.judgeReport p c f = f (s.setFlag c) := by
  rw [State.judgeReport, report_default h]
  rfl

theorem judgeReport_holds {f : State → State} (hsweep : s.sc.sweep = .sweeping) (hmask : s.masked c = false) :
    s.judgeReport p c f = s.heldWith c { p with stage := .judgeHeld } := by
  obtain ⟨hholds, hstate⟩ := report_holds (p := { p with stage := .judgeHeld }) hsweep hmask
  rw [State.judgeReport, if_pos hholds, hstate]

/-- The state with the condition's flag set where it was met. -/
def State.flagged (s : State) (met : Bool) (c : Condition) : State :=
  { s with sc := { s.sc with flags := s.sc.flags ||| (if met then c.mask else 0#8) } }

theorem flagged_false (s : State) (c : Condition) : s.flagged false c = s := by
  simp only [State.flagged, Bool.false_eq_true, if_false, BitVec.or_zero]

/-! #### The frame takes an outcome that sets it aside -/

theorem settlePass_matching {lf : LastFrame} (hbank : p.bank = some b) (hmatching : (s.bank b).state = .matching)
    (hdropped : lf.outcome.isDropped = false) (hplaced : lf.outcome.isPlaced = false) : s.settlePass p lf = { s with
      pi := { s.pi with
        queue := s.pi.queue.filter fun c => !decide (c = b)
        banks := s.pi.banks.set b { s.bank b with state := .free, serial := none } }
      sc := { s.sc with setAside := s.sc.setAside + 1#32, last := lf } } := by
  rw [State.settlePass, hbank]
  exact settle_matching hmatching hdropped hplaced

end

/-! #### The checks in order (R75 to R80) -/

section

variable {s : State} {p : Pass}

theorem judge_due (hpass : s.me.pass = some p) (hstage : p.stage = .judge) : exec .judge s = .next (s.check1 p) := by
  show execJudge s = _
  simp only [execJudge, hpass, hstage, if_true]

theorem check1_solved {x y : Int} (hsolved : p.solved = some (x, y)) (h : s.prm.minInliers ≤ p.inliers) :
    s.check1 p = (s.solvedAt p x y).check2 { p with how := .matched, x := x, y := y } := by
  simp only [State.check1, hsolved, if_pos h]

theorem check1_low (h : p.solved = none ∨ p.inliers < s.prm.minInliers) :
    s.check1 p = if s.me.mode = .searching then s.unplaced p
      else s.judgeReport p .lowMatch fun s => s.lowMatchDefault p := by
  unfold State.check1
  cases hsolved : p.solved with
  | none => rfl
  | some o =>
    rw [hsolved] at h
    exact if_neg (Nat.not_le.mpr (h.resolve_left nofun))

theorem newestU_cons {newest : Placement} {older : List Placement} (h : s.pw = newest :: older) :
    s.newestU = roundDiv (s.geo.d * newest.x) 4 := by
  rw [State.newestU, h]
  rfl

theorem check2_reversed {step : Int} (hstep : step = s.geo.columnU p.x - s.newestU)
    (h : step < -(s.prm.reverseTol : Int)) : s.check2 p =
      s.judgeReport { p with step := step } .reversal fun s => s.endPassWith { p with step := step } .reversed := by
  rw [hstep] at h ⊢
  exact if_pos h

theorem check2_dwell {step : Int} (hstep : step = s.geo.columnU p.x - s.newestU)
    (h : -(s.prm.reverseTol : Int) ≤ step) (hlow : step < s.prm.minStep) :
    s.check2 p = s.dwell { p with step := step } := by
  rw [hstep] at h hlow ⊢
  exact (if_neg (Int.not_lt.mpr h)).trans (if_pos hlow)

theorem check2_goesOn {step : Int} (hstep : step = s.geo.columnU p.x - s.newestU)
    (h : (s.prm.minStep : Int) ≤ step) : s.check2 p = s.check3 { p with step := step } := by
  have hnot : ¬ step < -(s.prm.reverseTol : Int) := by omega
  rw [hstep] at h hnot ⊢
  exact (if_neg hnot).trans (if_neg (Int.not_lt.mpr h))

theorem leavesRows_iff (s : State) (p : Pass) :
    (roundDiv p.y 4 < 0 ∨ (s.geo.ch : Int) - 1 < roundDiv p.y 4 + s.geo.fh - 1) ↔
      (roundDiv p.y 4 < 0 ∨ (s.geo.ch : Int) < roundDiv p.y 4 + s.geo.fh) := by
  omega

theorem check3_goesOn {vert : Bool}
    (hvert : vert = decide (roundDiv p.y 4 < 0 ∨ (s.geo.ch : Int) < roundDiv p.y 4 + s.geo.fh))
    (hdefault : vert = true → s.defaults .vertical) :
    s.check3 p = (s.flagged vert .vertical).check4 (if vert then { p with clipped := true } else p) := by
  cases vert with
  | false =>
    rw [flagged_false]
    exact if_neg (mt (leavesRows_iff s p).mp (of_decide_eq_false hvert.symm))
  | true =>
    refine (if_pos ((leavesRows_iff s p).mpr (of_decide_eq_true hvert.symm))).trans ?_
    rw [judgeReport_default (hdefault rfl)]
    rfl

theorem check3_holds (hvert : roundDiv p.y 4 < 0 ∨ (s.geo.ch : Int) < roundDiv p.y 4 + s.geo.fh)
    (hsweep : s.sc.sweep = .sweeping) (hmask : s.masked .vertical = false) :
    s.check3 p = s.heldWith .vertical { p with stage := .judgeHeld } :=
  (if_pos ((leavesRows_iff s p).mpr hvert)).trans (judgeReport_holds hsweep hmask)

theorem check4_goesOn {fast : Bool} {lap : Int} (hlap : lap = s.newestU + s.geo.fw - s.geo.columnU p.x)
    (hfast : fast = decide (lap < s.prm.minOverlap)) (hdefault : fast = true → s.defaults .speed) :
    s.check4 p = (s.flagged fast .speed).check5
      { p with overlap := lap, gap := if fast then decide (lap < 0) else p.gap } := by
  subst hlap
  cases fast with
  | false =>
    rw [flagged_false]
    exact if_neg (of_decide_eq_false hfast.symm)
  | true =>
    refine (if_pos (of_decide_eq_true hfast.symm)).trans ?_
    rw [judgeReport_default (hdefault rfl)]
    rfl

theorem check4_holds {lap : Int} (hlap : lap = s.newestU + s.geo.fw - s.geo.columnU p.x)
    (hfast : lap < s.prm.minOverlap) (hsweep : s.sc.sweep = .sweeping) (hmask : s.masked .speed = false) :
    s.check4 p = s.heldWith .speed { p with overlap := lap, stage := .judgeHeld } := by
  subst hlap
  exact (if_pos hfast).trans (judgeReport_holds hsweep hmask)

/-- The frame's leading edge runs past the canvas and no closure is found at it. -/
def State.endsCanvas (s : State) (p : Pass) (test : Option ClosureTest) : Bool :=
  decide ((s.geo.cw : Int) - 32 < s.geo.columnU p.x + s.geo.fw) && !test.any fun c => c.reason.isNone

theorem endsCanvas_false_iff (s : State) (p : Pass) (test : Option ClosureTest) : s.endsCanvas p test = false ↔
    s.geo.columnU p.x + s.geo.fw ≤ (s.geo.cw : Int) - 32 ∨ closureMet test = true := by
  simp only [State.endsCanvas, closureMet, Bool.and_eq_false_iff, decide_eq_false_iff_not, Int.not_lt,
    Bool.not_eq_false']

variable {test : Option ClosureTest}

theorem check5_goesOn (htest : closureTest s.geo s.prm p = test) (h : s.endsCanvas p test = false) :
    s.check5 p = s.setPass (some { p with closure := test, stage := .push false }) := by
  subst htest
  exact if_pos ((endsCanvas_false_iff s p _).mp h)

theorem check5_reports (htest : closureTest s.geo s.prm p = test) (h : s.endsCanvas p test = true) :
    s.check5 p = s.judgeReport { p with closure := test } .canvasFull
      fun s => s.canvasEnd { p with closure := test } := by
  subst htest
  refine if_neg fun hpasses => ?_
  rw [(endsCanvas_false_iff s p _).mpr hpasses] at h
  cases h

theorem closureTest_noCluster (g : Geometry) (prm : Params) (h : p.wrapMean = none) : closureTest g prm p = none := by
  unfold closureTest
  rw [h]
  cases p.how <;> rfl

theorem closureTest_cluster (g : Geometry) (prm : Params) {n : Nat} {xw yw xs ys : Int} (hhow : p.how = .matched)
    (hcluster : p.wrapMean = some (n, xw, yw)) (hsolved : p.solved = some (xs, ys)) :
    closureTest g prm p = if n < prm.closeMin then none
      else some ⟨roundDiv (g.d * (xs - xw)) 4, roundDiv (ys - yw) 4, n,
        if prm.closeVtol < (roundDiv (ys - yw) 4).natAbs then some .residual
        else if roundDiv (g.d * (xs - xw)) 4 < g.fw ∨ (g.cw : Int) - 64 < roundDiv (g.d * (xs - xw)) 4 then
          some .circumference
        else none⟩ := by
  unfold closureTest
  rw [hhow, hcluster, hsolved]

end

end Sys2Proof.Machine

/-! ### JUDGE's outcomes (R22, R64, R73 to R80, R124, R125, R145) -/

namespace Sys2Proof.Machine

section

variable {s : State} {p : Pass} {b : BankId}

/-- The frame set aside with its outcome: its bank is FREE and out of the queue. -/
def State.setAsideWith (s : State) (b : BankId) (lf : LastFrame) : State :=
  { s with
    pi := { s.pi with
      queue := s.pi.queue.filter fun c => !decide (c = b)
      banks := s.pi.banks.set b { s.bank b with state := .free, serial := none } }
    sc := { s.sc with setAside := s.sc.setAside + 1#32, last := lf } }

theorem endPassWith_setAside {o : FrameOutcome} (hbank : p.bank = some b) (hmatching : (s.bank b).state = .matching)
    (hdropped : o.isDropped = false) (hplaced : o.isPlaced = false) :
    s.endPassWith p o = (s.setAsideWith b (p.lastFrame o)).setPass none := by
  rw [State.endPassWith, settlePass_matching hbank hmatching hdropped hplaced]
  rfl

theorem unplaced_setAside (hbank : p.bank = some b) (hmatching : (s.bank b).state = .matching) :
    s.unplaced p = (s.setAsideWith b ⟨p.serial, .unplaced, 0, 0, p.inliers, 0, 0, 0⟩).setPass none := by
  rw [State.unplaced, settlePass_matching hbank hmatching rfl rfl]
  rfl

theorem dwell_setAside (hhow : p.how = .matched) (hbank : p.bank = some b) (hmatching : (s.bank b).state = .matching) :
    s.dwell p = (s.setAsideWith b (p.lastFrame .dwell)).setPass (some { p with bank := none, stage := .footprint }) := by
  rw [State.dwell, if_pos hhow, settlePass_matching hbank hmatching rfl rfl]
  rfl

/-- PI as the sweep's way to CLOSING leaves it where nothing is queued. -/
def State.closingIntake (s : State) : Intake :=
  if s.sc.sweep = .sweeping then (s.markStoring .closing).pi else s.pi

theorem markStoring_closing (s : State) : ({ s with sc := { s.sc with sweep := .closing } } : State).markStoring .closing =
    { s with pi := (s.markStoring .closing).pi, sc := { s.sc with sweep := .closing } } :=
  (markStoring_eq _ _).trans (congrArg (fun k => ({ s with pi := k, sc := { s.sc with sweep := .closing } } : State))
    (markStoring_pi (s := s) (t := { s with sc := { s.sc with sweep := .closing } }) .closing rfl))

theorem markStoring_queue (s : State) (m : DropMark) : (s.markStoring m).pi.queue = s.pi.queue := by
  rw [State.markStoring]
  split
  · split <;> rfl
  · rfl

theorem enterClosing_noQueue (hqueue : s.pi.queue = []) :
    s.enterClosing = { s with pi := (s.markStoring .closing).pi, sc := { s.sc with sweep := .closing } } := by
  rw [State.enterClosing, markStoring_closing]
  exact releaseQueue_nil ((markStoring_queue s _).trans hqueue)

theorem canvasEnd_eq (hqueue : s.pi.queue = []) (hsweep : s.sc.sweep = .sweeping ∨ s.sc.sweep = .closing)
    (hbank : p.bank = some b) (hmatching : (s.bank b).state = .matching) :
    s.canvasEnd p = (({ s with pi := s.closingIntake, sc := { s.sc with sweep := .closing } } : State).setAsideWith b
      (p.lastFrame .canvasEnd)).setPass none := by
  have hclosing : (if s.sc.sweep = .sweeping then s.enterClosing else s) =
      { s with pi := s.closingIntake, sc := { s.sc with sweep := .closing } } := by
    unfold State.closingIntake
    obtain h | h := hsweep
    · rw [if_pos h, if_pos h]
      exact enterClosing_noQueue hqueue
    · rw [if_neg (by simp [h]), if_neg (by simp [h]), ← h]
  rw [State.canvasEnd, hclosing]
  refine endPassWith_setAside hbank ?_ rfl rfl
  rw [← hmatching]
  show (s.closingIntake.banks.get b).state = _
  unfold State.closingIntake
  split
  · exact markStoring_bank_state _ _ _
  · rfl

/-- The storing bank's mark where the canvas ends. -/
theorem closingIntake_drop {c : BankId} (hport : s.pi.port = some c) : (s.closingIntake.banks.get c).drop =
    if s.sc.sweep = .sweeping ∧ (s.bank c).drop = .none then .closing else (s.bank c).drop := by
  unfold State.closingIntake
  by_cases h : s.sc.sweep = .sweeping
  · have hmark := congrArg Bank.drop (markStoring_bank_same .closing hport)
    simp only [h, if_true, true_and]
    exact hmark
  · simp only [h, if_false, false_and]
    rfl

end

/-! #### Runs of checks -/

section

variable {s : State} {p : Pass} {b : BankId} {step lap : Int} {vert fast : Bool} {test : Option ClosureTest}

theorem defaults_of_off {c : Condition} (h : s.masked c = true ∨ s.sc.sweep = .closing) : s.defaults c :=
  h.imp_right fun h => by rw [h]; simp

/-- The pass at check 4, its rows judged. -/
def Pass.rowsJudged (p : Pass) (step : Int) (vert : Bool) : Pass :=
  if vert then { p with step := step, clipped := true } else { p with step := step }

/-- The pass at check 5, its overlap judged. -/
def Pass.lapJudged (p : Pass) (lap : Int) (fast : Bool) : Pass :=
  { p with overlap := lap, gap := if fast then decide (lap < 0) else p.gap }

theorem rowsJudged_keeps (p : Pass) (step : Int) (vert : Bool) : (p.rowsJudged step vert).x = p.x ∧
    (p.rowsJudged step vert).gap = p.gap ∧ (p.rowsJudged step vert).how = p.how ∧
    (p.rowsJudged step vert).solved = p.solved ∧ (p.rowsJudged step vert).wrapMean = p.wrapMean ∧
    (p.rowsJudged step vert).bank = p.bank := by
  cases vert <;> exact ⟨rfl, rfl, rfl, rfl, rfl, rfl⟩

/-- From check 2 to check 4, where the rows make no hold. -/
theorem check2_toCheck4 (hstep : step = s.geo.columnU p.x - s.newestU) (hmin : (s.prm.minStep : Int) ≤ step)
    (hvert : vert = decide (roundDiv p.y 4 < 0 ∨ (s.geo.ch : Int) < roundDiv p.y 4 + s.geo.fh))
    (hdefault : vert = true → s.defaults .vertical) :
    s.check2 p = (s.flagged vert .vertical).check4 (p.rowsJudged step vert) := by
  rw [check2_goesOn hstep hmin]
  exact check3_goesOn (p := { p with step := step }) hvert hdefault

/-- From check 2 to check 5, where neither the rows nor the overlap make a hold. -/
theorem check2_toCheck5 (hstep : step = s.geo.columnU p.x - s.newestU) (hmin : (s.prm.minStep : Int) ≤ step)
    (hvert : vert = decide (roundDiv p.y 4 < 0 ∨ (s.geo.ch : Int) < roundDiv p.y 4 + s.geo.fh))
    (hrows : vert = true → s.defaults .vertical)
    (hlap : lap = s.newestU + s.geo.fw - s.geo.columnU p.x) (hfast : fast = decide (lap < s.prm.minOverlap))
    (hspeed : fast = true → s.defaults .speed) :
    s.check2 p = ((s.flagged vert .vertical).flagged fast .speed).check5
      ((p.rowsJudged step vert).lapJudged lap fast) := by
  obtain ⟨hx, -⟩ := rowsJudged_keeps p step vert
  rw [check2_toCheck4 hstep hmin hvert hrows]
  exact check4_goesOn (s := s.flagged vert .vertical) (p := p.rowsJudged step vert) (by rw [hx]; exact hlap) hfast hspeed

theorem closureTest_judged (g : Geometry) (prm : Params) (p : Pass) (step lap : Int) (vert fast : Bool) :
    closureTest g prm ((p.rowsJudged step vert).lapJudged lap fast) = closureTest g prm p := by
  cases vert <;> rfl

theorem endsCanvas_judged (s : State) (p : Pass) (step lap : Int) (vert fast : Bool) (test : Option ClosureTest) :
    s.endsCanvas ((p.rowsJudged step vert).lapJudged lap fast) test = s.endsCanvas p test := by
  cases vert <;> rfl

/-- From check 2 to the push. -/
theorem check2_toPush (hstep : step = s.geo.columnU p.x - s.newestU) (hmin : (s.prm.minStep : Int) ≤ step)
    (hvert : vert = decide (roundDiv p.y 4 < 0 ∨ (s.geo.ch : Int) < roundDiv p.y 4 + s.geo.fh))
    (hrows : vert = true → s.defaults .vertical)
    (hlap : lap = s.newestU + s.geo.fw - s.geo.columnU p.x) (hfast : fast = decide (lap < s.prm.minOverlap))
    (hspeed : fast = true → s.defaults .speed)
    (htest : closureTest s.geo s.prm p = test) (hpasses : s.endsCanvas p test = false) :
    s.check2 p = ((s.flagged vert .vertical).flagged fast .speed).setPass
      (some { (p.rowsJudged step vert).lapJudged lap fast with closure := test, stage := .push false }) := by
  rw [check2_toCheck5 hstep hmin hvert hrows hlap hfast hspeed]
  exact check5_goesOn ((closureTest_judged _ _ p step lap vert fast).trans htest)
    ((endsCanvas_judged s p step lap vert fast test).trans hpasses)

/-- From check 2 to a report of CANVAS_FULL. -/
theorem check2_toCanvasFull (hstep : step = s.geo.columnU p.x - s.newestU) (hmin : (s.prm.minStep : Int) ≤ step)
    (hvert : vert = decide (roundDiv p.y 4 < 0 ∨ (s.geo.ch : Int) < roundDiv p.y 4 + s.geo.fh))
    (hrows : vert = true → s.defaults .vertical)
    (hlap : lap = s.newestU + s.geo.fw - s.geo.columnU p.x) (hfast : fast = decide (lap < s.prm.minOverlap))
    (hspeed : fast = true → s.defaults .speed)
    (htest : closureTest s.geo s.prm p = test) (hfull : s.endsCanvas p test = true) :
    s.check2 p = ((s.flagged vert .vertical).flagged fast .speed).judgeReport
      { (p.rowsJudged step vert).lapJudged lap fast with closure := test } .canvasFull
      fun s => s.canvasEnd { (p.rowsJudged step vert).lapJudged lap fast with closure := test } := by
  rw [check2_toCheck5 hstep hmin hvert hrows hlap hfast hspeed]
  exact check5_reports ((closureTest_judged _ _ p step lap vert fast).trans htest)
    ((endsCanvas_judged s p step lap vert fast test).trans hfull)

theorem lowMatchDefault_coasts (h : s.me.predicted < s.prm.predictLimit) : s.lowMatchDefault p =
    (s.setMode .coasting (s.me.predicted + 1)).check2 { p with how := .predicted, x := p.predX, y := p.predY } :=
  if_pos h

theorem lowMatchDefault_lost (h : s.prm.predictLimit ≤ s.me.predicted) :
    s.lowMatchDefault p = s.judgeReport p .lost fun s => s.lostDefault p :=
  if_neg (Nat.not_lt.mpr h)

theorem lostDefault_setAside (hbank : p.bank = some b) (hmatching : (s.bank b).state = .matching) :
    s.lostDefault p = ((s.setMode .searching 0).setAsideWith b
      ⟨p.serial, .unplaced, 0, 0, p.inliers, 0, 0, 0⟩).setPass none :=
  unplaced_setAside (s := s.setMode .searching 0) hbank hmatching

theorem check2_dwell_setAside (hstep : step = s.geo.columnU p.x - s.newestU)
    (h : -(s.prm.reverseTol : Int) ≤ step) (hlow : step < s.prm.minStep) (hhow : p.how = .matched)
    (hbank : p.bank = some b) (hmatching : (s.bank b).state = .matching) :
    s.check2 p = (s.setAsideWith b (({ p with step := step } : Pass).lastFrame .dwell)).setPass
      (some { p with step := step, bank := none, stage := .footprint }) := by
  rw [check2_dwell hstep h hlow]
  exact dwell_setAside (p := { p with step := step }) hhow hbank hmatching

theorem check2_reversed_setAside (hstep : step = s.geo.columnU p.x - s.newestU)
    (h : step < -(s.prm.reverseTol : Int)) (hdefault : s.defaults .reversal) (hbank : p.bank = some b)
    (hmatching : (s.bank b).state = .matching) :
    s.check2 p = ((s.setFlag .reversal).setAsideWith b (({ p with step := step } : Pass).lastFrame .reversed)).setPass
      none := by
  rw [check2_reversed hstep h, judgeReport_default hdefault]
  exact endPassWith_setAside (s := s.setFlag .reversal) (p := { p with step := step }) hbank hmatching rfl rfl

/-- A frame whose inliers suffice goes on to check 2. -/
theorem judge_solved {x y : Int} (hpass : s.me.pass = some p) (hstage : p.stage = .judge)
    (hsolved : p.solved = some (x, y)) (h : s.prm.minInliers ≤ p.inliers) :
    exec .judge s = .next ((s.solvedAt p x y).check2 { p with how := .matched, x := x, y := y }) := by
  rw [judge_due hpass hstage, check1_solved hsolved h]

/-- A frame whose inliers do not suffice is judged by the tracking mode. -/
theorem judge_low (hpass : s.me.pass = some p) (hstage : p.stage = .judge)
    (h : p.solved = none ∨ p.inliers < s.prm.minInliers) :
    exec .judge s = .next (if s.me.mode = .searching then s.unplaced p
      else s.judgeReport p .lowMatch fun s => s.lowMatchDefault p) := by
  rw [judge_due hpass hstage, check1_low h]

/-- With its default taken LOW_MATCH leads on. -/
theorem judge_lowDefault (hpass : s.me.pass = some p) (hstage : p.stage = .judge)
    (h : p.solved = none ∨ p.inliers < s.prm.minInliers) (hmode : s.me.mode ≠ .searching)
    (hdefault : s.defaults .lowMatch) : exec .judge s = .next ((s.setFlag .lowMatch).lowMatchDefault p) := by
  rw [judge_low hpass hstage h, if_neg hmode, judgeReport_default hdefault]

end

section

variable {s : State} {p : Pass} {b : BankId} {newest : Placement} {older : List Placement} {x y step : Int}

/-- The pass of a solved frame. -/
def Pass.solvedTo (p : Pass) (x y : Int) : Pass := { p with how := .matched, x := x, y := y }

theorem solvedAt_newestU (hpw : s.pw = newest :: older) :
    (s.solvedAt p x y).newestU = roundDiv (s.geo.d * newest.x) 4 := newestU_cons (s := s.solvedAt p x y) hpw

theorem solvedAt_step (hpw : s.pw = newest :: older)
    (hstep : step = roundDiv (s.geo.d * x) 4 - roundDiv (s.geo.d * newest.x) 4) :
    step = (s.solvedAt p x y).geo.columnU (p.solvedTo x y).x - (s.solvedAt p x y).newestU := by
  rw [solvedAt_newestU hpw, hstep]
  rfl

/-- A solved frame that passes every check goes to the push. -/
theorem judge_passes (hpass : s.me.pass = some p) (hstage : p.stage = .judge) (hcluster : p.wrapMean = none)
    (hpw : s.pw = newest :: older) (hsolved : p.solved = some (x, y)) (hinliers : s.prm.minInliers ≤ p.inliers)
    (hstep : step = roundDiv (s.geo.d * x) 4 - roundDiv (s.geo.d * newest.x) 4) (hmin : (s.prm.minStep : Int) ≤ step)
    (htop : 0 ≤ roundDiv y 4) (hbottom : roundDiv y 4 + s.geo.fh ≤ (s.geo.ch : Int))
    (hlap : (s.prm.minOverlap : Int) ≤ s.geo.fw - step)
    (hcanvas : roundDiv (s.geo.d * x) 4 + s.geo.fw ≤ (s.geo.cw : Int) - 32) :
    exec .judge s = .next ((s.solvedAt p x y).setPass (some { p.solvedTo x y with
      step := step, overlap := s.geo.fw - step, closure := none, stage := .push false })) := by
  have hvert : false = decide (roundDiv (p.solvedTo x y).y 4 < 0 ∨
      ((s.solvedAt p x y).geo.ch : Int) < roundDiv (p.solvedTo x y).y 4 + (s.solvedAt p x y).geo.fh) := by
    rw [Eq.comm, decide_eq_false_iff_not]
    exact not_or.mpr ⟨Int.not_lt.mpr htop, Int.not_lt.mpr hbottom⟩
  have hlap' : (s.geo.fw : Int) - step =
      (s.solvedAt p x y).newestU + (s.solvedAt p x y).geo.fw - (s.solvedAt p x y).geo.columnU (p.solvedTo x y).x := by
    have := solvedAt_step (p := p) (y := y) hpw hstep
    have hfw : (s.solvedAt p x y).geo.fw = s.geo.fw := rfl
    rw [hfw]
    omega
  have hfast : false = decide ((s.geo.fw : Int) - step < (s.solvedAt p x y).prm.minOverlap) := by
    rw [Eq.comm, decide_eq_false_iff_not]
    exact Int.not_lt.mpr hlap
  have hpasses : (s.solvedAt p x y).endsCanvas (p.solvedTo x y) none = false :=
    (endsCanvas_false_iff _ _ _).mpr (.inl hcanvas)
  refine (judge_solved hpass hstage hsolved hinliers).trans (congrArg Host.Outcome.next ?_)
  refine (check2_toPush (p := p.solvedTo x y) (solvedAt_step hpw hstep) hmin hvert nofun hlap' hfast nofun
    (closureTest_noCluster _ _ hcluster) hpasses).trans ?_
  rw [flagged_false, flagged_false]
  rfl

end

/-- Settles O45: each outcome follows the checks up to the one that decides. -/
theorem judgeDecidesTheFrame : Obligations.JudgeDecidesTheFrame := by
  intro s p b off hpass hstage hbank hmatching hcluster hoff
  refine ⟨fun x y u step q m setAside newest older hpw hsolved hinliers hu hstep hq hm hset => ?_, fun hlow => ?_⟩
  · subst hu hm hset hq
    have hstep' := solvedAt_step (p := p) (y := y) hpw hstep
    have hjudge : exec .judge s = .next ((s.solvedAt p x y).check2 (p.solvedTo x y)) :=
      judge_solved hpass hstage hsolved hinliers
    refine ⟨fun hmin htop hbottom hlap hcanvas => ?_, fun htol hmin => ?_, fun htol hreverse => ⟨_, rfl, ?_⟩⟩
    · exact judge_passes hpass hstage hcluster hpw hsolved hinliers hstep hmin htop hbottom hlap hcanvas
    · rw [hjudge, check2_dwell_setAside hstep' htol hmin rfl hbank hmatching]
      rfl
    · rw [hjudge, check2_reversed_setAside hstep' htol (defaults_of_off (s := s) ((hoff _).mp hreverse)) hbank hmatching]
      rfl
  · refine ⟨fun hmode => ?_, fun hmode hsweep hmask marked hmarked => ?_, fun hmode hoffLow hoffLost hlimit => ?_,
      fun hmode hoffLow hlimit => ?_⟩
    · rw [judge_low hpass hstage hlow, if_pos hmode, unplaced_setAside hbank hmatching]
      rfl
    · rw [judge_low hpass hstage hlow, if_neg hmode, judgeReport_holds hsweep hmask, hmarked]
      rfl
    · rw [judge_lowDefault hpass hstage hlow hmode (defaults_of_off ((hoff _).mp hoffLow)),
        lowMatchDefault_lost (s := s.setFlag .lowMatch) hlimit,
        judgeReport_default (s := s.setFlag .lowMatch) (defaults_of_off (s := s) ((hoff _).mp hoffLost)),
        lostDefault_setAside (s := (s.setFlag .lowMatch).setFlag .lost) hbank hmatching]
      rfl
    · rw [judge_lowDefault hpass hstage hlow hmode (defaults_of_off ((hoff _).mp hoffLow)),
        lowMatchDefault_coasts (s := s.setFlag .lowMatch) hlimit]
      rfl

end Sys2Proof.Machine

/-! ### JUDGE's reports and the closure test (R22, R74 to R80, R124, R125, R145) -/

namespace Sys2Proof.Machine

section

variable {s t : State} {p : Pass} {b : BankId} {c : Condition}

theorem held_of_not_off (hsweep : s.sc.sweep = .sweeping ∨ s.sc.sweep = .closing)
    (h : ¬ (s.masked c = true ∨ s.sc.sweep = .closing)) : s.sc.sweep = .sweeping ∧ s.masked c = false :=
  ⟨hsweep.resolve_right fun hc => h (.inr hc), Bool.not_eq_true _ ▸ fun hm => h (.inl hm)⟩

/-- The canvas ends at a frame: the sweep is CLOSING, the frame is set aside, a storing bank is marked. -/
theorem canvasEnd_ends (hqueue : s.pi.queue = []) (hsweep : s.sc.sweep = .sweeping ∨ s.sc.sweep = .closing)
    (hbank : p.bank = some b) (hmatching : (s.bank b).state = .matching) :
    (s.canvasEnd p).sc.sweep = .closing ∧ (s.canvasEnd p).sc.flags = s.sc.flags ∧
    (s.canvasEnd p).me = { s.me with pass := none } ∧ ((s.canvasEnd p).bank b).state = .free ∧
    (s.canvasEnd p).sc.setAside = s.sc.setAside + 1#32 ∧
    (∀ c, s.pi.port = some c → c ≠ b → ((s.canvasEnd p).bank c).drop =
      if s.sc.sweep = .sweeping ∧ (s.bank c).drop = .none then .closing else (s.bank c).drop) ∧
    (s.canvasEnd p).sc.last = p.lastFrame .canvasEnd ∧ (s.canvasEnd p).pw = s.pw ∧ (s.canvasEnd p).bu = s.bu := by
  rw [canvasEnd_eq hqueue hsweep hbank hmatching]
  refine ⟨rfl, rfl, rfl, ?_, rfl, fun c hport hc => ?_, rfl, rfl, rfl⟩
  · exact congrArg Bank.state (bank_setBank_same _ b _)
  · exact (congrArg Bank.drop (bank_setBank_other ({ s with pi := s.closingIntake } : State) _ hc)).trans
      (closingIntake_drop hport)

end

section

variable {s : State} {p : Pass} {step lap : Int} {vert : Bool}

theorem check2_verticalHolds (hstep : step = s.geo.columnU p.x - s.newestU) (hmin : (s.prm.minStep : Int) ≤ step)
    (hvert : roundDiv p.y 4 < 0 ∨ (s.geo.ch : Int) < roundDiv p.y 4 + s.geo.fh)
    (hsweep : s.sc.sweep = .sweeping) (hmask : s.masked .vertical = false) :
    s.check2 p = s.heldWith .vertical { p with step := step, stage := .judgeHeld } := by
  rw [check2_goesOn hstep hmin]
  exact check3_holds (p := { p with step := step }) hvert hsweep hmask

theorem check2_speedHolds (hstep : step = s.geo.columnU p.x - s.newestU) (hmin : (s.prm.minStep : Int) ≤ step)
    (hvert : vert = decide (roundDiv p.y 4 < 0 ∨ (s.geo.ch : Int) < roundDiv p.y 4 + s.geo.fh))
    (hrows : vert = true → s.defaults .vertical) (hlap : lap = s.newestU + s.geo.fw - s.geo.columnU p.x)
    (hfast : lap < s.prm.minOverlap) (hsweep : s.sc.sweep = .sweeping) (hmask : s.masked .speed = false) :
    s.check2 p = (s.flagged vert .vertical).heldWith .speed
      { p.rowsJudged step vert with overlap := lap, stage := .judgeHeld } := by
  obtain ⟨hx, -⟩ := rowsJudged_keeps p step vert
  rw [check2_toCheck4 hstep hmin hvert hrows]
  exact check4_holds (s := s.flagged vert .vertical) (p := p.rowsJudged step vert) (by rw [hx]; exact hlap) hfast hsweep
    hmask

end

/-- Settles O46: the checks run in order up to the one that reports. -/
theorem judgeReportsAndTestsTheClosure : Obligations.JudgeReportsAndTestsTheClosure := by
  intro s p b newest older off marked held hpass hstage hbank hmatching hpw hsweep hoff hmarked hheld
  have hholds {c : Condition} (h : ¬ off c) : s.sc.sweep = .sweeping ∧ s.masked c = false :=
    held_of_not_off hsweep (mt (hoff c).mpr h)
  have hdefaults {c : Condition} (h : off c) : s.defaults c := defaults_of_off ((hoff c).mp h)
  subst hheld
  refine ⟨?_, fun hlow hmode hoffLow hoffLost hlimit => ?_⟩
  · intro x y u step lap q q1 q2 m f1 f2 vert fast full test hsolved hinliers hu hstep hlap hm hvert hfast htestNone
      htest hfull hf1 hf2 hq hq1 hq2
    subst hu hm hmarked hq
    have hjudge : exec .judge s = .next ((s.solvedAt p x y).check2 (p.solvedTo x y)) :=
      judge_solved hpass hstage hsolved hinliers
    have hstep' := solvedAt_step (p := p) (y := y) hpw hstep
    have hq1' : q1 = (p.solvedTo x y).rowsJudged step vert := hq1
    have hlap' : lap = (s.solvedAt p x y).newestU + (s.solvedAt p x y).geo.fw -
        (s.solvedAt p x y).geo.columnU (p.solvedTo x y).x := by
      rw [solvedAt_newestU hpw, hlap]
      rfl
    have htest' : closureTest s.geo s.prm (p.solvedTo x y) = test := by
      cases hcluster : p.wrapMean with
      | none => exact (closureTest_noCluster (p := p.solvedTo x y) _ _ hcluster).trans (htestNone hcluster).symm
      | some w =>
        obtain ⟨n, xw, yw⟩ := w
        exact (closureTest_cluster (p := p.solvedTo x y) _ _ rfl hcluster hsolved).trans
          (htest n xw yw _ _ hcluster rfl rfl).symm
    have hfull' : full = (s.solvedAt p x y).endsCanvas (p.solvedTo x y) test := hfull
    obtain ⟨-, hgap, -, -, -, hbank'⟩ := rowsJudged_keeps (p.solvedTo x y) step vert
    have hrest : q2 = q1.lapJudged lap fast := by
      rw [hq2, Pass.lapJudged, hq1', hgap]
      rfl
    refine ⟨fun htol hnot => ?_, fun htol hmin => ⟨fun hrows hnot => ?_, fun hrows => ⟨fun hslow hnot => ?_,
      fun hspeed => ⟨fun hend hnot => ?_, fun hend hoffFull hqueue => ?_, fun hend => ?_⟩⟩⟩⟩
    · obtain ⟨hsweep', hmask⟩ := hholds hnot
      rw [hjudge, check2_reversed hstep' htol, judgeReport_holds (s := s.solvedAt p x y) hsweep' hmask]
      rfl
    · obtain ⟨hsweep', hmask⟩ := hholds hnot
      rw [hjudge, check2_verticalHolds hstep' hmin (of_decide_eq_true (hvert.symm.trans hrows)) hsweep' hmask]
      rfl
    · obtain ⟨hsweep', hmask⟩ := hholds hnot
      rw [hjudge, check2_speedHolds hstep' hmin hvert (fun h => hdefaults (hrows h)) hlap'
        (of_decide_eq_true (hfast.symm.trans hslow)) hsweep' hmask, hf1, hq1']
      rfl
    · obtain ⟨hsweep', hmask⟩ := hholds hnot
      rw [hjudge, check2_toCanvasFull hstep' hmin hvert (fun h => hdefaults (hrows h)) hlap' hfast
        (fun h => hdefaults (hspeed h)) htest' (hfull'.symm.trans hend),
        judgeReport_holds (s := ((s.solvedAt p x y).flagged vert .vertical).flagged fast .speed) hsweep' hmask,
        hrest, hq1', hf2, hf1]
      rfl
    · refine ⟨_, (hjudge.trans (congrArg Host.Outcome.next (check2_toCanvasFull hstep' hmin hvert
        (fun h => hdefaults (hrows h)) hlap' hfast (fun h => hdefaults (hspeed h)) htest'
        (hfull'.symm.trans hend)))).trans (congrArg Host.Outcome.next (judgeReport_default
          (s := ((s.solvedAt p x y).flagged vert .vertical).flagged fast .speed) (hdefaults hoffFull))), ?_⟩
      obtain ⟨hend, hflags, hme, hfree, hcount, hdrop, hlast, hwindow, hblend⟩ := canvasEnd_ends
        (s := (((s.solvedAt p x y).flagged vert .vertical).flagged fast .speed).setFlag .canvasFull)
        (p := { ((p.solvedTo x y).rowsJudged step vert).lapJudged lap fast with closure := test })
        hqueue hsweep (hbank'.trans hbank) hmatching
      refine ⟨hend, ?_, hme, hfree, hcount, hdrop, ?_, hwindow, hblend⟩
      · rw [hflags, hf2, hf1]
        rfl
      · rw [hlast]
        cases vert <;> rfl
    · rw [hjudge, check2_toPush hstep' hmin hvert (fun h => hdefaults (hrows h)) hlap' hfast
        (fun h => hdefaults (hspeed h)) htest' (hfull'.symm.trans hend), hrest, hq1', hf2, hf1]
      rfl
  · obtain ⟨hsweep', hmask⟩ := hholds hoffLost
    rw [judge_lowDefault hpass hstage hlow hmode (hdefaults hoffLow),
      lowMatchDefault_lost (s := s.setFlag .lowMatch) hlimit,
      judgeReport_holds (s := s.setFlag .lowMatch) hsweep' hmask, hmarked]
    rfl

end Sys2Proof.Machine

/-! ### What a push report does to sweep, intake, counters and events (R22, R137 to R140, R146, R147) -/

namespace Sys2Proof.Machine

theorem Event.bit_lt (e : Event) : e.bit < 14 := by cases e <;> decide

theorem Event.bit_inj : ∀ {e d : Event}, e.bit = d.bit → e = d := by
  intro e d
  cases e <;> cases d <;> decide

/-- Raising an event sets its flag and no other. -/
theorem raise_getLsbD (s : State) (e d : Event) :
    (s.raise e).li.events.getLsbD d.bit = (s.li.events.getLsbD d.bit || decide (d = e)) := by
  have hbit : (2 ^ e.bit).testBit d.bit = decide (d = e) := by
    rw [Nat.testBit_two_pow]
    exact decide_eq_decide.mpr ⟨fun h => (Event.bit_inj h).symm, fun h => by rw [h]⟩
  show (s.li.events ||| BitVec.ofNat 14 (2 ^ e.bit)).getLsbD d.bit = _
  rw [BitVec.getLsbD_or, BitVec.getLsbD_ofNat, decide_eq_true d.bit_lt, Bool.true_and, hbit]

/-! #### The relation of a report's steps -/

/-- A step leaves sweep state, intake and last outcome. -/
structure Stays (u t : State) : Prop where
  sweep : t.sc.sweep = u.sc.sweep
  pi : t.pi = u.pi
  last : t.sc.last = u.sc.last
  dropped : t.sc.dropped = u.sc.dropped

/-- A step takes SWEEPING to CLOSING and releases the queue. -/
structure Closes (u t : State) : Prop where
  was : u.sc.sweep = .sweeping
  now : t.sc.sweep = .closing
  last : u.pi.queue = [] → t.sc.last = u.sc.last
  released : u.pi.queue.Nodup → (∀ c ∈ u.pi.queue, (u.bank c).state = .queued) → t.pi.queue = [] ∧
    t.sc.dropped = u.sc.dropped + BitVec.ofNat 32 u.pi.queue.length

/-- A part of a push report: it closes the sweep where it is SWEEPING and `closes`, raises the events of `raised`, and
counts no placement and no frame set aside. -/
structure Reported (closes : Bool) (raised : Event → Bool) (u t : State) : Prop where
  sweep : (¬(u.sc.sweep = .sweeping ∧ closes = true) ∧ Stays u t) ∨ (closes = true ∧ Closes u t)
  placed : t.sc.placed = u.sc.placed
  setAside : t.sc.setAside = u.sc.setAside
  bank : ∀ b, (u.bank b).state.isOpen = false →
    (t.bank b).state = (u.bank b).state ∧ (t.bank b).serial = (u.bank b).serial ∧ (t.bank b).cands = (u.bank b).cands
  events : ∀ e, e ≠ .frameDropped → t.li.events.getLsbD e.bit = (u.li.events.getLsbD e.bit || raised e)

def noEvents (_ : Event) : Bool := false

section

variable {u t v : State} {closes closes' : Bool} {raised raised' : Event → Bool}

theorem Stays.trans (h : Stays u t) (h' : Stays t v) : Stays u v :=
  ⟨h'.sweep.trans h.sweep, h'.pi.trans h.pi, h'.last.trans h.last, h'.dropped.trans h.dropped⟩

theorem Stays.thenCloses (h : Stays u t) (h' : Closes t v) : Closes u v where
  was := h.sweep ▸ h'.was
  now := h'.now
  last hqueue := (h'.last (by rw [h.pi, hqueue])).trans h.last
  released hnodup hqueued := by
    have hbank (c : BankId) : t.bank c = u.bank c := bank_of_banks (congrArg Intake.banks h.pi) c
    have := h'.released (by rwa [h.pi]) (by simpa only [h.pi, hbank] using hqueued)
    rwa [h.pi, h.dropped] at this

theorem Closes.stays (h : Closes u t) (h' : Stays t v) : Closes u v where
  was := h.was
  now := h'.sweep.trans h.now
  last hqueue := h'.last.trans (h.last hqueue)
  released hnodup hqueued := by
    rw [h'.pi, h'.dropped]
    exact h.released hnodup hqueued

theorem Reported.trans (h : Reported closes raised u t) (h' : Reported closes' raised' t v) :
    Reported (closes || closes') (fun e => raised e || raised' e) u v where
  sweep := by
    obtain ⟨hnot, hstays⟩ | ⟨hc, hcloses⟩ := h.sweep <;> obtain ⟨hnot', hstays'⟩ | ⟨hc', hcloses'⟩ := h'.sweep
    · refine .inl ⟨fun ⟨hsweeping, hor⟩ => ?_, hstays.trans hstays'⟩
      obtain hc | hc := (Bool.or_eq_true _ _).mp hor
      · exact hnot ⟨hsweeping, hc⟩
      · exact hnot' ⟨hstays.sweep.trans hsweeping, hc⟩
    · exact .inr ⟨by rw [hc', Bool.or_true], hstays.thenCloses hcloses'⟩
    · exact .inr ⟨by rw [hc, Bool.true_or], hcloses.stays hstays'⟩
    · exact nomatch hcloses'.was.symm.trans hcloses.now
  placed := h'.placed.trans h.placed
  setAside := h'.setAside.trans h.setAside
  bank b hb := by
    obtain ⟨hstate, hserial, hcands⟩ := h.bank b hb
    obtain ⟨hstate', hserial', hcands'⟩ := h'.bank b (by rwa [hstate])
    exact ⟨hstate'.trans hstate, hserial'.trans hserial, hcands'.trans hcands⟩
  events e he := by rw [h'.events e he, h.events e he, Bool.or_assoc]

/-- A step that leaves the intake and the books. -/
theorem Reported.quiet (hstays : Stays u t) (hplaced : t.sc.placed = u.sc.placed)
    (hsetAside : t.sc.setAside = u.sc.setAside) (hclose : closes = false ∨ u.sc.sweep ≠ .sweeping)
    (hevents : ∀ e, t.li.events.getLsbD e.bit = (u.li.events.getLsbD e.bit || raised e)) :
    Reported closes raised u t where
  sweep := .inl ⟨fun ⟨hsweeping, hc⟩ => hclose.elim (fun h => by rw [h] at hc; cases hc) fun h => h hsweeping, hstays⟩
  placed := hplaced
  setAside := hsetAside
  bank b _ := by rw [bank_of_banks (congrArg Intake.banks hstays.pi) b]; exact ⟨rfl, rfl, rfl⟩
  events e _ := hevents e

theorem Reported.refl (u : State) : Reported false noEvents u u :=
  .quiet ⟨rfl, rfl, rfl, rfl⟩ rfl rfl (.inl rfl) fun e => by rw [noEvents, Bool.or_false]

theorem Reported.refl_of_not_sweeping (h : u.sc.sweep ≠ .sweeping) : Reported closes noEvents u u :=
  .quiet ⟨rfl, rfl, rfl, rfl⟩ rfl rfl (.inr h) fun e => by rw [noEvents, Bool.or_false]

theorem Reported.raise (u : State) (e : Event) : Reported false (fun d => decide (d = e)) u (u.raise e) :=
  .quiet ⟨rfl, rfl, rfl, rfl⟩ rfl rfl (.inl rfl) fun d => raise_getLsbD u e d

/-! #### The sweep enters CLOSING -/

theorem markStoring_sc_li (s : State) (m : DropMark) : (s.markStoring m).sc = s.sc ∧ (s.markStoring m).li = s.li := by
  rw [markStoring_eq]
  exact ⟨rfl, rfl⟩

theorem settleIntake_placed {s : State} {b : BankId} {o : FrameOutcome} (ho : o.isPlaced = false) :
    (s.settleIntake b o).sc.placed = s.sc.placed := by
  rw [(settleIntake_eq s b o).2.1]
  cases hopen : (s.bank b).state.isOpen with
  | true =>
    rw [settle_open _ hopen, recordOutcome_placed, show (LastFrame.ofIntake _ o).outcome = o from rfl, ho]
    rfl
  | false => rw [settle_closed _ hopen]

theorem recordOutcome_otherEvents (s : State) (lf : LastFrame) {e : Event} (he : e ≠ .frameDropped) :
    (s.recordOutcome lf).li.events.getLsbD e.bit = s.li.events.getLsbD e.bit := by
  unfold State.recordOutcome
  split
  · rw [raise_getLsbD, decide_eq_false he, Bool.or_false]
  · split <;> rfl

theorem settleIntake_otherEvents (s : State) (b : BankId) (o : FrameOutcome) {e : Event} (he : e ≠ .frameDropped) :
    (s.settleIntake b o).li.events.getLsbD e.bit = s.li.events.getLsbD e.bit := by
  rw [(settleIntake_eq s b o).2.2]
  cases hopen : (s.bank b).state.isOpen with
  | true =>
    rw [settle_open _ hopen, recordOutcome_otherEvents _ _ he]
    rfl
  | false => rw [settle_closed _ hopen]

theorem releaseQueue_books (s : State) : s.releaseQueue.sc.placed = s.sc.placed ∧
    ∀ e : Event, e ≠ .frameDropped → s.releaseQueue.li.events.getLsbD e.bit = s.li.events.getLsbD e.bit := by
  unfold State.releaseQueue
  generalize s.pi.queue = l
  induction l generalizing s with
  | nil => exact ⟨rfl, fun _ _ => rfl⟩
  | cons b l ih =>
    obtain ⟨hplaced, hevents⟩ := ih (s.settleIntake b .droppedClosing)
    rw [List.foldl_cons]
    exact ⟨hplaced.trans (settleIntake_placed rfl), fun e he => (hevents e he).trans (settleIntake_otherEvents _ _ _ he)⟩

theorem markStoring_bank_parts (s : State) (m : DropMark) (b : BankId) : ((s.markStoring m).bank b).state = (s.bank b).state ∧
    ((s.markStoring m).bank b).serial = (s.bank b).serial ∧ ((s.markStoring m).bank b).cands = (s.bank b).cands := by
  unfold State.markStoring
  cases s.pi.port with
  | none => exact ⟨rfl, rfl, rfl⟩
  | some c =>
    dsimp only
    split
    · by_cases hb : b = c
      · subst hb
        rw [bank_setBank_same]
        exact ⟨rfl, rfl, rfl⟩
      · rw [bank_setBank_other _ _ hb]
        exact ⟨rfl, rfl, rfl⟩
    · exact ⟨rfl, rfl, rfl⟩

theorem Reported.enterClosing (h : u.sc.sweep = .sweeping) : Reported true noEvents u u.enterClosing := by
  obtain ⟨hplaced, hevents⟩ :=
    releaseQueue_books (({ u with sc := { u.sc with sweep := .closing } } : State).markStoring .closing)
  obtain ⟨hsc, hli⟩ := markStoring_sc_li ({ u with sc := { u.sc with sweep := .closing } } : State) .closing
  refine ⟨.inr ⟨rfl, h, enterClosing_sweep u, fun hqueue => ?_, fun hnodup hqueued => ?_⟩, ?_, enterClosing_setAside u,
    fun b hb => ?_, fun e he => ?_⟩
  · rw [enterClosing_noQueue hqueue]
  · obtain ⟨-, -, hqueue, hdropped, -⟩ := enterClosing_releases hnodup hqueued
    exact ⟨hqueue, hdropped⟩
  · exact hplaced.trans (by rw [hsc])
  · obtain ⟨hstate, hserial, hcands⟩ :=
      markStoring_bank_parts ({ u with sc := { u.sc with sweep := .closing } } : State) .closing b
    have hstands : u.enterClosing.bank b = _ := releaseQueue_bank_closed (by rw [hstate]; exact hb)
    rw [hstands]
    exact ⟨hstate, hserial, hcands⟩
  · rw [noEvents, Bool.or_false]
    exact (hevents e he).trans (congrArg (fun l : Link => l.events.getLsbD e.bit) hli)

end

end Sys2Proof.Machine

/-! ### The push report, part by part (R26, R137 to R141, R146, R147) -/

namespace Sys2Proof.Machine

/-! #### Marks (R137, R139, R140) -/

section

variable {u t : State}

/-- The CUE level a mark's action leaves. -/
def MarkAction.cue (a : MarkAction) (level : Bool) : Bool :=
  match a with
  | .cueSet => true
  | .cueClear => false
  | .cueToggle => !level
  | .signal | .finish => level

/-- A FINISH action is taken at once. -/
def State.finishFree (s : State) : Bool := !s.aborting && !s.rollingBack

/-- A FINISH action waits. -/
def State.finishDelayed (s : State) : Bool := s.rollingBack && !s.aborting

/-- A mark is armed and its value reached. -/
def State.fires (s : State) (unit : Bool) : Bool :=
  (s.mark unit).armed && decide ((s.mark unit).value ≤ s.sc.progress)

theorem evalMark_eq (s : State) (unit : Bool) : s.evalMark unit = if s.fires unit then
    ((s.disarmMark unit).raise (if unit then .mark1 else .mark0)).markAction (s.mark unit).action else s := rfl

theorem markFinish_free (h : u.finishFree = true) :
    u.markFinish = if u.sc.sweep = .sweeping then u.enterClosing else u := by
  simp only [State.finishFree, Bool.and_eq_true, Bool.not_eq_true'] at h
  simp only [State.markFinish, h, Bool.false_eq_true, if_false]

theorem markFinish_notFree (h : u.finishFree = false) :
    u.markFinish = { u with sc := { u.sc with markFinishWaits := u.sc.markFinishWaits || u.finishDelayed } } := by
  unfold State.finishFree at h
  cases habort : u.aborting with
  | true => simp [State.markFinish, State.finishDelayed, habort]
  | false =>
    have hrolling : u.rollingBack = true := by simpa [habort] using h
    simp [State.markFinish, State.finishDelayed, habort, hrolling]

theorem markFinish_reported (u : State) : Reported u.finishFree noEvents u u.markFinish := by
  cases hfree : u.finishFree with
  | true =>
    rw [markFinish_free hfree]
    split
    · exact .enterClosing ‹_›
    · exact .refl_of_not_sweeping ‹_›
  | false =>
    rw [markFinish_notFree hfree]
    exact .quiet ⟨rfl, rfl, rfl, rfl⟩ rfl rfl (.inl rfl) fun e => by rw [noEvents, Bool.or_false]

theorem markFinish_waits (u : State) :
    u.markFinish.sc.markFinishWaits = (u.sc.markFinishWaits || u.finishDelayed) := by
  cases hfree : u.finishFree with
  | true =>
    have hdelayed : u.finishDelayed = false := by
      unfold State.finishFree at hfree
      unfold State.finishDelayed
      cases hrolling : u.rollingBack <;> simp_all
    rw [markFinish_free hfree, hdelayed, Bool.or_false]
    split <;> simp
  | false => rw [markFinish_notFree hfree]

theorem markAction_reported (u : State) (a : MarkAction) :
    Reported (decide (a = .finish) && u.finishFree) noEvents u (u.markAction a) := by
  cases a with
  | finish => exact markFinish_reported u
  | signal => exact .refl u
  | cueSet | cueClear | cueToggle =>
    exact .quiet ⟨rfl, rfl, rfl, rfl⟩ rfl rfl (.inl rfl) fun e => by rw [noEvents, Bool.or_false]; rfl

theorem markAction_cue (u : State) (a : MarkAction) : (u.markAction a).sc.cue = a.cue u.sc.cue := by
  cases a with
  | finish =>
    show u.markFinish.sc.cue = _
    simp [MarkAction.cue]
  | signal | cueSet | cueClear | cueToggle => rfl

theorem markAction_waits (u : State) (a : MarkAction) :
    (u.markAction a).sc.markFinishWaits = (u.sc.markFinishWaits || (decide (a = .finish) && u.finishDelayed)) := by
  cases a with
  | finish => exact markFinish_waits u
  | signal | cueSet | cueClear | cueToggle => exact (Bool.or_false _).symm

theorem disarmMark_finish (u : State) (unit : Bool) (e : Event) :
    ((u.disarmMark unit).raise e).finishFree = u.finishFree ∧
    ((u.disarmMark unit).raise e).finishDelayed = u.finishDelayed := by
  cases unit <;> exact ⟨rfl, rfl⟩

/-- The event of a mark unit. -/
def markEvent (unit : Bool) : Event := if unit then .mark1 else .mark0

theorem disarmMark_reported (u : State) (unit : Bool) : Reported false noEvents u (u.disarmMark unit) := by
  cases unit <;> exact .quiet ⟨rfl, rfl, rfl, rfl⟩ rfl rfl (.inl rfl) fun e => by rw [noEvents, Bool.or_false]; rfl

theorem Reported.congr {closes closes' : Bool} {raised raised' : Event → Bool} (h : Reported closes raised u t)
    (hcloses : closes = closes') (hraised : ∀ e, raised e = raised' e) : Reported closes' raised' u t := by
  obtain rfl := hcloses
  obtain rfl : raised = raised' := funext hraised
  exact h

theorem evalMark_reported (u : State) (unit : Bool) :
    Reported (u.fires unit && (decide ((u.mark unit).action = .finish) && u.finishFree))
      (fun e => u.fires unit && decide (e = markEvent unit)) u (u.evalMark unit) := by
  rw [evalMark_eq]
  cases hfires : u.fires unit with
  | false => exact (Reported.refl u).congr rfl fun _ => rfl
  | true =>
    have haction := markAction_reported ((u.disarmMark unit).raise (markEvent unit)) (u.mark unit).action
    rw [(disarmMark_finish u unit _).1] at haction
    refine (((disarmMark_reported u unit).trans (.raise _ (markEvent unit))).trans haction).congr ?_ fun e => ?_
    · simp
    · simp [noEvents]

theorem evalMark_cue (u : State) (unit : Bool) : (u.evalMark unit).sc.cue =
    if u.fires unit then (u.mark unit).action.cue u.sc.cue else u.sc.cue := by
  rw [evalMark_eq]
  split
  · rw [markAction_cue]
    cases unit <;> rfl
  · rfl

theorem evalMark_waits (u : State) (unit : Bool) : (u.evalMark unit).sc.markFinishWaits =
    (u.sc.markFinishWaits || (u.fires unit && (decide ((u.mark unit).action = .finish) && u.finishDelayed))) := by
  rw [evalMark_eq]
  cases u.fires unit with
  | false => simp
  | true =>
    rw [if_pos rfl, markAction_waits, (disarmMark_finish u unit _).2, Bool.true_and]
    cases unit <;> rfl

theorem evalMark_mark (u : State) (unit other : Bool) : (u.evalMark unit).mark other =
    if other = unit then { u.mark unit with armed := (u.mark unit).armed && !u.fires unit } else u.mark other := by
  have hkeeps (t : State) (a : MarkAction) : (t.markAction a).mark other = t.mark other := by
    cases other <;> simp [State.mark]
  rw [evalMark_eq]
  cases u.fires unit with
  | false =>
    rw [if_neg Bool.false_ne_true, Bool.not_false, Bool.and_true]
    split
    · rw [‹other = unit›]
    · rfl
  | true =>
    rw [if_pos rfl, hkeeps]
    cases other <;> cases unit <;> simp [State.mark, State.disarmMark, State.raise, State.driveEvents]

theorem evalMark_finish (u : State) (unit : Bool) : (u.evalMark unit).finishFree = u.finishFree ∧
    (u.evalMark unit).finishDelayed = u.finishDelayed := by
  have haborting : (u.evalMark unit).aborting = u.aborting := by simp [State.aborting]
  have hrolling : (u.evalMark unit).rollingBack = u.rollingBack := by simp [State.rollingBack]
  simp only [State.finishFree, State.finishDelayed, haborting, hrolling, and_self]

/-! #### The closure result (R146, R147) -/

/-- The push detects the closure. -/
def State.detects (s : State) (p : Pass) : Bool :=
  decide (p.how = .matched) && decide (s.sc.closure.state = .none) && p.closure.any fun t => t.reason.isNone

theorem detectClosure_eq {v : Serial} {t : ClosureTest} (h : u.sc.closure.state = .none) : u.detectClosure v t =
    if u.sc.sweep = .sweeping then
      (({ u with sc := { u.sc with closure :=
        { u.sc.closure with state := .detected, ce := t.ce, ry := t.ry, votes := t.votes, serial := v } } } : State).raise
          .closure).enterClosing
    else ({ u with sc := { u.sc with closure :=
      { u.sc.closure with state := .detected, ce := t.ce, ry := t.ry, votes := t.votes, serial := v } } } : State).raise
        .closure := if_pos h

theorem detectClosure_reported {v : Serial} {t : ClosureTest} (h : u.sc.closure.state = .none) :
    Reported true (fun e => decide (e = .closure)) u (u.detectClosure v t) := by
  rw [detectClosure_eq h]
  have hset : Reported false noEvents u { u with sc := { u.sc with closure :=
      { u.sc.closure with state := .detected, ce := t.ce, ry := t.ry, votes := t.votes, serial := v } } } :=
    .quiet ⟨rfl, rfl, rfl, rfl⟩ rfl rfl (.inl rfl) fun e => by rw [noEvents, Bool.or_false]
  split
  · refine ((hset.trans (.raise _ .closure)).trans (.enterClosing ‹_›)).congr rfl fun e => ?_
    simp [noEvents]
  · refine ((hset.trans (.raise _ .closure)).trans (.refl_of_not_sweeping (closes := true) ‹_›)).congr rfl fun e => ?_
    simp [noEvents]

theorem closureResult_none {p : Pass} (h : p.how ≠ .matched ∨ p.closure = none) : u.closureResult p = u := by
  unfold State.closureResult
  split
  · rename_i hhow hclosure
    obtain h | h := h
    · exact absurd hhow h
    · rw [h] at hclosure
      cases hclosure
  · rfl

theorem closureResult_met {p : Pass} {c : ClosureTest} (hhow : p.how = .matched) (hclosure : p.closure = some c)
    (hreason : c.reason = none) : u.closureResult p = u.detectClosure p.serial c := by
  unfold State.closureResult
  simp only [hhow, hclosure, hreason]

theorem closureResult_rejected {p : Pass} {c : ClosureTest} {r : ClosureReason} (hhow : p.how = .matched)
    (hclosure : p.closure = some c) (hreason : c.reason = some r) :
    u.closureResult p = u.rejectClosure p.serial c r := by
  unfold State.closureResult
  simp only [hhow, hclosure, hreason]

theorem detects_iff {p : Pass} {c : ClosureTest} (hclosure : p.closure = some c) : u.detects p = true ↔
    p.how = .matched ∧ u.sc.closure.state = .none ∧ c.reason = none := by
  simp [State.detects, hclosure, and_assoc]

theorem detects_false {p : Pass} (h : p.how ≠ .matched ∨ p.closure = none) : u.detects p = false := by
  obtain h | h := h <;> simp [State.detects, h]

/-- The closure result is none, a detection not taken, a detection taken, or a rejection. -/
theorem closureResult_cases (u : State) (p : Pass) :
    (u.closureResult p = u ∧ u.detects p = false ∧
      (∀ c r, p.how = .matched → p.closure = some c → c.reason ≠ some r)) ∨
    (∃ c, p.closure = some c ∧ c.reason = none ∧ u.sc.closure.state = .none ∧ u.detects p = true ∧
      u.closureResult p = u.detectClosure p.serial c) ∨
    (∃ c r, p.how = .matched ∧ p.closure = some c ∧ c.reason = some r ∧ u.detects p = false ∧
      u.closureResult p = u.rejectClosure p.serial c r) := by
  by_cases hhow : p.how = .matched
  · cases hclosure : p.closure with
    | none => exact .inl ⟨closureResult_none (.inr hclosure), detects_false (.inr hclosure), nofun⟩
    | some c =>
      cases hreason : c.reason with
      | none =>
        by_cases hstate : u.sc.closure.state = .none
        · exact .inr (.inl ⟨c, rfl, hreason, hstate, (detects_iff hclosure).mpr ⟨hhow, hstate, hreason⟩,
            closureResult_met hhow hclosure hreason⟩)
        · refine .inl ⟨(closureResult_met hhow hclosure hreason).trans (if_neg hstate), ?_, ?_⟩
          · exact Bool.not_eq_true _ ▸ fun h => hstate ((detects_iff hclosure).mp h).2.1
          · rintro _ r - ⟨⟩ h
            rw [hreason] at h
            cases h
      | some r =>
        refine .inr (.inr ⟨c, r, hhow, rfl, hreason, ?_, closureResult_rejected hhow hclosure hreason⟩)
        refine Bool.not_eq_true _ ▸ fun h => ?_
        rw [((detects_iff hclosure).mp h).2.2] at hreason
        cases hreason
  · exact .inl ⟨closureResult_none (.inl hhow), detects_false (.inl hhow), fun _ _ h => absurd h hhow⟩

theorem closureResult_reported (u : State) (p : Pass) :
    Reported (u.detects p) (fun e => u.detects p && decide (e = .closure)) u (u.closureResult p) := by
  obtain ⟨heq, hdetects, -⟩ | ⟨c, -, -, hstate, hdetects, heq⟩ | ⟨c, r, -, -, -, hdetects, heq⟩ :=
    closureResult_cases u p
  · rw [heq, hdetects]
    exact (Reported.refl u).congr rfl fun _ => rfl
  · rw [heq, hdetects]
    exact (detectClosure_reported hstate).congr rfl fun e => (Bool.true_and _).symm
  · rw [heq, hdetects]
    exact .quiet ⟨rfl, rfl, rfl, rfl⟩ rfl rfl (.inl rfl) fun e => (Bool.or_false _).symm

theorem closureResult_detected {p : Pass} {c : ClosureTest} (h : u.detects p = true) (hclosure : p.closure = some c) :
    (u.closureResult p).sc.closure = { u.sc.closure with
      state := .detected, ce := c.ce, ry := c.ry, votes := c.votes, serial := p.serial } := by
  obtain ⟨hhow, hstate, hreason⟩ := (detects_iff hclosure).mp h
  rw [closureResult_met hhow hclosure hreason, detectClosure_eq hstate]
  split
  · exact (State.enterClosing_parts _).2.2.2.2.2.2.2.2.2.2.2.1
  · rfl

theorem closureResult_kept {p : Pass} (h : u.detects p = false)
    (hnot : p.how ≠ .matched ∨ p.closure = none ∨ ∃ c, p.closure = some c ∧ c.reason = none) :
    (u.closureResult p).sc.closure = u.sc.closure := by
  obtain ⟨heq, -⟩ | ⟨c, -, -, -, hdetects, -⟩ | ⟨c, r, hhow, hclosure, hreason, -⟩ := closureResult_cases u p
  · rw [heq]
  · rw [h] at hdetects
    cases hdetects
  · obtain hne | hnone | ⟨c', hclosure', hreason'⟩ := hnot
    · exact absurd hhow hne
    · rw [hclosure] at hnone
      cases hnone
    · rw [hclosure] at hclosure'
      cases hclosure'
      rw [hreason] at hreason'
      cases hreason'

end

/-! #### The whole report -/

section

variable {u : State} {p : Pass}

/-- A mark fires at a progress. -/
def Mark.firesAt (m : Mark) (n : Nat) : Bool := m.armed && decide (m.value ≤ n)

/-- Progress at a placement (R137). -/
def State.progressAt (s : State) (x : Int) : Nat := min 65535 (s.geo.columnU x + s.geo.fw).toNat

/-- A mark's firing acts as FINISH. -/
def State.marksFinish (s : State) (n : Nat) : Bool :=
  s.sc.mark0.firesAt n && decide (s.sc.mark0.action = .finish) ||
    s.sc.mark1.firesAt n && decide (s.sc.mark1.action = .finish)

/-- The report after its two marks and PACE. -/
def State.marksDone (s : State) (p : Pass) : State :=
  (((s.setProgress p.x).evalMark false).evalMark true).drivePace p.step

theorem pushReport_eq (u : State) (p : Pass) : u.pushReport p = (u.marksDone p).closureResult p := rfl

theorem firesFirst (u : State) (p : Pass) :
    (u.setProgress p.x).fires false = u.sc.mark0.firesAt (u.progressAt p.x) := rfl

theorem firesSecond (u : State) (p : Pass) :
    ((u.setProgress p.x).evalMark false).fires true = u.sc.mark1.firesAt (u.progressAt p.x) := by
  have hmark : ((u.setProgress p.x).evalMark false).mark true = u.sc.mark1 := by
    rw [evalMark_mark]
    rfl
  have hprogress : ((u.setProgress p.x).evalMark false).sc.progress = u.progressAt p.x := by
    rw [(State.evalMark_parts _ _).2.2.1]
    rfl
  rw [State.fires, hmark, hprogress]
  rfl

theorem markSecond (u : State) (p : Pass) : ((u.setProgress p.x).evalMark false).mark true = u.sc.mark1 := by
  rw [evalMark_mark]
  rfl

theorem marksDone_closure (u : State) (p : Pass) : (u.marksDone p).sc.closure = u.sc.closure := by
  simp [State.marksDone]

theorem marksDone_detects (u : State) (p : Pass) : (u.marksDone p).detects p = u.detects p := by
  rw [State.detects, marksDone_closure]
  rfl

theorem pushReport_reported (u : State) (p : Pass) :
    Reported (u.marksFinish (u.progressAt p.x) && u.finishFree || u.detects p)
      (fun e => u.sc.mark0.firesAt (u.progressAt p.x) && decide (e = .mark0) ||
        u.sc.mark1.firesAt (u.progressAt p.x) && decide (e = .mark1) || u.detects p && decide (e = .closure))
      u (u.pushReport p) := by
  have hprogress : Reported false noEvents u (u.setProgress p.x) :=
    .quiet ⟨rfl, rfl, rfl, rfl⟩ rfl rfl (.inl rfl) fun e => (Bool.or_false _).symm
  have hpace (t : State) : Reported false noEvents t (t.drivePace p.step) :=
    .quiet ⟨rfl, rfl, rfl, rfl⟩ rfl rfl (.inl rfl) fun e => (Bool.or_false _).symm
  have hfirst := evalMark_reported (u.setProgress p.x) false
  have hsecond := evalMark_reported ((u.setProgress p.x).evalMark false) true
  have hresult := closureResult_reported (u.marksDone p) p
  rw [marksDone_detects] at hresult
  rw [firesSecond, markSecond, (evalMark_finish _ _).1] at hsecond
  rw [firesFirst] at hfirst
  refine ((((hprogress.trans hfirst).trans hsecond).trans (hpace _)).trans hresult).congr ?_ fun e => ?_
  · show (_ || _ && (decide (u.sc.mark0.action = .finish) && u.finishFree) || _ && (_ && u.finishFree) || _ || _) = _
    simp only [State.marksFinish, Bool.false_or, Bool.or_false, Bool.and_or_distrib_right, Bool.and_assoc]
  · simp [noEvents, markEvent]

theorem pushReport_cue (u : State) (p : Pass) : (u.pushReport p).sc.cue =
    if u.sc.mark1.firesAt (u.progressAt p.x) then u.sc.mark1.action.cue
      (if u.sc.mark0.firesAt (u.progressAt p.x) then u.sc.mark0.action.cue u.sc.cue else u.sc.cue)
    else if u.sc.mark0.firesAt (u.progressAt p.x) then u.sc.mark0.action.cue u.sc.cue else u.sc.cue := by
  have hclosure : (u.pushReport p).sc.cue = ((u.setProgress p.x).evalMark false |>.evalMark true).sc.cue := by
    simp [pushReport_eq, State.marksDone]
  rw [hclosure, evalMark_cue, evalMark_cue, firesSecond, markSecond, firesFirst]
  rfl

theorem pushReport_waits (u : State) (p : Pass) : (u.pushReport p).sc.markFinishWaits =
    (u.sc.markFinishWaits || (u.marksFinish (u.progressAt p.x) && u.finishDelayed)) := by
  have hclosure : (u.pushReport p).sc.markFinishWaits =
      ((u.setProgress p.x).evalMark false |>.evalMark true).sc.markFinishWaits := by
    simp [pushReport_eq, State.marksDone]
  rw [hclosure, evalMark_waits, evalMark_waits, firesSecond, markSecond, firesFirst, (evalMark_finish _ _).2]
  show (u.sc.markFinishWaits || _ && (decide (u.sc.mark0.action = .finish) && u.finishDelayed) ||
    _ && (_ && u.finishDelayed)) = _
  simp only [State.marksFinish, Bool.and_or_distrib_right, Bool.and_assoc, Bool.or_assoc]

theorem pushReport_marks (u : State) (p : Pass) :
    (u.pushReport p).sc.mark0 =
      { u.sc.mark0 with armed := u.sc.mark0.armed && !u.sc.mark0.firesAt (u.progressAt p.x) } ∧
    (u.pushReport p).sc.mark1 =
      { u.sc.mark1 with armed := u.sc.mark1.armed && !u.sc.mark1.firesAt (u.progressAt p.x) } := by
  have hfirst : (u.pushReport p).sc.mark0 = ((u.setProgress p.x).evalMark false |>.evalMark true).mark false := by
    simp [pushReport_eq, State.marksDone, State.mark]
  have hsecond : (u.pushReport p).sc.mark1 = ((u.setProgress p.x).evalMark false |>.evalMark true).mark true := by
    simp [pushReport_eq, State.marksDone, State.mark]
  rw [hfirst, hsecond]
  constructor
  · rw [evalMark_mark, if_neg Bool.false_ne_true, evalMark_mark, if_pos rfl, firesFirst]
    rfl
  · rw [evalMark_mark, if_pos rfl, firesSecond, markSecond]

theorem pushReport_measures (u : State) (p : Pass) : (u.pushReport p).sc.progress = u.progressAt p.x ∧
    (u.pushReport p).sc.pace = decide ((u.prm.paceLimit : Int) < p.step) := by
  have hprogress : (u.pushReport p).sc.progress = (u.setProgress p.x).sc.progress := by
    simp [pushReport_eq, State.marksDone]
  have hpace : (u.pushReport p).sc.pace = (u.marksDone p).sc.pace := by simp [pushReport_eq]
  refine ⟨hprogress, hpace.trans ?_⟩
  have hprm : ((u.setProgress p.x).evalMark false |>.evalMark true).prm = u.prm := by simp
  show decide (((((u.setProgress p.x).evalMark false).evalMark true).prm.paceLimit : Int) < p.step) = _
  rw [hprm]

end

end Sys2Proof.Machine

/-! ### PUSH (R22, R81, R92 to R95, R113, R123, R125, R137 to R141, R146, R147) -/

namespace Sys2Proof.Machine

section

variable {s : State} {p : Pass} {b : BankId} {a : Bool}

/-- The sweep as the push finds it, the origin's taking it from ARMED to SWEEPING. -/
def State.beganSweep (s : State) (p : Pass) : SweepState :=
  if p.how = .origin ∧ s.sc.sweep = .armed then .sweeping else s.sc.sweep

/-- The state with the record, bank and outcome of a push entered, before its report. -/
def State.entered (s : State) (p : Pass) (b : BankId) : State :=
  ({ s with
    pi := { s.pi with banks := s.pi.banks.set b { s.bank b with state := .placed } }
    pw := p.placement :: s.pw
    sc := { s.sc with
      sweep := s.beganSweep p, placed := s.sc.placed + 1#32, last := p.lastFrame p.how.outcome } } : State).raise
    .framePlaced

theorem originSweeping_eq (s : State) (p : Pass) :
    s.originSweeping p = { s with sc := { s.sc with sweep := s.beganSweep p } } := by
  unfold State.originSweeping State.beganSweep
  split <;> rfl

theorem enterPush_eq (s : State) (p : Pass) (b : BankId) :
    s.enterPush p b = ((s.entered p b).pushReport p).setPass (some { p with
      bank := none, pushed := true, stage := if p.how = .matched then .footprint else .opening }) := by
  have hentered : (((({ s.originSweeping p with pw := p.placement :: (s.originSweeping p).pw } : State).setBank b
      { (s.originSweeping p).bank b with state := .placed }).recordOutcome (p.lastFrame p.how.outcome)).raise
        .framePlaced) = s.entered p b := by
    rw [originSweeping_eq]
    unfold State.recordOutcome State.entered
    cases p.how <;> rfl
  rw [← hentered]
  rfl

theorem entered_bank_same (s : State) (p : Pass) (b : BankId) :
    (s.entered p b).bank b = { s.bank b with state := .placed } := bank_setBank_same s b _

theorem entered_bank_other (s : State) (p : Pass) {b c : BankId} (h : c ≠ b) :
    (s.entered p b).bank c = s.bank c := bank_setBank_other s _ h

theorem entered_finish (s : State) (p : Pass) (b : BankId) : (s.entered p b).finishFree = s.finishFree ∧
    (s.entered p b).finishDelayed = s.finishDelayed := ⟨rfl, rfl⟩

theorem entered_events (s : State) (p : Pass) (b : BankId) (e : Event) :
    (s.entered p b).li.events.getLsbD e.bit = (s.li.events.getLsbD e.bit || decide (e = .framePlaced)) :=
  raise_getLsbD _ _ _

/-! #### When a push enters -/

theorem push_due (hpass : s.me.pass = some p) (hstage : p.stage = .push a) (hbank : p.bank = some b)
    (hmatching : (s.bank b).state = .matching) (hsaving : s.saving = false) :
    exec .push s = .next (s.takePush p b a) := by
  show execPush s = _
  simp only [execPush, hpass, hstage, hsaving, Bool.false_eq_true, if_false, State.pushMatching, hbank, hmatching,
    if_true]

theorem push_saving (hpass : s.me.pass = some p) (hstage : p.stage = .push a) (hsaving : s.saving = true) :
    exec .push s = .next s := by
  show execPush s = _
  simp only [execPush, hpass, hstage, hsaving, if_true]

theorem overflows_false (hroom : s.pw.length < 8) (hnew : ∀ r ∈ s.pw, r.serial ≠ p.serial) :
    s.overflows p.serial = false := by
  rw [← Bool.not_eq_true, overflows_iff, not_or]
  refine ⟨fun h => ?_, by rw [State.serials, List.length_map]; omega⟩
  obtain ⟨r, hr, heq⟩ := List.mem_map.mp h
  exact hnew r hr heq

theorem overflows_true (h : (∃ r ∈ s.pw, r.serial = p.serial) ∨ 8 ≤ s.pw.length) : s.overflows p.serial = true := by
  rw [overflows_iff]
  refine h.imp (fun ⟨r, hr, heq⟩ => List.mem_map.mpr ⟨r, hr, heq⟩) fun hfull => ?_
  rwa [State.serials, List.length_map]

theorem takePush_room (h : s.overflows p.serial = false) : s.takePush p b a = s.enterPush p b := by
  simp only [State.takePush, h, Bool.false_eq_true, if_false]

theorem takePush_accepted (h : s.overflows p.serial = true) (hblock : s.insideBlock = false) :
    s.takePush p b true = (s.forceVictim p.serial).enterPush p b := by
  simp only [State.takePush, h, hblock, Bool.false_eq_true, if_false, if_true]

theorem takePush_holds (h : s.overflows p.serial = true) (hsweep : s.sc.sweep = .sweeping)
    (hmask : s.masked .windowOverflow = false) :
    s.takePush p b false = s.heldWith .windowOverflow { p with stage := .pushHeld } := by
  obtain ⟨hholds, hstate⟩ := report_holds (p := { p with stage := .pushHeld }) hsweep hmask
  simp only [State.takePush, h, hholds, hstate, Bool.false_eq_true, if_false, if_true]

theorem takePush_default (h : s.overflows p.serial = true) (hdefault : s.defaults .windowOverflow) :
    s.takePush p b false =
      if s.insideBlock then s else ((s.setFlag .windowOverflow).forceVictim p.serial).enterPush p b := by
  simp only [State.takePush, h, report_default hdefault, Bool.false_eq_true, if_false, if_true]

/-! #### What a push leaves -/

theorem matcher_eq_hint {m n : Matcher} (hmotion : m.motion = n.motion) (hmode : m.mode = n.mode)
    (hpredicted : m.predicted = n.predicted) : ∀ q, { m with pass := q } = { n with hint := m.hint, pass := q } := by
  intro q
  rw [hmotion, hmode, hpredicted]

theorem enterPush_me (s : State) (p : Pass) (b : BankId) : (s.enterPush p b).me =
    { s.me with
      hint := (s.enterPush p b).me.hint
      pass := some { p with
        bank := none, pushed := true, stage := if p.how = .matched then .footprint else .opening } } := by
  rw [enterPush_eq]
  obtain ⟨-, -, -, -, -, -, -, -, -, -, -, -, -, -, hmotion, hmode, hpredicted, -⟩ :=
    State.pushReport_parts (s.entered p b) p
  exact matcher_eq_hint hmotion hmode hpredicted _

theorem enterPush_reported (s : State) (p : Pass) (b : BankId) :
    Reported (s.marksFinish (s.progressAt p.x) && s.finishFree || s.detects p)
      (fun e => s.sc.mark0.firesAt (s.progressAt p.x) && decide (e = .mark0) ||
        s.sc.mark1.firesAt (s.progressAt p.x) && decide (e = .mark1) || s.detects p && decide (e = .closure))
      (s.entered p b) (s.enterPush p b) := by
  rw [enterPush_eq]
  have h := pushReport_reported (s.entered p b) p
  exact ⟨h.sweep.imp (fun ⟨hnot, hstays⟩ => ⟨hnot, hstays.sweep, hstays.pi, hstays.last, hstays.dropped⟩)
    fun ⟨hcloses, hclosed⟩ => ⟨hcloses, hclosed.was, hclosed.now, hclosed.last, hclosed.released⟩,
    h.placed, h.setAside, h.bank, h.events⟩

theorem enterPush_bank (s : State) (p : Pass) (b : BankId) : ((s.enterPush p b).bank b).state = .placed ∧
    ((s.enterPush p b).bank b).serial = (s.bank b).serial ∧ ((s.enterPush p b).bank b).cands = (s.bank b).cands := by
  have h := (enterPush_reported s p b).bank b
  rw [entered_bank_same] at h
  exact h rfl

theorem enterPush_pw (s : State) (p : Pass) (b : BankId) : (s.enterPush p b).pw = p.placement :: s.pw := by
  rw [enterPush_eq]
  simp [State.setPass, State.entered]

theorem enterPush_sc (s : State) (p : Pass) (b : BankId) :
    (s.enterPush p b).sc = ((s.entered p b).pushReport p).sc := by rw [enterPush_eq]; rfl

theorem enterPush_flags (s : State) (p : Pass) (b : BankId) : (s.enterPush p b).sc.flags = s.sc.flags ∧
    (s.enterPush p b).sc.masks = s.sc.masks ∧ (s.enterPush p b).sc.started = s.sc.started := by
  rw [enterPush_sc]
  obtain ⟨hflags, hmasks, -, -, -, hstarted, -⟩ := State.pushReport_parts (s.entered p b) p
  exact ⟨hflags, hmasks, hstarted⟩

/-! #### The victim of a full window (R93, R94) -/

/-- The serial a push without room has retired: the clashing one, else that at depth 7. -/
def State.victimSerial (s : State) (v : Serial) : Serial :=
  if ∃ r ∈ s.pw, r.serial = v then v else (s.pw[7]?.map (·.serial)).getD v

theorem forceVictim_eq (h : (∃ r ∈ s.pw, r.serial = p.serial) ∨ 8 ≤ s.pw.length) :
    s.forceVictim p.serial = s.forceRetire (s.victimSerial p.serial) := by
  unfold State.forceVictim State.victim State.victimSerial
  by_cases hclash : ∃ r ∈ s.pw, r.serial = p.serial
  · have hany : (s.pw.any fun r => decide (r.serial = p.serial)) = true := by simpa using hclash
    rw [if_pos hany, if_pos hclash]
  · have hany : ¬ (s.pw.any fun r => decide (r.serial = p.serial)) = true := by simpa using hclash
    have hlt : 7 < s.pw.length := h.resolve_left hclash
    rw [if_neg hany, if_neg hclash, List.getElem?_eq_getElem hlt]
    rfl

theorem forceRetire_coverage (s : State) (v : Serial) : (s.forceRetire v).bu = { s.bu with
    coverage := s.bu.coverage.map fun c => if c = .opened v then .committed else c } := by
  have hcov : (s.forceRetire v).bu.coverage =
      s.bu.coverage.map fun c => if c = .opened v then .committed else c := by
    refine List.ext_getElem? fun k => ?_
    show (List.mapIdx _ s.bu.coverage)[k]? = _
    rw [List.getElem?_mapIdx, List.getElem?_map]
    cases s.bu.coverage[k]? with
    | none => rfl
    | some c =>
      cases c with
      | blank | committed => rfl
      | opened o =>
        by_cases ho : o = v <;> simp [ho]
  rw [← hcov]
  rfl

theorem ownedIn_commit_other (cov : List Coverage) {v w : Serial} (h : w ≠ v) :
    ownedIn (cov.map fun c => if c = .opened v then .committed else c) w = ownedIn cov w := by
  unfold ownedIn
  rw [List.filter_map, List.length_map]
  congr 1
  refine List.filter_congr fun c _ => ?_
  by_cases hc : c = .opened v
  · subst hc
    simp [Coverage.owner, h.symm]
  · simp [hc]

/-- A change of the records of one serial alone is lost with them. -/
theorem filter_map_others {l : List Placement} {v : Serial} {f : Placement → Placement}
    (hserial : ∀ r, (f r).serial = r.serial) (hother : ∀ r, r.serial ≠ v → f r = r) :
    (l.map f).filter (fun r => !decide (r.serial = v)) = l.filter fun r => decide (r.serial ≠ v) := by
  induction l with
  | nil => rfl
  | cons r l ih =>
    rw [List.map_cons, List.filter_cons, List.filter_cons, ih, hserial]
    by_cases h : r.serial = v
    · simp [h]
    · simp [h, hother r h]

/-- A force-retirement takes the record away and leaves the others. -/
theorem forceRetire_eq (s : State) (v : Serial) : s.forceRetire v = { s with
    pw := s.pw.filter fun r => decide (r.serial ≠ v)
    bu := { s.bu with coverage := s.bu.coverage.map fun c => if c = .opened v then .committed else c } } := by
  have hpw : (s.forceRetire v).pw = s.pw.filter fun r => decide (r.serial ≠ v) := by
    have hcov := congrArg Blender.coverage (forceRetire_coverage s v)
    show ((s.pw.map fun r => { r with
      owned := r.owned - (ownedIn s.bu.coverage r.serial - ownedIn (s.forceRetire v).bu.coverage r.serial) }).filter
        fun r => !decide (r.serial = v)) = _
    refine filter_map_others (fun _ => rfl) fun r hne => ?_
    rw [hcov, ownedIn_commit_other _ hne, Nat.sub_self, Nat.sub_zero]
  rw [← hpw, ← forceRetire_coverage]
  rfl

end

end Sys2Proof.Machine

/-! ### PUSH settled (R22, R81, R92 to R95, R113, R123, R125, R137 to R141, R146, R147) -/

namespace Sys2Proof.Machine

section

variable {s : State} {p : Pass} {b : BankId}

theorem enterPush_counts (s : State) (p : Pass) (b : BankId) :
    (s.enterPush p b).sc.placed = s.sc.placed + 1#32 ∧ (s.enterPush p b).sc.setAside = s.sc.setAside :=
  ⟨(enterPush_reported s p b).placed, (enterPush_reported s p b).setAside⟩

theorem enterPush_measures (s : State) (p : Pass) (b : BankId) :
    (s.enterPush p b).sc.progress = s.progressAt p.x ∧
    ((s.enterPush p b).sc.pace = true ↔ (s.prm.paceLimit : Int) < p.step) := by
  obtain ⟨hprogress, hpace⟩ := pushReport_measures (s.entered p b) p
  rw [enterPush_sc, hprogress, hpace, decide_eq_true_iff]
  exact ⟨rfl, Iff.rfl⟩

theorem enterPush_framePlaced (s : State) (p : Pass) (b : BankId) :
    (s.enterPush p b).li.events.getLsbD Event.framePlaced.bit = true := by
  rw [(enterPush_reported s p b).events .framePlaced (by decide), entered_events]
  simp

/-- The origin's push makes the sweep SWEEPING where no mark acts as FINISH. -/
theorem enterPush_originSweeping (hhow : p.how = .origin) (harmed : s.sc.sweep = .armed)
    (hmark0 : s.sc.mark0.action ≠ .finish) (hmark1 : s.sc.mark1.action ≠ .finish) :
    (s.enterPush p b).sc.sweep = .sweeping := by
  have hcloses : (s.marksFinish (s.progressAt p.x) && s.finishFree || s.detects p) = false := by
    simp [State.marksFinish, State.detects, hmark0, hmark1, hhow]
  obtain ⟨-, hstays⟩ | ⟨hc, -⟩ := (enterPush_reported s p b).sweep
  · rw [hstays.sweep]
    exact if_pos ⟨hhow, harmed⟩
  · rw [hcloses] at hc
    cases hc

end

/-- Settles O47. -/
theorem pushEntersTheWindow : Obligations.PushEntersTheWindow := by
  intro s p b a hpass hstage hbank hmatching
  refine ⟨push_saving hpass hstage, fun hsaving => ⟨fun hroom hnew => ?_, fun hfull ha => ⟨?_, ?_, ?_⟩⟩⟩
  · have hexec : exec .push s = .next (s.enterPush p b) := by
      rw [push_due hpass hstage hbank hmatching hsaving, takePush_room (overflows_false hroom hnew)]
    obtain ⟨hstate, hserial, hcands⟩ := enterPush_bank s p b
    obtain ⟨hplaced, hsetAside⟩ := enterPush_counts s p b
    obtain ⟨hprogress, hpace⟩ := enterPush_measures s p b
    obtain ⟨hflags, hmasks, hstarted⟩ := enterPush_flags s p b
    obtain ⟨hgeo, hprm, hmem, -, hltc, hbu, hdr, hcx, heu, -⟩ := State.enterPush_keeps s p b
    exact ⟨_, hexec, enterPush_pw s p b, hstate, hserial, hcands, hplaced, hstarted, hsetAside, hprogress, hpace,
      enterPush_framePlaced s p b, enterPush_me s p b, enterPush_originSweeping, hbu, hltc, hmem, hcx, heu, hdr, hgeo,
      hprm, hflags, hmasks⟩
  · intro hsweep hmask marked hmarked
    subst ha
    rw [push_due hpass hstage hbank hmatching hsaving, takePush_holds (overflows_true hfull) hsweep hmask, hmarked]
    rfl
  · intro hdefault ⟨q, a', rest, n, hq, hq'⟩
    subst ha
    rw [push_due hpass hstage hbank hmatching hsaving, takePush_default (overflows_true hfull) hdefault.symm,
      if_pos (insideBlock_true hq hq')]
  · intro hdefault hblock v hv
    subst ha
    have hexec : exec .push s =
        .next (((s.setFlag .windowOverflow).forceRetire (s.victimSerial p.serial)).enterPush p b) := by
      rw [push_due hpass hstage hbank hmatching hsaving, takePush_default (overflows_true hfull) hdefault.symm,
        insideBlock_false hblock, forceVictim_eq (s := s.setFlag .windowOverflow) hfull]
      rfl
    obtain rfl : v = s.victimSerial p.serial := hv
    generalize s.victimSerial p.serial = v at hexec ⊢
    obtain ⟨u, hu⟩ : ∃ u, u = (s.setFlag .windowOverflow).forceRetire v := ⟨_, rfl⟩
    rw [← hu] at hexec
    have hu' := hu.trans (forceRetire_eq _ v)
    obtain ⟨-, -, hmem, -, hltc, hbu, -⟩ := State.enterPush_keeps u p b
    refine ⟨_, hexec, ?_, ?_, ?_, ?_, ?_, ?_, hltc.trans (by rw [hu']; rfl), hmem.trans (by rw [hu']; rfl)⟩
    · rw [enterPush_pw, List.map_cons, hu', List.filter_map]
      rfl
    · rw [hbu, hu']
      rfl
    · rw [hbu, hu']
      rfl
    · rw [(enterPush_flags u p b).1, hu']
      rfl
    · rw [(enterPush_counts u p b).1, hu']
      rfl
    · exact (enterPush_bank u p b).1

/-! #### What the push report fires -/

section

variable {s : State} {p : Pass} {b : BankId}

/-- The push report closes the sweep. -/
def State.pushCloses (s : State) (p : Pass) : Bool :=
  s.marksFinish (s.progressAt p.x) && s.finishFree || s.detects p

theorem enterPush_sweep (s : State) (p : Pass) (b : BankId) : (s.enterPush p b).sc.sweep =
    if s.beganSweep p = .sweeping ∧ s.pushCloses p = true then .closing else s.beganSweep p := by
  obtain ⟨hnot, hstays⟩ | ⟨hcloses, hclosed⟩ := (enterPush_reported s p b).sweep
  · exact hstays.sweep.trans (if_neg hnot).symm
  · exact hclosed.now.trans (if_pos ⟨hclosed.was, hcloses⟩).symm

/-- The frame's outcome stands in the last frame record unless frames are released behind it. -/
theorem enterPush_last (h : (s.enterPush p b).sc.sweep = s.beganSweep p ∨ s.pi.queue = []) :
    (s.enterPush p b).sc.last = p.lastFrame p.how.outcome := by
  obtain ⟨-, hstays⟩ | ⟨-, hclosed⟩ := (enterPush_reported s p b).sweep
  · exact hstays.last
  · refine hclosed.last (h.resolve_left fun hsame => ?_)
    rw [hclosed.now, show s.beganSweep p = .sweeping from hclosed.was] at hsame
    cases hsame

theorem enterPush_releases (h : (s.enterPush p b).sc.sweep ≠ s.beganSweep p) (hmatching : (s.bank b).state = .matching)
    (hnodup : s.pi.queue.Nodup) (hqueued : ∀ c ∈ s.pi.queue, (s.bank c).state = .queued) :
    (s.enterPush p b).pi.queue = [] ∧
      (s.enterPush p b).sc.dropped = s.sc.dropped + BitVec.ofNat 32 s.pi.queue.length := by
  obtain ⟨-, hstays⟩ | ⟨-, hclosed⟩ := (enterPush_reported s p b).sweep
  · exact absurd hstays.sweep h
  · refine hclosed.released hnodup fun c hc => ?_
    have hstate := hqueued c hc
    have hne : c ≠ b := by
      rintro rfl
      rw [hmatching] at hstate
      cases hstate
    rw [entered_bank_other s p hne, hstate]

theorem enterPush_marks (s : State) (p : Pass) (b : BankId) :
    (s.enterPush p b).sc.mark0 =
      { s.sc.mark0 with armed := s.sc.mark0.armed && !s.sc.mark0.firesAt (s.progressAt p.x) } ∧
    (s.enterPush p b).sc.mark1 =
      { s.sc.mark1 with armed := s.sc.mark1.armed && !s.sc.mark1.firesAt (s.progressAt p.x) } := by
  rw [enterPush_sc]
  exact pushReport_marks (s.entered p b) p

theorem enterPush_cue (s : State) (p : Pass) (b : BankId) : (s.enterPush p b).sc.cue =
    if s.sc.mark1.firesAt (s.progressAt p.x) then s.sc.mark1.action.cue
      (if s.sc.mark0.firesAt (s.progressAt p.x) then s.sc.mark0.action.cue s.sc.cue else s.sc.cue)
    else if s.sc.mark0.firesAt (s.progressAt p.x) then s.sc.mark0.action.cue s.sc.cue else s.sc.cue := by
  rw [enterPush_sc]
  exact pushReport_cue (s.entered p b) p

theorem enterPush_waits (s : State) (p : Pass) (b : BankId) : (s.enterPush p b).sc.markFinishWaits =
    (s.sc.markFinishWaits || (s.marksFinish (s.progressAt p.x) && s.finishDelayed)) := by
  rw [enterPush_sc]
  exact pushReport_waits (s.entered p b) p

theorem enterPush_events (s : State) (p : Pass) (b : BankId) :
    (s.enterPush p b).li.events.getLsbD 7 = (s.li.events.getLsbD 7 || s.sc.mark0.firesAt (s.progressAt p.x)) ∧
    (s.enterPush p b).li.events.getLsbD 8 = (s.li.events.getLsbD 8 || s.sc.mark1.firesAt (s.progressAt p.x)) ∧
    (s.enterPush p b).li.events.getLsbD 1 = (s.li.events.getLsbD 1 || s.detects p) := by
  have hevents (e : Event) (hdropped : e ≠ .frameDropped) (hplaced : e ≠ .framePlaced) :=
    (enterPush_reported s p b).events e hdropped
  simp only [entered_events] at hevents
  have h7 := hevents .mark0 (by decide) (by decide)
  have h8 := hevents .mark1 (by decide) (by decide)
  have h1 := hevents .closure (by decide) (by decide)
  simp only [Event.bit, reduceCtorEq, decide_false, decide_true, Bool.or_false, Bool.and_true, Bool.and_false,
    Bool.false_or] at h7 h8 h1
  exact ⟨h7, h8, h1⟩

/-- The closure record behind the push is what the closure result makes of it. -/
theorem enterPush_closure (s : State) (p : Pass) (b : BankId) : (s.enterPush p b).sc.closure =
    (((s.entered p b).marksDone p).closureResult p).sc.closure := by
  rw [enterPush_sc, pushReport_eq]

theorem rejectClosure_closure (u : State) (v : Serial) (c : ClosureTest) (r : ClosureReason) :
    (u.rejectClosure v c r).sc.closure = { u.sc.closure with
      rejections := min 255 (u.sc.closure.rejections + 1), last := some ⟨v, c.ce, c.ry, c.votes, r⟩ } := rfl

theorem entered_detects (s : State) (p : Pass) (b : BankId) :
    ((s.entered p b).marksDone p).detects p = s.detects p := marksDone_detects _ p

theorem entered_closure (s : State) (p : Pass) (b : BankId) :
    ((s.entered p b).marksDone p).sc.closure = s.sc.closure := marksDone_closure _ p

/-- An accepted push without room is the push behind the victim's force-retirement (R93, R95). -/
theorem push_accepted_eq {v : Serial} (hpass : s.me.pass = some p) (hstage : p.stage = .push true)
    (hbank : p.bank = some b) (hmatching : (s.bank b).state = .matching) (hsaving : s.saving = false)
    (hserials : SerialsOk s.serials) (hfull : (∃ r ∈ s.pw, r.serial = p.serial) ∨ 8 ≤ s.pw.length)
    (hblock : s.insideBlock = false) (hv : v = s.victimSerial p.serial) :
    exec .push s = exec .push { s with
      pw := s.pw.filter fun r => decide (r.serial ≠ v)
      bu := { s.bu with coverage := s.bu.coverage.map fun c => if c = .opened v then .committed else c } } := by
  have hvictim := (forceVictim_eq hfull).trans ((congrArg s.forceRetire hv).symm.trans (forceRetire_eq s v))
  rw [push_due hpass hstage hbank hmatching hsaving, takePush_accepted (overflows_true hfull) hblock]
  have hroom := forceVictim_room hserials (overflows_true hfull)
  rw [hvictim] at hroom ⊢
  generalize hu : ({ s with
    pw := s.pw.filter fun r => decide (r.serial ≠ v)
    bu := { s.bu with coverage := s.bu.coverage.map fun c => if c = .opened v then .committed else c } } : State) = u
    at hroom ⊢
  have hme : u.me = s.me := by rw [← hu]
  have hpi : u.pi = s.pi := by rw [← hu]
  have hcx : u.cx = s.cx := by rw [← hu]
  rw [push_due (by rw [hme, hpass]) hstage hbank (by rw [bank_of_banks (congrArg Intake.banks hpi), hmatching])
    (by rw [State.saving, hcx]; exact hsaving), takePush_room hroom]

end

/-- Settles O48. -/
theorem pushReportFiresMarksAndClosure : Obligations.PushReportFiresMarksAndClosure := by
  intro s p b a hpass hstage hbank hmatching hsaving hlength
  refine ⟨?_, ?_⟩
  · intro v ha hfull hnodup hblock hv
    subst ha
    exact push_accepted_eq hpass hstage hbank hmatching hsaving
      ⟨by rw [State.serials, List.length_map]; exact hlength, hnodup⟩ (hfull.imp_right ge_of_eq)
      (insideBlock_false hblock) hv
  · intro n fires0 fires1 finish detected cue began ended hroom hnew hn hfires0 hfires1 hcue hfinish hdetected hbegan
      hended
    have hexec : exec .push s = .next (s.enterPush p b) := by
      rw [push_due hpass hstage hbank hmatching hsaving, takePush_room (overflows_false hroom hnew)]
    obtain rfl : n = s.progressAt p.x := hn
    obtain rfl : fires0 = s.sc.mark0.firesAt (s.progressAt p.x) := hfires0
    obtain rfl : fires1 = s.sc.mark1.firesAt (s.progressAt p.x) := hfires1
    obtain rfl : finish = s.marksFinish (s.progressAt p.x) := hfinish
    obtain rfl : detected = s.detects p := hdetected
    obtain rfl : began = s.beganSweep p := hbegan
    have hcue' : cue = MarkAction.cue := by
      rw [hcue]
      funext m level
      cases m <;> rfl
    have hsweep : (s.enterPush p b).sc.sweep = ended := by
      have hcloses : s.pushCloses p = true ↔ s.marksFinish (s.progressAt p.x) = true ∧ s.aborting = false ∧
          s.rollingBack = false ∨ s.detects p = true := by
        simp [State.pushCloses, State.finishFree]
      rw [enterPush_sweep, hended]
      exact if_congr (and_congr_right fun _ => hcloses) rfl rfl
    obtain ⟨hmark0, hmark1⟩ := enterPush_marks s p b
    obtain ⟨hevent0, hevent1, hevent⟩ := enterPush_events s p b
    refine ⟨_, hexec, hsweep, fun h => ?_, fun h => ?_, hmark0, hmark1, hevent0, hevent1, ?_, ?_, hevent,
      fun c hdetects hclosure => ?_, fun c r hhow hclosure hreason => ?_, fun hdetects hnot => ?_⟩
    · rw [enterPush_last (by rwa [hsweep]), Pass.lastFrame]
      cases p.how <;> rfl
    · exact enterPush_releases (by rwa [hsweep]) hmatching
    · rw [enterPush_cue, hcue']
    · rw [enterPush_waits, State.finishDelayed, Bool.and_assoc]
    · rw [enterPush_closure, closureResult_detected ((entered_detects s p b).trans hdetects) hclosure, entered_closure]
    · rw [enterPush_closure, closureResult_rejected hhow hclosure hreason]
      rw [rejectClosure_closure, entered_closure]
    · rw [enterPush_closure, closureResult_kept ((entered_detects s p b).trans hdetects) hnot, entered_closure]

end Sys2Proof.Machine

/-! ### FOOTPRINT_READ and BATCH_OPENING (R39, R42, R46, R48, R83, R84) -/

namespace Sys2Proof.Machine

/-! #### The footprint read (R39) -/

section

variable {s : State} {p : Pass}

theorem readFootprint_eq (s : State) (xf yf : Int) : s.readFootprint xf yf =
    ((s.geo.footprintBins xf).flatMap s.ltc.bin).filterMap fun k => (s.ltc.lm k).bind fun r =>
      if s.geo.d * xf + 64 ≤ s.geo.d * r.x ∧ s.geo.d * r.x < s.geo.d * xf + 4 * s.geo.fw - 64 ∧
        yf + 64 ≤ r.y ∧ r.y < yf + 4 * s.geo.fh - 64 then some ⟨k, s.ltc.gen k, r.x, r.y⟩ else none := by
  rw [State.readFootprint, Table.lookup]
  induction (s.geo.footprintBins xf).flatMap s.ltc.bin with
  | nil => rfl
  | cons k ks ih =>
    rw [List.filterMap_cons, List.filterMap_cons]
    cases s.ltc.lm k with
    | none => exact ih
    | some r =>
      simp only [Option.map_some, Option.bind_some]
      rw [List.filter_cons]
      by_cases hin : s.geo.d * xf + 64 ≤ s.geo.d * r.x ∧ s.geo.d * r.x < s.geo.d * xf + 4 * s.geo.fw - 64 ∧
        yf + 64 ≤ r.y ∧ r.y < yf + 4 * s.geo.fh - 64
      · rw [if_pos (by simpa only [Geometry.inFootprint, decide_eq_true_eq] using hin), if_pos hin, List.map_cons, ih]
      · rw [if_neg (by simpa only [Geometry.inFootprint, decide_eq_true_eq] using hin), if_neg hin]
        exact ih

theorem footprintRead_due (hpass : s.me.pass = some p) (hstage : p.stage = .footprint) (hsaving : s.saving = false) :
    exec .footprintRead s =
      .next (s.setPass (some { p with footprint := s.readFootprint p.x p.y, stage := .opening })) := by
  show execFootprintRead s = _
  simp only [execFootprintRead, hpass, hstage, hsaving, and_self, if_true]

theorem batchOpening_due (hpass : s.me.pass = some p) (hstage : p.stage = .opening) (hsaving : s.saving = false) :
    exec .batchOpening s =
      .next (({ s with ltc := s.ltc.clearMarks } : State).setPass (some (p.openBatch s.geo s.prm))) := by
  show execBatchOpening s = _
  simp only [execBatchOpening, hpass, hstage, hsaving, and_self, if_true]

theorem fence_waits (hpass : s.me.pass = some p) (hsaving : s.saving = true) :
    exec .footprintRead s = .next s ∧ exec .batchOpening s = .next s := by
  constructor
  · show execFootprintRead s = _
    simp [execFootprintRead, hpass, hsaving]
  · show execBatchOpening s = _
    simp [execBatchOpening, hpass, hsaving]

end

/-! #### Admission claims by falling strength (R48) -/

/-- Candidates stand by falling strength. -/
def Falling (l : List Candidate) : Prop := l.Pairwise fun a b => b.strength ≤ a.strength

theorem mem_insertByStrength {c e : Candidate} {l : List Candidate} :
    e ∈ insertByStrength c l ↔ e = c ∨ e ∈ l := by
  induction l with
  | nil => simp [insertByStrength]
  | cons k l ih =>
    unfold insertByStrength
    split
    · simp
    · rw [List.mem_cons, ih, List.mem_cons]
      exact or_left_comm

theorem insertByStrength_falling {c : Candidate} {l : List Candidate} (h : Falling l) :
    Falling (insertByStrength c l) := by
  induction l with
  | nil => exact List.pairwise_singleton _ _
  | cons k l ih =>
    obtain ⟨hk, hl⟩ := List.pairwise_cons.mp h
    unfold insertByStrength
    split
    · refine List.pairwise_cons.mpr ⟨fun e he => ?_, h⟩
      obtain rfl | he := List.mem_cons.mp he
      · omega
      · have := hk e he
        omega
    · refine List.pairwise_cons.mpr ⟨fun e he => ?_, ih hl⟩
      obtain rfl | he := mem_insertByStrength.mp he
      · omega
      · exact hk e he

/-- A candidate goes behind those of its strength. -/
theorem insertByStrength_filter {c : Candidate} {l : List Candidate} (h : Falling l) (n : Nat) :
    (insertByStrength c l).filter (fun e => decide (e.strength = n)) =
      (l ++ [c]).filter fun e => decide (e.strength = n) := by
  induction l with
  | nil => rfl
  | cons k l ih =>
    obtain ⟨hk, hl⟩ := List.pairwise_cons.mp h
    unfold insertByStrength
    split
    · rename_i hlt
      by_cases hc : c.strength = n
      · have hnone : (k :: l).filter (fun e => decide (e.strength = n)) = [] := by
          refine List.filter_eq_nil_iff.mpr fun e he => ?_
          obtain rfl | he := List.mem_cons.mp he
          · simp only [decide_eq_true_eq]
            omega
          · have := hk e he
            simp only [decide_eq_true_eq]
            omega
        rw [List.filter_append, List.filter_cons, hnone]
        simp [hc]
      · rw [List.filter_append, List.filter_cons]
        simp [hc]
    · rw [List.cons_append, List.filter_cons, List.filter_cons, ih hl]

theorem sortedByStrength (cs : List Candidate) (l : List Candidate) (h : Falling l) :
    Falling (cs.foldl (fun l c => insertByStrength c l) l) ∧
    ∀ n, (cs.foldl (fun l c => insertByStrength c l) l).filter (fun e => decide (e.strength = n)) =
      (l ++ cs).filter fun e => decide (e.strength = n) := by
  induction cs generalizing l with
  | nil => exact ⟨h, fun n => by rw [List.append_nil]; rfl⟩
  | cons c cs ih =>
    obtain ⟨hfalling, hfilter⟩ := ih _ (insertByStrength_falling (c := c) h)
    refine ⟨hfalling, fun n => ?_⟩
    rw [List.foldl_cons, hfilter, List.filter_append, insertByStrength_filter h, ← List.filter_append,
      List.append_assoc, List.singleton_append]

theorem admissionCands_origin {p : Pass} (h : p.how = .origin) : Falling p.admissionCands ∧
    ∀ n, p.admissionCands.filter (fun c => decide (c.strength = n)) =
      (p.cands.map (·.cand)).filter fun c => decide (c.strength = n) := by
  simp only [Pass.admissionCands, h]
  exact sortedByStrength _ [] List.Pairwise.nil

theorem eligible_eq (c : PassCand) : c.eligible = decide (c.verdict = .far ∨ c.verdict = .none) := by
  unfold PassCand.eligible
  cases c.verdict <;> rfl

theorem admissionCands_other {p : Pass} (h : p.how ≠ .origin) : p.admissionCands = if p.pushed then
    (p.cands.filter fun c => decide (c.verdict = .far ∨ c.verdict = .none)).map (·.cand) else [] := by
  unfold Pass.admissionCands
  simp only [← eligible_eq]
  cases hhow : p.how with
  | origin => exact absurd hhow h
  | matched | predicted | host => rfl

/-! #### The batch as it opens (R83) -/

section

variable {p : Pass} {g : Geometry} {prm : Params}

theorem clearMarks_entry (t : Table) (i : Nat) : t.clearMarks.gen i = t.gen i ∧
    t.clearMarks.lm i = (t.lm i).map fun r => { r with passMark := false } := by
  unfold Table.clearMarks Table.gen Table.lm
  simp only [List.getElem?_map]
  cases t.entries[i]? with
  | none => exact ⟨rfl, rfl⟩
  | some e => exact ⟨rfl, rfl⟩

/-- The batch has no claim to present. -/
def Pass.batchDone (p : Pass) (prm : Params) : Prop :=
  p.sights = [] ∧ p.misses = [] ∧ (p.admissions = [] ∨ p.admitLimit prm ≤ p.admitted)

theorem settleBatch_done (h : p.batchDone prm) : p.settleBatch prm = { p with admissions := [], stage := .report } := by
  obtain ⟨hsights, hmisses, hadmissions⟩ := h
  refine if_pos ?_
  obtain hadmissions | hadmissions := hadmissions <;> simp [hsights, hmisses, hadmissions]

theorem settleBatch_goesOn (h : ¬ p.batchDone prm) : p.settleBatch prm = { p with stage := .batch false } := by
  refine if_neg fun hdone => h ?_
  simpa [Pass.batchDone, and_assoc] using hdone

theorem settleBatch_keeps (p : Pass) (prm : Params) : p.settleBatch prm =
    { p with admissions := (p.settleBatch prm).admissions, stage := (p.settleBatch prm).stage } := by
  by_cases h : p.batchDone prm
  · rw [settleBatch_done h]
  · rw [settleBatch_goesOn h]

/-- The pass with its claims formed. -/
def Pass.withClaims (p : Pass) (g : Geometry) : Pass :=
  { p with
    sights := if p.how = .matched then p.cands.flatMap (p.sightsOf g) else []
    misses := p.footprint.filter fun c =>
      !((if p.how = .matched then p.cands.flatMap (p.sightsOf g) else []).map fun k => k.2.index).contains c.index
    admissions := p.admissionCands.map (p.admissionOf g) }

theorem openBatch_eq (p : Pass) (g : Geometry) (prm : Params) : p.openBatch g prm = (p.withClaims g).settleBatch prm := rfl

theorem sightsOf_eq (p : Pass) (g : Geometry) (c : PassCand) : p.sightsOf g c =
    (if c.inlier then c.chosen.toList.map fun l =>
      (SightKind.hit, (⟨l.index, l.gen, p.x + g.d * c.cand.q, p.y + c.cand.p⟩ : UpdateClaim)) else []) ++
    (if c.revival then c.chosen.toList.map fun l =>
      (SightKind.revive, (⟨l.index, l.gen, l.x, l.y⟩ : UpdateClaim)) else []) := by
  unfold Pass.sightsOf Pass.hitOf PassCand.reviveOf
  cases c.inlier <;> cases c.revival <;> cases c.chosen <;> rfl

end

/-- Settles O49: the claims are formed and then the batch goes on or to its report. -/
theorem footprintAndBatchOpening : Obligations.FootprintAndBatchOpening := by
  refine fun s p hpass => ⟨fun _ => fence_waits hpass, fun first last bins hstage hsaving hfirst hlast hbins => ?_,
    fun hstage hsaving => ?_⟩
  · subst hfirst hlast hbins
    rw [footprintRead_due hpass hstage hsaving, readFootprint_eq]
    rfl
  · have hkeeps := settleBatch_keeps (p.withClaims s.geo) s.prm
    refine ⟨p.openBatch s.geo s.prm, s.ltc.clearMarks, p.admissionCands, batchOpening_due hpass hstage hsaving, ?_,
      clearMarks_entry s.ltc, rfl, rfl, rfl, rfl, fun hhow => ?_, fun hhow => ?_, ?_, admissionCands_origin,
      admissionCands_other, fun claims hclaims => ⟨fun hsights hmisses hnone => ?_, fun hsome => ?_⟩⟩
    · rw [openBatch_eq, hkeeps]
      rfl
    · rw [openBatch_eq, hkeeps]
      show (if p.how = .matched then p.cands.flatMap (p.sightsOf s.geo) else []) = _
      rw [if_pos hhow]
      exact congrArg (List.flatMap · p.cands) (funext (sightsOf_eq p s.geo))
    · rw [openBatch_eq, hkeeps]
      exact if_neg hhow
    · rw [openBatch_eq, hkeeps]
      refine List.filter_congr fun c _ => ?_
      rw [List.contains_eq_mem, decide_not]
      rfl
    · rw [openBatch_eq, hkeeps] at hsights hmisses
      have hdone : (p.withClaims s.geo).batchDone s.prm :=
        ⟨hsights, hmisses, hnone.imp_left fun h => hclaims.symm.trans h⟩
      rw [openBatch_eq, settleBatch_done hdone]
      exact ⟨rfl, rfl⟩
    · rw [openBatch_eq, hkeeps] at hsome
      have hopen : ¬ (p.withClaims s.geo).batchDone s.prm := by
        rintro ⟨hsights, hmisses, hadmissions⟩
        obtain h | h | ⟨hne, hlt⟩ := hsome
        · exact h hsights
        · exact h hmisses
        · exact hadmissions.elim (fun h => hne (hclaims.trans h)) (Nat.not_le.mpr hlt)
      rw [openBatch_eq, settleBatch_goesOn hopen]
      exact ⟨rfl, hclaims.symm⟩

end Sys2Proof.Machine

/-! ### Hit, revive and miss claims (R35, R41 to R45, R84) -/

namespace Sys2Proof.Machine

section

variable {s : State} {p : Pass} {c : UpdateClaim} {f : Landmark → Table}

/-- A claim whose landmark is gone, or of another generation, is STALE. -/
theorem takeClaim_stale (h : s.ltc.lm c.index = none ∨ s.ltc.gen c.index ≠ c.gen) :
    s.takeClaim p c f = s.setPass (some ({ p with stale := p.stale + 1 }.settleBatch s.prm)) := by
  have hclaimed : s.ltc.claimed c = none := by
    unfold Table.claimed
    split
    · exact h.resolve_right fun hne => hne ‹_›
    · rfl
  rw [State.takeClaim, hclaimed]

theorem takeClaim_applied {r : Landmark} (hlm : s.ltc.lm c.index = some r) (hgen : s.ltc.gen c.index = c.gen) :
    s.takeClaim p c f = ({ s with ltc := f r } : State).setPass (some (p.settleBatch s.prm)) := by
  have hclaimed : s.ltc.claimed c = some r := by rw [Table.claimed, if_pos hgen, hlm]
  rw [State.takeClaim, hclaimed]

theorem settleBatch_lists (p : Pass) (prm : Params) : (p.settleBatch prm).stale = p.stale ∧
    (p.settleBatch prm).sights = p.sights ∧ (p.settleBatch prm).misses = p.misses ∧
    (p.settleBatch prm).admitted = p.admitted := by
  rw [settleBatch_keeps]
  exact ⟨rfl, rfl, rfl, rfl⟩

/-! #### A sighting on its record (R35, R43, R44) -/

theorem classAfter_eq (old : LandmarkState) (hits anchorHits : Nat) : Landmark.classAfter old hits anchorHits =
    if old = .tentative then .tracked
    else if old = .anchored ∨ anchorHits ≤ hits then .anchored else .tracked := by
  cases old <;> simp [Landmark.classAfter]

/-- What a sighting leaves of a record but its position and bin. -/
structure Sighted (r r' : Landmark) (v : Serial) (anchorHits : Nat) : Prop where
  hits : r'.hits = min 255 (r.hits + 1)
  misses : r'.misses = 0
  lastSeen : r'.lastSeen = v
  firstSeen : r'.firstSeen = r.firstSeen
  passMark : r'.passMark = true
  pinned : r'.pinned = r.pinned
  origin : r'.origin = r.origin
  descriptor : r'.descriptor = r.descriptor
  strength : r'.strength = r.strength
  state : r'.state = if r.state = .tentative then .tracked
    else if r.state = .anchored ∨ anchorHits ≤ r'.hits then .anchored else .tracked

theorem hit_sighted (r : Landmark) (g : Geometry) (n : Nat) (v : Serial) (x y : Int) (j : Nat) :
    Sighted r { r.hit g n v x y with bin := j } v n :=
  ⟨rfl, rfl, rfl, rfl, rfl, rfl, rfl, rfl, rfl, classAfter_eq _ _ _⟩

theorem revived_sighted (r : Landmark) (n : Nat) (v : Serial) : Sighted r (r.revived n v) v n :=
  ⟨rfl, rfl, rfl, rfl, rfl, rfl, rfl, rfl, rfl, classAfter_eq _ _ _⟩

/-- A record is put back, the bin lists perhaps changed with it. -/
theorem put_facts (t : Table) (bins : List (List Nat)) {i : Nat} {r : Landmark} (r' : Landmark) (h : t.lm i = some r) :
    (({ t with bins := bins } : Table).put i r').lm i = some r' ∧
    ∀ j, (({ t with bins := bins } : Table).put i r').gen j = t.gen j ∧
      (j ≠ i → (({ t with bins := bins } : Table).put i r').lm j = t.lm j) :=
  ⟨Table.put_lm_same { t with bins := bins } r' r h, fun _ => ⟨Table.put_gen _ _ _ _, Table.put_lm_other _ r'⟩⟩

/-- The bin lists with an index moved from one to the tail of another. -/
def movedBins (bins : List (List Nat)) (i left joined : Nat) : List (List Nat) :=
  (bins.modify left fun l => l.filter fun k => !decide (k = i)).modify joined fun l => l ++ [i]

theorem movedBins_bin (t : Table) {i left joined : Nat} (hne : joined ≠ left) (hlt : joined < t.bins.length) (k : Nat) :
    ({ t with bins := movedBins t.bins i left joined } : Table).bin k =
      if k = joined then t.bin k ++ [i]
      else if k = left then (t.bin k).filter fun j => decide (j ≠ i) else t.bin k := by
  unfold Table.bin movedBins
  dsimp only
  by_cases hk : k = joined
  · subst hk
    rw [if_pos rfl, List.getElem?_modify_eq, List.getElem?_modify_ne _ _ (Ne.symm hne),
      List.getElem?_eq_getElem hlt]
    rfl
  · rw [if_neg hk, List.getElem?_modify_ne _ _ (Ne.symm hk)]
    by_cases hf : k = left
    · subst hf
      rw [if_pos rfl, List.getElem?_modify_eq]
      cases t.bins[k]? with
      | none => rfl
      | some l => simp only [Option.map_eq_map, Option.map_some, Option.getD_some, decide_not]
    · rw [if_neg hf, List.getElem?_modify_ne _ _ (Ne.symm hf)]

/-- A hit puts its record back in its bin, or moves it to the tail of its new bin's list. -/
theorem applyHit_cases (t : Table) (g : Geometry) (n : Nat) (v : Serial) (c : UpdateClaim) (r : Landmark) :
    (((r.hit g n v c.x c.y).x = r.x ∨ g.binOf (r.hit g n v c.x c.y).x = r.bin ∨
        8 ≤ (t.bin (g.binOf (r.hit g n v c.x c.y).x)).length) ∧
      t.applyHit g n v c r = t.put c.index (r.hit g n v c.x c.y)) ∨
    ((r.hit g n v c.x c.y).x ≠ r.x ∧ g.binOf (r.hit g n v c.x c.y).x ≠ r.bin ∧
      (t.bin (g.binOf (r.hit g n v c.x c.y).x)).length < 8 ∧
      t.applyHit g n v c r =
        ({ t with bins := movedBins t.bins c.index r.bin (g.binOf (r.hit g n v c.x c.y).x) } : Table).put c.index
          { r.hit g n v c.x c.y with bin := g.binOf (r.hit g n v c.x c.y).x }) := by
  by_cases hx : (r.hit g n v c.x c.y).x = r.x
  · exact .inl ⟨.inl hx, if_pos hx⟩
  · by_cases hbin : g.binOf (r.hit g n v c.x c.y).x = r.bin ∨ 8 ≤ (t.bin (g.binOf (r.hit g n v c.x c.y).x)).length
    · exact .inl ⟨.inr hbin, (if_neg hx).trans (if_pos hbin)⟩
    · obtain ⟨hmoves, hroom⟩ := not_or.mp hbin
      exact .inr ⟨hx, hmoves, Nat.not_le.mp hroom, (if_neg hx).trans (if_neg hbin)⟩

theorem hit_position (r : Landmark) (g : Geometry) (n : Nat) (v : Serial) (x y : Int) :
    (r.state = .anchored ∨ r.state = .fading → (r.hit g n v x y).x = r.x ∧ (r.hit g n v x y).y = r.y) ∧
    (r.state = .tentative ∨ r.state = .tracked →
      (r.hit g n v x y).x = roundDiv (r.x * r.hits + x) (r.hits + 1) ∧
      (r.hit g n v x y).y = max 0 (min (4 * (g.ch : Int) - 1) (roundDiv (r.y * r.hits + y) (r.hits + 1)))) := by
  constructor
  · intro h
    have := r.refined_frozen g x y h
    exact ⟨congrArg Prod.fst this, congrArg Prod.snd this⟩
  · intro h
    have hrefined : r.refined g x y = (roundDiv (r.x * r.hits + x) (r.hits + 1),
        clampInt 0 (4 * g.ch - 1) (roundDiv (r.y * r.hits + y) (r.hits + 1))) := by
      unfold Landmark.refined
      obtain h | h := h <;> rw [h]
    exact ⟨congrArg Prod.fst hrefined, congrArg Prod.snd hrefined⟩

/-! #### The sighting rows -/

variable {rest : List (SightKind × UpdateClaim)}

theorem hitClaim_due (hopen : s.openPass = some p) (h : p.sights = (.hit, c) :: rest) : exec .hitClaim s =
    .next (s.takeClaim { p with sights := rest } c (s.ltc.applyHit s.geo s.prm.anchorHits p.serial c)) ∧
    exec .reviveClaim s = .next s := by
  constructor
  · show execHitClaim s = _
    simp only [execHitClaim, hopen, h]
  · show execReviveClaim s = _
    simp only [execReviveClaim, hopen, h]

theorem reviveClaim_due (hopen : s.openPass = some p) (h : p.sights = (.revive, c) :: rest) : exec .reviveClaim s =
    .next (s.takeClaim { p with sights := rest } c (s.ltc.applyRevive s.prm.anchorHits p.serial c)) ∧
    exec .hitClaim s = .next s := by
  constructor
  · show execReviveClaim s = _
    simp only [execReviveClaim, hopen, h]
  · show execHitClaim s = _
    simp only [execHitClaim, hopen, h]

end

/-- The row of a sighting takes its claim, with the table its kind makes; the other row is not due. -/
theorem sighting_due {s : State} {p : Pass} {kind : SightKind} {c : UpdateClaim}
    {rest : List (SightKind × UpdateClaim)} {i other : Instr} (hopen : s.openPass = some p)
    (h : p.sights = (kind, c) :: rest)
    (hrow : (kind = .hit ∧ i = .hitClaim ∧ other = .reviveClaim) ∨
      (kind = .revive ∧ i = .reviveClaim ∧ other = .hitClaim)) :
    exec other s = .next s ∧ ∃ f, exec i s = .next (s.takeClaim { p with sights := rest } c f) ∧
      ((kind = .hit ∧ f = s.ltc.applyHit s.geo s.prm.anchorHits p.serial c) ∨
        (kind = .revive ∧ f = s.ltc.applyRevive s.prm.anchorHits p.serial c)) := by
  obtain ⟨rfl, rfl, rfl⟩ | ⟨rfl, rfl, rfl⟩ := hrow
  · obtain ⟨hdue, hother⟩ := hitClaim_due hopen h
    exact ⟨hother, _, hdue, .inl ⟨rfl, rfl⟩⟩
  · obtain ⟨hdue, hother⟩ := reviveClaim_due hopen h
    exact ⟨hother, _, hdue, .inr ⟨rfl, rfl⟩⟩

/-- Settles O50: a record is put back in its bin, or moved to its new one. -/
theorem sightingsAreRecorded : Obligations.SightingsAreRecorded := by
  intro s p kind c rest hopen hsights i other hrow
  obtain ⟨hother, f, hexec, hf⟩ := sighting_due hopen hsights hrow
  refine ⟨hother, fun hstale => ?_, fun r hlm hgen => ?_⟩
  · rw [takeClaim_stale hstale] at hexec
    obtain ⟨hcount, hrest, hmisses, -⟩ :=
      settleBatch_lists { p with sights := rest, stale := p.stale + 1 } s.prm
    exact ⟨_, hexec, hcount, hrest, hmisses⟩
  · rw [takeClaim_applied hlm hgen] at hexec
    obtain ⟨hcount, hrest, hmisses, -⟩ := settleBatch_lists { p with sights := rest } s.prm
    obtain ⟨rfl, rfl⟩ | ⟨rfl, rfl⟩ := hf
    · obtain ⟨hfrozen, hrefined⟩ := hit_position r s.geo s.prm.anchorHits p.serial c.x c.y
      have hstands (h : SightKind.hit = .revive ∨ r.state = .anchored ∨ r.state = .fading) :=
        hfrozen (h.resolve_left nofun)
      obtain ⟨hin, htable⟩ | ⟨hx, hmoves, hroom, htable⟩ :=
        applyHit_cases s.ltc s.geo s.prm.anchorHits p.serial c r
      · obtain ⟨hself, hothers⟩ := put_facts s.ltc s.ltc.bins (r.hit s.geo s.prm.anchorHits p.serial c.x c.y) hlm
        obtain ⟨a1, a2, a3, a4, a5, a6, a7, a8, a9, a10⟩ :=
          hit_sighted r s.geo s.prm.anchorHits p.serial c.x c.y r.bin
        rw [htable] at hexec
        refine ⟨_, _, _, hexec, hcount, hrest, hmisses, hself, a1, a2, a3, a4, a5, a6, a7, a8, a9, a10, hstands,
          fun _ => hrefined, fun _ => ⟨rfl, rfl⟩, fun hx hroom => ?_, hothers, rfl, rfl, rfl⟩
        have hsame := (hin.resolve_left hx).resolve_right (Nat.not_le.mpr hroom)
        exact ⟨hsame.symm, fun hne => absurd hsame hne⟩
      · obtain ⟨hself, hothers⟩ := put_facts s.ltc (movedBins s.ltc.bins c.index r.bin
          (s.geo.binOf (r.hit s.geo s.prm.anchorHits p.serial c.x c.y).x))
          { r.hit s.geo s.prm.anchorHits p.serial c.x c.y with
            bin := s.geo.binOf (r.hit s.geo s.prm.anchorHits p.serial c.x c.y).x } hlm
        obtain ⟨a1, a2, a3, a4, a5, a6, a7, a8, a9, a10⟩ := hit_sighted r s.geo s.prm.anchorHits p.serial c.x c.y
          (s.geo.binOf (r.hit s.geo s.prm.anchorHits p.serial c.x c.y).x)
        rw [htable] at hexec
        refine ⟨_, _, _, hexec, hcount, hrest, hmisses, hself, a1, a2, a3, a4, a5, a6, a7, a8, a9, a10, hstands,
          fun _ => hrefined, fun h => ?_, fun _ _ => ⟨rfl, fun hne hlt k => ?_⟩, hothers, rfl, rfl, rfl⟩
        · obtain h | h | h := h
          · exact absurd h hx
          · exact absurd hroom (Nat.not_lt.mpr h)
          · exact absurd h hmoves
        · exact movedBins_bin s.ltc hne hlt k
    · obtain ⟨hself, hothers⟩ := put_facts s.ltc s.ltc.bins (r.revived s.prm.anchorHits p.serial) hlm
      obtain ⟨a1, a2, a3, a4, a5, a6, a7, a8, a9, a10⟩ := revived_sighted r s.prm.anchorHits p.serial
      exact ⟨_, _, _, hexec, hcount, hrest, hmisses, hself, a1, a2, a3, a4, a5, a6, a7, a8, a9, a10,
        fun _ => ⟨rfl, rfl⟩, nofun, fun _ => ⟨rfl, rfl⟩, fun hx => absurd rfl hx, hothers, rfl, rfl, rfl⟩

/-! #### Misses (R45) -/

section

variable {r : Landmark} {limit : Nat}

theorem missed_fading (h : r.state = .fading) : r.missed limit =
    if min 15 (r.misses + 1) < 2 * limit ∨ r.isProtected = true then some { r with misses := min 15 (r.misses + 1) }
    else none := by
  simp only [Landmark.missed, h, Bool.or_eq_true, decide_eq_true_eq]

theorem missed_low (h : r.state ≠ .fading) (hm : min 15 (r.misses + 1) < limit) :
    r.missed limit = some { r with misses := min 15 (r.misses + 1) } := by
  unfold Landmark.missed
  cases hstate : r.state with
  | fading => exact absurd hstate h
  | tentative | tracked | anchored => exact if_pos hm

theorem missed_limit (h : r.state ≠ .fading) (hm : limit ≤ min 15 (r.misses + 1)) : r.missed limit =
    if r.state = .tentative ∧ r.isProtected = false then none
    else some { r with misses := min 15 (r.misses + 1), state := .fading } := by
  unfold Landmark.missed
  cases hstate : r.state with
  | fading => exact absurd hstate h
  | tentative =>
    dsimp only
    rw [if_neg (Nat.not_lt.mpr hm)]
    cases r.isProtected <;> rfl
  | tracked | anchored => exact if_neg (Nat.not_lt.mpr hm)

theorem missClaim_due {s : State} {p : Pass} {c : UpdateClaim} {rest : List UpdateClaim} (hopen : s.openPass = some p)
    (hsights : p.sights = []) (h : p.misses = c :: rest) : exec .missClaim s =
    .next (s.takeClaim { p with misses := rest } c (s.ltc.applyMiss s.prm.missLimit c)) := by
  show execMissClaim s = _
  simp only [execMissClaim, hopen, h, hsights, List.isEmpty_nil, if_true]

end

/-- Settles O51. -/
theorem missesFadeOrRetire : Obligations.MissesFadeOrRetire := by
  intro s p c rest hopen hsights hmisses
  have hexec := missClaim_due hopen hsights hmisses
  refine ⟨fun hstale => ?_, fun r m safe hlm hgen hm hsafe => ?_⟩
  · rw [takeClaim_stale hstale] at hexec
    obtain ⟨hcount, -, hrest, -⟩ := settleBatch_lists { p with misses := rest, stale := p.stale + 1 } s.prm
    exact ⟨_, hexec, hcount, hrest⟩
  · subst hm
    obtain rfl : safe = r.isProtected := hsafe
    rw [takeClaim_applied hlm hgen] at hexec
    obtain ⟨hcount, -, hrest, -⟩ := settleBatch_lists { p with misses := rest } s.prm
    refine ⟨_, _, hexec, hcount, hrest, fun hstate h => ?_, fun hstate h hfree => ?_, fun hstate h => ?_,
      fun hkind hstate h => ?_, fun hstate hfree h => ?_⟩
    · rw [Table.applyMiss, missed_fading hstate, if_pos h]
    · rw [Table.applyMiss, missed_fading hstate, if_neg]
      rintro (hlow | hsafe)
      · omega
      · rw [hfree] at hsafe
        cases hsafe
    · rw [Table.applyMiss, missed_low hstate h]
    · rw [Table.applyMiss, missed_limit hstate h, if_neg]
      rintro ⟨htentative, hfree⟩
      rw [htentative, hfree] at hkind
      simp at hkind
    · rw [Table.applyMiss, missed_limit (by rw [hstate]; nofun) h, if_pos ⟨hstate, hfree⟩]

end Sys2Proof.Machine

/-! ### ADMISSION_CLAIM (R22, R46 to R50, R84, R125) -/

namespace Sys2Proof.Machine

/-! #### The weakest entry (R50) -/

/-- The entry `i` goes before the entry `k` in eviction: lower strength, then first seen further back, then lower index. -/
def GoesBefore (v : Serial) (i : Nat) (r : Landmark) (k : Nat) (e : Landmark) : Prop :=
  r.strength ≤ e.strength ∧ (e.strength = r.strength →
    (v - e.firstSeen).toNat ≤ (v - r.firstSeen).toNat ∧
    ((v - e.firstSeen).toNat = (v - r.firstSeen).toNat → i ≤ k))

theorem weaker_iff (v : Serial) (a b : Landmark) : Landmark.weaker v a b = true ↔
    a.strength < b.strength ∨ (a.strength = b.strength ∧ (v - b.firstSeen).toNat < (v - a.firstSeen).toNat) := by
  simp [Landmark.weaker]

section

variable {t : Table} {v : Serial} {i j k n : Nat} {r b e : Landmark}

theorem GoesBefore.refl (v : Serial) (i : Nat) (r : Landmark) : GoesBefore v i r i r :=
  ⟨Nat.le_refl _, fun _ => ⟨Nat.le_refl _, fun _ => Nat.le_refl _⟩⟩

theorem GoesBefore.of_weaker (h : Landmark.weaker v r b = true) (hb : GoesBefore v j b k e) : GoesBefore v n r k e := by
  obtain ⟨hstrength, hequal⟩ := hb
  rw [weaker_iff] at h
  refine ⟨by omega, fun heq => ?_⟩
  have := hequal (by omega)
  omega

theorem GoesBefore.of_not_weaker (h : ¬ Landmark.weaker v e b = true) (hjn : j ≤ n) : GoesBefore v j b n e := by
  rw [weaker_iff] at h
  exact ⟨by omega, fun heq => ⟨by omega, fun _ => hjn⟩⟩

/-- One step of the search for the weakest entry. -/
def Table.evictStep (t : Table) (v : Serial) (best : Option (Nat × Landmark)) (i : Nat) : Option (Nat × Landmark) :=
  match best, t.lm i with
  | none, some r => some (i, r)
  | some (j, b), some r => if Landmark.weaker v r b then some (i, r) else some (j, b)
  | best, none => best

theorem evictStep_first (h : t.lm i = some r) : t.evictStep v none i = some (i, r) := by
  simp only [Table.evictStep, h]

theorem evictStep_next (h : t.lm i = some r) : t.evictStep v (some (j, b)) i =
    if Landmark.weaker v r b then some (i, r) else some (j, b) := by
  simp only [Table.evictStep, h]

theorem evictionVictim_eq (t : Table) (v : Serial) :
    t.evictionVictim v = ((t.indicesOf Landmark.evictable).foldl (t.evictStep v) none).map Prod.fst := rfl

/-- The search along rising indices of live entries ends at the one that goes before all. -/
theorem foldl_evictStep (l : List Nat) (hsorted : l.Pairwise (· < ·)) (hlive : ∀ i ∈ l, ∃ r, t.lm i = some r)
    (hne : l ≠ []) : ∃ i r, l.foldl (t.evictStep v) none = some (i, r) ∧ i ∈ l ∧ t.lm i = some r ∧
      ∀ k ∈ l, ∀ e, t.lm k = some e → GoesBefore v i r k e := by
  induction l using List.reverseRecOn with
  | nil => exact absurd rfl hne
  | append_singleton l n ih =>
    obtain ⟨rn, hn⟩ := hlive n (by simp)
    rw [List.foldl_append, List.foldl_cons, List.foldl_nil]
    by_cases hl : l = []
    · subst hl
      refine ⟨n, rn, evictStep_first hn, by simp, hn, fun k hk e he => ?_⟩
      obtain rfl : k = n := by simpa using hk
      obtain rfl : rn = e := Option.some.inj (hn.symm.trans he)
      exact .refl v k rn
    · obtain ⟨hpre, -, hlast⟩ := List.pairwise_append.mp hsorted
      obtain ⟨i, r, hfold, hi, hr, hbefore⟩ := ih hpre (fun k hk => hlive k (by simp [hk])) hl
      have hin := hlast i hi n (by simp)
      rw [hfold, evictStep_next hn]
      split
      · rename_i hweaker
        refine ⟨n, rn, rfl, by simp, hn, fun k hk e he => ?_⟩
        obtain hk | hk := List.mem_append.mp hk
        · exact .of_weaker hweaker (hbefore k hk e he)
        · obtain rfl : k = n := by simpa using hk
          obtain rfl : rn = e := Option.some.inj (hn.symm.trans he)
          exact .refl v k rn
      · rename_i hweaker
        refine ⟨i, r, rfl, by simp [hi], hr, fun k hk e he => ?_⟩
        obtain hk | hk := List.mem_append.mp hk
        · exact hbefore k hk e he
        · obtain rfl : k = n := by simpa using hk
          obtain rfl : rn = e := Option.some.inj (hn.symm.trans he)
          exact .of_not_weaker hweaker (Nat.le_of_lt hin)

theorem mem_evictable : i ∈ t.indicesOf Landmark.evictable ↔ ∃ r, t.lm i = some r ∧ r.evictable = true := by
  unfold Table.indicesOf
  constructor
  · intro h
    obtain ⟨-, h⟩ := List.mem_filter.mp h
    exact (Option.any_eq_true _ _).mp h
  · rintro ⟨r, hr, hf⟩
    exact List.mem_filter.mpr ⟨List.mem_range.mpr (Table.lm_lt hr), by simp [hr, hf]⟩

/-- With no entry to evict there is no victim. -/
theorem evictionVictim_none (h : ∀ k r, t.lm k = some r → ¬ r.evictable = true) : t.evictionVictim v = none := by
  have hnil : t.indicesOf Landmark.evictable = [] := by
    refine List.eq_nil_iff_forall_not_mem.mpr fun i hi => ?_
    obtain ⟨r, hr, hf⟩ := mem_evictable.mp hi
    exact h i r hr hf
  rw [evictionVictim_eq, hnil]
  rfl

theorem evictionVictim_some (h : ∃ k r, t.lm k = some r ∧ r.evictable = true) : ∃ i r,
    t.evictionVictim v = some i ∧ t.lm i = some r ∧ r.evictable = true ∧
    ∀ k e, t.lm k = some e → e.evictable = true → GoesBefore v i r k e := by
  obtain ⟨k, r, hk, hr⟩ := h
  have hmem := mem_evictable.mpr ⟨r, hk, hr⟩
  obtain ⟨i, r', hfold, hi, hr', hbefore⟩ := foldl_evictStep (t := t) (v := v) (t.indicesOf Landmark.evictable)
    (List.Pairwise.filter _ List.pairwise_lt_range)
    (fun i hi => let ⟨r, hr, _⟩ := mem_evictable.mp hi; ⟨r, hr⟩) (List.ne_nil_of_mem hmem)
  obtain ⟨r'', hlm, hevictable⟩ := mem_evictable.mp hi
  obtain rfl : r' = r'' := Option.some.inj (hr'.symm.trans hlm)
  refine ⟨i, r', by rw [evictionVictim_eq, hfold]; rfl, hr', hevictable, fun k e hk he => ?_⟩
  exact hbefore k (mem_evictable.mpr ⟨e, hk, he⟩) e hk

theorem evictable_iff (r : Landmark) : r.evictable = true ↔
    r.state = .tentative ∧ r.pinned = false ∧ r.origin = false ∧ r.passMark = false := by
  simp [Landmark.evictable, and_assoc]

end

/-! #### The entry of an admission (R47) -/

section

variable {t : Table} {g : Geometry} {i : Nat} {a : Admission} {v : Serial} {o : Bool}

theorem admitLandmark_lm_self (h : i < t.entries.length) :
    (t.admitLandmark g i a v o).lm i = some (Landmark.admitted g a v o) := by
  show (t.put i (Landmark.admitted g a v o)).lm i = _
  simp [Table.lm, Table.put, h]

theorem admitLandmark_other (t : Table) (g : Geometry) (i : Nat) (a : Admission) (v : Serial) (o : Bool) (k : Nat) :
    (t.admitLandmark g i a v o).gen k = t.gen k ∧ (k ≠ i → (t.admitLandmark g i a v o).lm k = t.lm k) :=
  ⟨Table.put_gen t i k (Landmark.admitted g a v o), fun h => Table.put_lm_other t (Landmark.admitted g a v o) h⟩

theorem admitLandmark_bin_self (h : g.binOf a.x < t.bins.length) :
    (t.admitLandmark g i a v o).bin (g.binOf a.x) = t.bin (g.binOf a.x) ++ [i] := by
  show (t.bins.modify (g.binOf a.x) fun l => l ++ [i])[g.binOf a.x]?.getD [] = t.bins[g.binOf a.x]?.getD [] ++ [i]
  rw [List.getElem?_modify_eq, List.getElem?_eq_getElem h]
  rfl

theorem admitLandmark_bin_other {k : Nat} (h : k ≠ g.binOf a.x) : (t.admitLandmark g i a v o).bin k = t.bin k := by
  show (t.bins.modify (g.binOf a.x) fun l => l ++ [i])[k]?.getD [] = t.bins[k]?.getD []
  rw [List.getElem?_modify_ne _ _ (Ne.symm h)]

theorem freeEntry_lowest {e : Entry} (hentry : t.entries[i]? = some e) (hfree : e.lm = none)
    (hbelow : ∀ k < i, t.lm k ≠ none) : t.freeEntry = some i := by
  obtain ⟨hlt, heq⟩ := List.getElem?_eq_some_iff.mp hentry
  refine List.findIdx?_eq_some_iff_getElem.mpr ⟨hlt, by simp [heq, hfree], fun k hk => ?_⟩
  have hne := hbelow k hk
  unfold Table.lm at hne
  rw [List.getElem?_eq_getElem (Nat.lt_trans hk hlt)] at hne
  simpa using hne

theorem freeEntry_none (h : ∀ e ∈ t.entries, e.lm ≠ none) : t.freeEntry = none := by
  refine List.findIdx?_eq_none_iff.mpr fun e he => ?_
  simpa [← Option.ne_none_iff_isSome] using h e he

/-- An eviction's table: the victim's entry is retired and takes the landmark. -/
theorem evicted_entry {r : Landmark} (h : t.lm i = some r) :
    ((t.retire i).admitLandmark g i a v o).gen i = t.gen i + 1#4 ∧
    ((t.retire i).admitLandmark g i a v o).lm i = some (Landmark.admitted g a v o) ∧
    ∀ k, k ≠ i → ((t.retire i).admitLandmark g i a v o).lm k = t.lm k := by
  refine ⟨?_, admitLandmark_lm_self (by rw [Table.retire_entries_length]; exact Table.lm_lt h), fun k hk => ?_⟩
  · rw [(admitLandmark_other _ g i a v o i).1, Table.gen_retire_self h]
  · rw [(admitLandmark_other _ g i a v o k).2 hk, Table.lm, Table.retire_entry_other t hk, Table.lm]

end

/-! #### The admission row -/

section

variable {s : State} {p : Pass} {a : Admission} {rest : List Admission}

theorem openPass_stage (h : s.openPass = some p) : s.me.pass = some p ∧ ∃ x, p.stage = .batch x := by
  unfold State.openPass at h
  cases hpass : s.me.pass with
  | none => simp [hpass] at h
  | some q =>
    rw [hpass] at h
    cases hstage : q.stage with
    | batch x =>
      simp only [hstage] at h
      split at h
      · cases h
      · cases h
        exact ⟨rfl, x, hstage⟩
    | lookup i w | solve | judge | judgeHeld | push x | pushHeld | footprint | opening | parked | fenced | report =>
      simp [hstage] at h

theorem admissionClaim_due (hopen : s.openPass = some p) (hsights : p.sights = []) (hmisses : p.misses = [])
    (h : p.admissions = a :: rest) :
    exec .admissionClaim s = .next (s.takeAdmission p a (decide (p.stage = .batch true))) := by
  show execAdmissionClaim s = _
  simp only [execAdmissionClaim, hopen, h, hsights, hmisses, List.isEmpty_nil, Bool.and_self, if_true]

/-- A claim of an open batch that was not accepted at a hold. -/
theorem admissionClaim_fresh (hopen : s.openPass = some p) (hsights : p.sights = []) (hmisses : p.misses = [])
    (h : p.admissions = a :: rest) (hstage : p.stage = .batch false) :
    exec .admissionClaim s = .next (s.takeAdmission p a false) := by
  rw [admissionClaim_due hopen hsights hmisses h, hstage]
  rfl

/-- The pass behind an answered admission claim. -/
def Pass.answeredPass (p : Pass) (prm : Params) (taken : Bool) : Pass :=
  { p with admissions := p.admissions.tail, admitted := p.admitted + taken.toNat }.settleBatch prm

theorem admissionAnswered_eq (s : State) (p : Pass) (t : Table × Bool) : s.admissionAnswered p t =
    { s with ltc := t.1, me := { s.me with pass := some (p.answeredPass s.prm t.2) } } := rfl

theorem answeredPass_admitted (p : Pass) (prm : Params) (taken : Bool) :
    (p.answeredPass prm taken).admitted = p.admitted + taken.toNat := (settleBatch_lists _ prm).2.2.2

/-- The batch ends with its last claim, or with the last ADMITTED answer the frame may have. -/
theorem answeredPass_answered (prm : Params) (taken : Bool) (hsights : p.sights = []) (hmisses : p.misses = [])
    (h : p.admissions = a :: rest) :
    (rest = [] ∨ (if p.how = .origin then 48 else prm.admitMax) ≤ (p.answeredPass prm taken).admitted →
      (p.answeredPass prm taken).stage = .report ∧ (p.answeredPass prm taken).admissions = []) ∧
    (rest ≠ [] → (p.answeredPass prm taken).admitted < (if p.how = .origin then 48 else prm.admitMax) →
      (p.answeredPass prm taken).stage = .batch false ∧ (p.answeredPass prm taken).admissions = rest) := by
  rw [answeredPass_admitted]
  have htail : p.admissions.tail = rest := by rw [h]; rfl
  unfold Pass.answeredPass
  rw [htail]
  constructor
  · intro hend
    rw [settleBatch_done (p := { p with admissions := rest, admitted := p.admitted + taken.toNat })
      ⟨hsights, hmisses, hend⟩]
    exact ⟨rfl, rfl⟩
  · intro hne hlt
    rw [settleBatch_goesOn (p := { p with admissions := rest, admitted := p.admitted + taken.toNat })
      fun ⟨_, _, hend⟩ => hend.elim hne (Nat.not_le.mpr hlt)]
    exact ⟨rfl, rfl⟩

/-- The claim is DECLINED before the table is asked. -/
def State.declines (s : State) (a : Admission) : Prop :=
  a.y < 0 ∨ 4 * (s.geo.ch : Int) - 1 < a.y ∨ 8 ≤ (s.ltc.bin (s.geo.binOf a.x)).length

theorem takeAdmission_declined {x : Bool} (h : s.declines a) :
    s.takeAdmission p a x = s.admissionAnswered p (s.ltc, false) := if_pos h

theorem takeAdmission_free {x : Bool} {i : Nat} (h : ¬ s.declines a) (hfree : s.ltc.freeEntry = some i) :
    s.takeAdmission p a x =
      s.admissionAnswered p (s.ltc.admitLandmark s.geo i a p.serial (decide (p.how = .origin)), true) := by
  refine (if_neg h).trans ?_
  simp only [hfree]

theorem takeAdmission_full (h : ¬ s.declines a) (hfree : s.ltc.freeEntry = none) :
    s.takeAdmission p a false =
      if (s.report .tableFull).2 then (s.report .tableFull).1.setPass (some { p with stage := .parked })
      else (s.report .tableFull).1.admissionAnswered p
        (s.ltc.admitEvicting s.geo a p.serial (decide (p.how = .origin))) := by
  refine (if_neg h).trans ?_
  simp only [hfree]
  rfl

theorem takeAdmission_holds (h : ¬ s.declines a) (hfree : s.ltc.freeEntry = none) (hsweep : s.sc.sweep = .sweeping)
    (hmask : s.masked .tableFull = false) :
    s.takeAdmission p a false = s.heldWith .tableFull { p with stage := .parked } := by
  obtain ⟨hholds, hstate⟩ := report_holds (p := { p with stage := .parked }) hsweep hmask
  rw [takeAdmission_full h hfree, if_pos hholds, hstate]

theorem takeAdmission_default (h : ¬ s.declines a) (hfree : s.ltc.freeEntry = none) (hdefault : s.defaults .tableFull) :
    s.takeAdmission p a false = (s.setFlag .tableFull).admissionAnswered p
      (s.ltc.admitEvicting s.geo a p.serial (decide (p.how = .origin))) := by
  rw [takeAdmission_full h hfree, report_default hdefault]
  rfl

theorem admitEvicting_none {t : Table} {g : Geometry} {v : Serial} {o : Bool} (h : t.evictionVictim v = none) :
    t.admitEvicting g a v o = (t, false) := by simp only [Table.admitEvicting, h]

theorem admitEvicting_some {t : Table} {g : Geometry} {v : Serial} {o : Bool} {i : Nat}
    (h : t.evictionVictim v = some i) :
    t.admitEvicting g a v o = ((t.retire i).admitLandmark g i a v o, true) := by
  simp only [Table.admitEvicting, h]

end

/-- Settles O52. -/
theorem admissionTakesAnEntry : Obligations.AdmissionTakesAnEntry := by
  intro s p a rest j weak answered hopen hsights hmisses hadmissions hj hweak hanswered
  have hexec := admissionClaim_due hopen hsights hmisses hadmissions
  have hanswer (taken : Bool) : answered (p.answeredPass s.prm taken) := by
    rw [hanswered]
    exact answeredPass_answered s.prm taken hsights hmisses hadmissions
  have hweak' (r : Landmark) : weak r ↔ r.evictable = true := by rw [hweak, evictable_iff]
  subst hj
  refine ⟨fun hout => ?_, fun htop hbottom hroom => ?_⟩
  · rw [takeAdmission_declined hout] at hexec
    exact ⟨_, hexec, answeredPass_admitted p s.prm false, hanswer false⟩
  have hin : ¬ s.declines a := by
    rintro (h | h | h) <;> omega
  refine ⟨fun i e hentry hfree hbelow => ?_, fun hfull => ⟨fun hstage hsweep hmask marked hmarked => ?_,
    fun hstage hdefault => ?_⟩⟩
  · obtain ⟨hlt, -⟩ := List.getElem?_eq_some_iff.mp hentry
    rw [takeAdmission_free hin (freeEntry_lowest hentry hfree hbelow)] at hexec
    refine ⟨_, _, hexec, answeredPass_admitted p s.prm true, hanswer true, admitLandmark_lm_self hlt,
      admitLandmark_other s.ltc s.geo i a p.serial _, rfl, rfl, ?_, admitLandmark_bin_self,
      fun k => admitLandmark_bin_other⟩
    show s.ltc.origin + (decide (p.how = .origin)).toNat = _
    by_cases hhow : p.how = .origin <;> simp [hhow]
  · rw [admissionClaim_fresh hopen hsights hmisses hadmissions hstage,
      takeAdmission_holds hin (freeEntry_none hfull) hsweep hmask, hmarked]
    rfl
  · have hexec := admissionClaim_fresh hopen hsights hmisses hadmissions hstage
    rw [takeAdmission_default hin (freeEntry_none hfull) hdefault.symm, admissionAnswered_eq] at hexec
    refine ⟨_, _, hexec, hanswer _, fun hnone => ?_, fun ⟨k, r, hk, hr⟩ => ?_⟩
    · have hvictim : s.ltc.evictionVictim p.serial = none :=
        evictionVictim_none fun k r hk hr => hnone k r hk ((hweak' r).mpr hr)
      rw [admitEvicting_none hvictim]
      exact ⟨rfl, answeredPass_admitted p s.prm false⟩
    · obtain ⟨i, r, hvictim, hi, hevictable, hbefore⟩ :=
        evictionVictim_some (v := p.serial) ⟨k, r, hk, (hweak' r).mp hr⟩
      rw [admitEvicting_some hvictim]
      obtain ⟨hgen, hself, hothers⟩ :=
        evicted_entry (g := s.geo) (a := a) (v := p.serial) (o := decide (p.how = .origin)) hi
      exact ⟨i, r, hi, (hweak' r).mpr hevictable, fun k e hk he => hbefore k e hk ((hweak' e).mp he), hgen,
        answeredPass_admitted p s.prm true, ⟨_, hself, rfl, rfl, rfl, rfl, rfl⟩, hothers⟩

end Sys2Proof.Machine

/-! ### Directive words (11.5, R166) -/

namespace Sys2Proof.Machine

/-! #### Reading a word by its kind -/

section

variable {n : Nat} {w : Word32}

theorem kind_eq (w : Word32) : field w 28 4 = w.toNat / 268435456 := by
  have := w.isLt
  unfold field
  omega

theorem decode_plain {k : Nat} {d : Directive} (hk : (k = 0 ∧ d = .stop) ∨ (k = 1 ∧ d = .skip) ∨ (k = 4 ∧ d = .signal))
    (h : field w 28 4 = k) : decodeDirective n w = if field w 0 28 = 0 then some d else none := by
  obtain ⟨rfl, rfl⟩ | ⟨rfl, rfl⟩ | ⟨rfl, rfl⟩ := hk <;> simp only [decodeDirective, h]

theorem decode_next (h : field w 28 4 = 2) :
    decodeDirective n w = if field w 10 18 = 0 then some (.next (field w 0 10)) else none := by
  simp only [decodeDirective, h]

theorem decode_nextAndStop (h : field w 28 4 = 3) :
    decodeDirective n w = if field w 10 18 = 0 then some (.nextAndStop (field w 0 10)) else none := by
  simp only [decodeDirective, h]

theorem decode_hint (h : field w 28 4 = 5) : decodeDirective n w =
    if field w 0 8 = 0 then some (.hint (signedOf 12 (field w 16 12)) (signedOf 8 (field w 8 8))) else none := by
  simp only [decodeDirective, h]

theorem decode_masks (h : field w 28 4 = 6) : decodeDirective n w =
    if field w 8 20 = 0 then some (.masks (BitVec.ofNat 8 (field w 0 8))) else none := by
  simp only [decodeDirective, h]

theorem decode_mark (h : field w 28 4 = 7) : decodeDirective n w = if field w 16 8 = 0 then
    (MarkAction.ofCode (field w 24 3)).map fun a => .mark (field w 27 1 == 1) a (field w 0 16) else none := by
  simp only [decodeDirective, h]

theorem decode_retireRegion (h : field w 28 4 = 8) : decodeDirective n w =
    if field w 9 11 = 0 ∧ field w 20 8 < n ∧ 1 ≤ field w 0 9 ∧ field w 0 9 ≤ n then
      some (.retireRegion (field w 20 8) (field w 0 9)) else none := by
  simp only [decodeDirective, h]

theorem decode_blend (h : field w 28 4 = 9) : decodeDirective n w =
    if field w 3 25 = 0 then (featherOfCode (field w 0 3)).map .blend else none := by
  simp only [decodeDirective, h]

theorem decode_noKind (h : 10 ≤ field w 28 4) : decodeDirective n w = none := by
  unfold decodeDirective
  split
  case h_11 => rfl
  all_goals omega

theorem ite_none_iff {α : Type} {c : Prop} [Decidable c] {o : Option α} :
    (if c then o else none) = none ↔ ¬ c ∨ o = none := by
  by_cases h : c <;> simp [h]

theorem featherOfCode_none (c : Nat) : featherOfCode c = none ↔ 4 < c := by
  match c with
  | 0 | 1 | 2 | 3 | 4 => simp [featherOfCode]
  | _ + 5 => simp [featherOfCode]

end

/-- The words that fault (R166). -/
theorem decodeDirective_none (nBins : Nat) (w : Word32) (kind : Nat) (h : kind = w.toNat / 268435456) :
    (10 ≤ kind → decodeDirective nBins w = none) ∧
    (kind = 0 ∨ kind = 1 ∨ kind = 4 → (decodeDirective nBins w = none ↔ w.toNat % 268435456 ≠ 0)) ∧
    (kind = 2 ∨ kind = 3 → (decodeDirective nBins w = none ↔ w.toNat / 1024 % 262144 ≠ 0)) ∧
    (kind = 5 → (decodeDirective nBins w = none ↔ w.toNat % 256 ≠ 0)) ∧
    (kind = 6 → (decodeDirective nBins w = none ↔ w.toNat / 256 % 1048576 ≠ 0)) ∧
    (kind = 7 → (decodeDirective nBins w = none ↔ w.toNat / 65536 % 256 ≠ 0 ∨ 4 < w.toNat / 16777216 % 8)) ∧
    (kind = 8 → (decodeDirective nBins w = none ↔ w.toNat / 512 % 2048 ≠ 0 ∨ nBins ≤ w.toNat / 1048576 % 256 ∨
      w.toNat % 512 = 0 ∨ nBins < w.toNat % 512)) ∧
    (kind = 9 → (decodeDirective nBins w = none ↔ w.toNat / 8 % 33554432 ≠ 0 ∨ 4 < w.toNat % 8)) := by
  have hkind : field w 28 4 = kind := (kind_eq w).trans h.symm
  have hlow (width : Nat) : field w 0 width = w.toNat % 2 ^ width := by rw [field, pow_zero, Nat.div_one]
  refine ⟨fun hk => decode_noKind (by rwa [hkind]), fun hk => ?_, fun hk => ?_, fun hk => ?_, fun hk => ?_, fun hk => ?_,
    fun hk => ?_, fun hk => ?_⟩
  · obtain rfl | rfl | rfl := hk
    · rw [decode_plain (.inl ⟨rfl, rfl⟩) hkind, hlow]
      simp
    · rw [decode_plain (.inr (.inl ⟨rfl, rfl⟩)) hkind, hlow]
      simp
    · rw [decode_plain (.inr (.inr ⟨rfl, rfl⟩)) hkind, hlow]
      simp
  · obtain rfl | rfl := hk
    · rw [decode_next hkind]
      simp [field]
    · rw [decode_nextAndStop hkind]
      simp [field]
  · rw [decode_hint (hkind.trans hk)]
    simp [field]
  · rw [decode_masks (hkind.trans hk)]
    simp [field]
  · rw [decode_mark (hkind.trans hk)]
    rw [ite_none_iff, Option.map_eq_none_iff, actionOfCode_none]
    rfl
  · rw [decode_retireRegion (hkind.trans hk)]
    rw [ite_none_iff, hlow, field, field]
    simp only [reduceCtorEq, or_false]
    omega
  · rw [decode_blend (hkind.trans hk)]
    rw [ite_none_iff, Option.map_eq_none_iff, featherOfCode_none, hlow]
    rfl

/-! #### Reading back what was written -/

theorem field_ofNat {m : Nat} (h : m < 4294967296) (lo width : Nat) :
    field (BitVec.ofNat 32 m) lo width = m / 2 ^ lo % 2 ^ width := by
  rw [field, BitVec.toNat_ofNat, Nat.mod_eq_of_lt h]

/-- A number of a signed field reads back. -/
theorem signedOf_emod {bits : Nat} {v : Int} (half : Nat) (hhalf : 2 ^ (bits - 1) = half) (hfull : 2 ^ bits = 2 * half)
    (hlow : -(half : Int) ≤ v) (hhigh : v < half) : signedOf bits (v % (2 * half : Nat)).toNat = v := by
  unfold signedOf
  rw [hhalf, hfull]
  obtain hneg | hpos := lt_or_ge v 0
  · have hmod : v % (2 * half : Nat) = v + (2 * half : Nat) := by
      rw [← Int.add_emod_right, Int.emod_eq_of_lt] <;> omega
    rw [hmod, if_neg (by omega)]
    omega
  · have hmod : v % (2 * half : Nat) = v := Int.emod_eq_of_lt hpos (by omega)
    rw [hmod, if_pos (by omega)]
    omega

theorem actionCode_lt (a : MarkAction) : a.code < 5 := by cases a <;> decide

theorem decode_encode_flow (nBins : Nat) {d : Directive} (h : d = .stop ∨ d = .skip ∨ d = .signal) :
    decodeDirective nBins (encodeDirective d) = some d := by
  obtain rfl | rfl | rfl := h <;> rfl

theorem decode_encode_pointer (nBins : Nat) {p : Nat} (h : p ≤ 1023) :
    decodeDirective nBins (encodeDirective (.next p)) = some (.next p) ∧
    decodeDirective nBins (encodeDirective (.nextAndStop p)) = some (.nextAndStop p) := by
  have hf2 (lo width : Nat) := field_ofNat (m := 2 * 2 ^ 28 + p) (by omega) lo width
  have hf3 (lo width : Nat) := field_ofNat (m := 3 * 2 ^ 28 + p) (by omega) lo width
  constructor
  · rw [encodeDirective, decode_next (by rw [hf2]; omega), hf2, hf2, if_pos (by omega)]
    congr 2
    omega
  · rw [encodeDirective, decode_nextAndStop (by rw [hf3]; omega), hf3, hf3, if_pos (by omega)]
    congr 2
    omega

theorem decode_encode_hint (nBins : Nat) {dx dy : Int} (hx : -2048 ≤ dx ∧ dx ≤ 2047) (hy : -128 ≤ dy ∧ dy ≤ 127) :
    decodeDirective nBins (encodeDirective (.hint dx dy)) = some (.hint dx dy) := by
  have hsx := signedOf_emod (bits := 12) 2048 rfl rfl hx.1 (by omega)
  have hsy := signedOf_emod (bits := 8) 128 rfl rfl hy.1 (by omega)
  have hf (lo width : Nat) := field_ofNat (m := 5 * 2 ^ 28 + (dx % 4096).toNat * 2 ^ 16 + (dy % 256).toNat * 2 ^ 8)
    (by omega) lo width
  rw [encodeDirective, decode_hint (by rw [hf]; omega), hf, hf, hf, if_pos (by omega)]
  refine congrArg some (congrArg₂ Directive.hint ?_ ?_)
  · refine Eq.trans (congrArg _ ?_) hsx
    omega
  · refine Eq.trans (congrArg _ ?_) hsy
    omega

theorem decode_encode_masks (nBins : Nat) (m : BitVec 8) :
    decodeDirective nBins (encodeDirective (.masks m)) = some (.masks m) := by
  have hm := m.isLt
  have hf (lo width : Nat) := field_ofNat (m := 6 * 2 ^ 28 + m.toNat) (by omega) lo width
  rw [encodeDirective, decode_masks (by rw [hf]; omega), hf, hf, if_pos (by omega)]
  refine congrArg some (congrArg Directive.masks (BitVec.eq_of_toNat_eq ?_))
  rw [BitVec.toNat_ofNat]
  omega

theorem decode_encode_mark (nBins : Nat) (u : Bool) (a : MarkAction) {v : Nat} (h : v ≤ 65535) :
    decodeDirective nBins (encodeDirective (.mark u a v)) = some (.mark u a v) := by
  have ha := actionCode_lt a
  have hu : u.toNat ≤ 1 := Bool.toNat_le u
  have hf (lo width : Nat) := field_ofNat (m := 7 * 2 ^ 28 + u.toNat * 2 ^ 27 + a.code * 2 ^ 24 + v) (by omega) lo width
  have haction : field (encodeDirective (.mark u a v)) 24 3 = a.code := by
    rw [encodeDirective, hf]
    omega
  have hvalue : field (encodeDirective (.mark u a v)) 0 16 = v := by
    rw [encodeDirective, hf]
    omega
  have hunit : (field (encodeDirective (.mark u a v)) 27 1 == 1) = u := by
    have : field (encodeDirective (.mark u a v)) 27 1 = u.toNat := by
      rw [encodeDirective, hf]
      omega
    rw [this]
    cases u <;> rfl
  rw [decode_mark (by rw [encodeDirective, hf]; omega), haction, hvalue, hunit, actionOfCode_code,
    if_pos (by rw [encodeDirective, hf]; omega)]
  rfl

theorem decode_encode_retireRegion {nBins first count : Nat} (hbins : nBins ≤ 256) (hfirst : first < nBins)
    (hone : 1 ≤ count) (hcount : count ≤ nBins) :
    decodeDirective nBins (encodeDirective (.retireRegion first count)) = some (.retireRegion first count) := by
  have hf (lo width : Nat) := field_ofNat (m := 8 * 2 ^ 28 + first * 2 ^ 20 + count) (by omega) lo width
  rw [encodeDirective, decode_retireRegion (by rw [hf]; omega), hf, hf, hf, if_pos (by omega)]
  refine congrArg some (congrArg₂ Directive.retireRegion ?_ ?_) <;> omega

theorem decode_encode_blend (nBins : Nat) {f : Nat} (h : f = 0 ∨ f = 8 ∨ f = 16 ∨ f = 32 ∨ f = 64) :
    decodeDirective nBins (encodeDirective (.blend f)) = some (.blend f) := by
  obtain rfl | rfl | rfl | rfl | rfl := h <;> rfl

/-- Settles O60, kind by kind. -/
theorem directiveWordsReadBack : Obligations.DirectiveWordsReadBack := by
  intro nBins d hbins hvalid
  cases d with
  | stop => exact decode_encode_flow nBins (.inl rfl)
  | skip => exact decode_encode_flow nBins (.inr (.inl rfl))
  | signal => exact decode_encode_flow nBins (.inr (.inr rfl))
  | next p => exact (decode_encode_pointer nBins (by simpa [Directive.valid] using hvalid)).1
  | nextAndStop p => exact (decode_encode_pointer nBins (by simpa [Directive.valid] using hvalid)).2
  | hint dx dy =>
    simp only [Directive.valid, Bool.and_eq_true, decide_eq_true_eq] at hvalid
    obtain ⟨⟨⟨hx, hx'⟩, hy⟩, hy'⟩ := hvalid
    exact decode_encode_hint nBins ⟨hx, hx'⟩ ⟨hy, hy'⟩
  | masks m => exact decode_encode_masks nBins m
  | mark u a v => exact decode_encode_mark nBins u a (by simpa [Directive.valid] using hvalid)
  | retireRegion first count =>
    simp only [Directive.valid, Bool.and_eq_true, decide_eq_true_eq] at hvalid
    obtain ⟨⟨hfirst, hone⟩, hcount⟩ := hvalid
    exact decode_encode_retireRegion hbins hfirst hone hcount
  | blend f =>
    simp only [Directive.valid, Bool.or_eq_true, beq_iff_eq, or_assoc] at hvalid
    exact decode_encode_blend nBins hvalid

end Sys2Proof.Machine

/-! ### Directive steps (R165 to R169) -/

namespace Sys2Proof.Machine

section

variable {s t : State} {frame : Serial} {w : Word32} {n : Nat} {d : Directive} {row : Directive → Bool}

theorem directiveStep_due (hgap : s.dr.gap = some ⟨frame, some ⟨w, n⟩⟩) (hdecode : decodeDirective n w = some d) :
    s.directiveStep row = .next (if row d then s.applyDirective frame d else s) := by
  simp only [State.directiveStep, State.readDirective, hgap, hdecode, Option.map_some]

theorem directiveStep_fault (hgap : s.dr.gap = some ⟨frame, some ⟨w, n⟩⟩) (hdecode : decodeDirective n w = none) :
    s.directiveStep row = .next s := by
  simp only [State.directiveStep, State.readDirective, hgap, hdecode, Option.map_none]

/-- A directive's row applies it. -/
theorem directiveStep_own (hgap : s.dr.gap = some ⟨frame, some ⟨w, n⟩⟩) (hdecode : decodeDirective n w = some d)
    (h : row d = true) : s.directiveStep row = .next (s.applyDirective frame d) := by
  rw [directiveStep_due hgap hdecode, if_pos h]

/-- Another directive's row is not due. -/
theorem directiveStep_other (hgap : s.dr.gap = some ⟨frame, some ⟨w, n⟩⟩) (hdecode : decodeDirective n w = some d)
    (h : row d = false) : s.directiveStep row = .next s := by
  rw [directiveStep_due hgap hdecode, if_neg (by simp [h])]

theorem flow_ends (hbudget : t.dr.budget = s.dr.budget) :
    t.flow none = { t with dr := { t.dr with budget := s.dr.budget + 1, gap := none } } := by
  rw [← hbudget]
  rfl

theorem flow_goesOn {r : Option ReadWord} (hgap : t.dr.gap = some ⟨frame, r⟩) (hbudget : t.dr.budget = s.dr.budget)
    (p : Nat) : t.flow (some p) = { t with dr := { t.dr with
      budget := s.dr.budget + 1, readPtr := p
      gap := if 16 ≤ s.dr.budget + 1 then none else some ⟨frame, none⟩ } } := by
  rw [State.flow, hgap, hbudget]
  simp

/-- A directive that goes on at the next offset, or ends the gap at the area's last. -/
theorem flow_past {r : Option ReadWord} (hgap : s.dr.gap = some ⟨frame, r⟩) (hdr : t.dr = s.dr) :
    t.flow s.offsetAfter =
      if s.dr.readPtr < 1023 then { t with dr := { t.dr with
        budget := s.dr.budget + 1, readPtr := s.dr.readPtr + 1
        gap := if 16 ≤ s.dr.budget + 1 then none else some ⟨frame, none⟩ } }
      else { t with dr := { t.dr with budget := s.dr.budget + 1, gap := none } } := by
  unfold State.offsetAfter
  split
  · exact flow_goesOn (by rw [hdr, hgap]) (by rw [hdr]) _
  · exact flow_ends (by rw [hdr])

theorem directiveFault_due (hgap : s.dr.gap = some ⟨frame, some ⟨w, n⟩⟩) : exec .directiveFault s =
    .next (if (decodeDirective n w).isNone then s.directiveFault else s) := by
  show execDirectiveFault s = _
  simp only [execDirectiveFault, hgap]

theorem hintFor_eq (s : State) (frame : Serial) (dx dy : Int) : s.hintFor frame dx dy =
    if s.withoutOutcome frame then { s with me := { s.me with hint := some ⟨dx, dy, some frame⟩ } } else s := rfl

end

/-- Settles O59: each row applies its own directive with the flow of its kind; the words that fault are
`decodeDirective_none`. -/
theorem directivesActFlowOrFault : Obligations.DirectivesActFlowOrFault := by
  refine ⟨fun s frame w n d hgap hdecode ends on past hends hon hpast => ?_,
    fun s frame w n hgap hdecode => ⟨?_, fun i hi => ?_⟩, decodeDirective_none⟩
  · have hown {row : Directive → Bool} (h : row d = true) := directiveStep_own hgap hdecode h
    have hother {row : Directive → Bool} (h : row d = false) := directiveStep_other hgap hdecode h
    have hpast' (t : State) (hdr : t.dr = s.dr) : t.flow s.offsetAfter = past t := by
      rw [flow_past hgap hdr, hpast, hon, hends]
    have hon' (t : State) (p : Nat) (hgap' : t.dr.gap = s.dr.gap) (hbudget : t.dr.budget = s.dr.budget) :
        t.flow (some p) = on p t := by
      rw [flow_goesOn (hgap'.trans hgap) hbudget, hon]
    have hends' (t : State) (hbudget : t.dr.budget = s.dr.budget) : t.flow none = ends t := by
      rw [flow_ends hbudget, hends]
    refine ⟨?_, ?_, ?_, ?_, ?_, ?_, ?_, ?_, ?_, ?_, ?_, ?_, ?_, ?_, ?_, ?_, ?_, ?_, ?_, ?_, ?_⟩
    · rintro rfl
      exact (hown rfl).trans (congrArg _ (hends' s rfl))
    · rintro rfl
      exact (hown rfl).trans (congrArg _ (hpast' s rfl))
    · rintro p rfl
      exact (hown rfl).trans (congrArg _ (hon' (s.setStart p) p rfl rfl))
    · rintro p rfl
      exact (hown rfl).trans (congrArg _ (hends' (s.setStart p) rfl))
    · rintro rfl
      exact (hown rfl).trans (congrArg _ (hpast' (s.raise .directiveSignal) rfl))
    · rintro dx dy rfl
      have hhint := hpast' (s.hintFor frame dx dy) (by rw [hintFor_eq]; split <;> rfl)
      have hexec : exec .dirHint s = .next (past (s.hintFor frame dx dy)) := (hown rfl).trans (congrArg _ hhint)
      rw [hintFor_eq] at hexec
      exact ⟨fun h => hexec.trans (by rw [if_pos h]), fun h => hexec.trans (by rw [if_neg (by simp [h])])⟩
    · rintro m rfl
      exact (hown rfl).trans (congrArg _ (hpast' (s.setMasks m) rfl))
    · intro a v
      constructor
      · rintro rfl
        exact (hown rfl).trans (congrArg _ (hpast' (s.loadMark false a v) rfl))
      · rintro rfl
        exact (hown rfl).trans (congrArg _ (hpast' (s.loadMark true a v) rfl))
    · rintro first count rfl
      exact (hown rfl).trans (congrArg _ (hpast' (s.claimRegion first count) rfl))
    · rintro f rfl
      exact (hown rfl).trans (congrArg _ (hpast' (s.setFeather f) rfl))
    · rw [directiveFault_due hgap, hdecode]
      rfl
    · exact fun h => hother (by
        split
        · exact absurd rfl h
        · rfl)
    · exact fun h => hother (by
        split
        · exact absurd rfl h
        · rfl)
    · exact fun h => hother (by
        split
        · exact absurd rfl (h _)
        · rfl)
    · exact fun h => hother (by
        split
        · exact absurd rfl (h _)
        · rfl)
    · exact fun h => hother (by
        split
        · exact absurd rfl h
        · rfl)
    · exact fun h => hother (by
        split
        · exact absurd rfl (h _ _)
        · rfl)
    · exact fun h => hother (by
        split
        · exact absurd rfl (h _)
        · rfl)
    · exact fun h => hother (by
        split
        · exact absurd rfl (h _ _ _)
        · rfl)
    · exact fun h => hother (by
        split
        · exact absurd rfl (h _ _)
        · rfl)
    · exact fun h => hother (by
        split
        · exact absurd rfl (h _)
        · rfl)
  · rw [directiveFault_due hgap, hdecode]
    rfl
  · simp only [List.mem_cons, List.not_mem_nil, or_false] at hi
    obtain rfl | rfl | rfl | rfl | rfl | rfl | rfl | rfl | rfl | rfl := hi <;> exact directiveStep_fault hgap hdecode

end Sys2Proof.Machine

/-! ### BLEND_TAKE (R96, R107, R108) -/

namespace Sys2Proof.Machine

section

variable {s : State} {newer older : List Placement} {r : Placement} {b : BankId}

theorem blendTake_busy (h : s.blenderFree = false) : exec .blendTake s = .next s := by
  show execBlendTake s = _
  simp only [execBlendTake, h, Bool.false_eq_true, if_false]

theorem blenderFree_iff (s : State) : s.blenderFree = true ↔
    s.bu.pass = none ∧ s.bu.join = none ∧ s.copying = false ∧ s.stopping = false := by
  simp [State.blenderFree, and_assoc]

theorem deepestPlaced_none (h : ∀ r ∈ s.pw, r.state ≠ .placed) : s.deepestPlaced = none := by
  refine List.find?_eq_none.mpr fun r hr => ?_
  simpa using h r (List.mem_reverse.mp hr)

/-- The deepest PLACED record is the one with no PLACED record older than it. -/
theorem deepestPlaced_some (hpw : s.pw = newer ++ r :: older) (hr : r.state = .placed)
    (holder : ∀ q ∈ older, q.state ≠ .placed) : s.deepestPlaced = some r := by
  have hnone : older.reverse.find? (fun r => decide (r.state = .placed)) = none :=
    List.find?_eq_none.mpr fun q hq => by simpa using holder q (List.mem_reverse.mp hq)
  rw [State.deepestPlaced, hpw, List.reverse_append, List.reverse_cons, List.append_assoc, List.find?_append, hnone]
  simp [hr]

theorem blendTake_due (h : s.blenderFree = true) (hdeepest : s.deepestPlaced = some r)
    (hbank : s.findBank .placed r.serial = some b) : exec .blendTake s = .next (s.takeBlend r b) := by
  show execBlendTake s = _
  simp only [execBlendTake, h, if_true, hdeepest, hbank]

theorem blendTake_nothing (hdeepest : s.deepestPlaced = none) : exec .blendTake s = .next s := by
  show execBlendTake s = _
  simp only [execBlendTake, hdeepest, ite_self]

/-- The bank of a state and a serial, where no other bank has the serial. -/
theorem findBank_unique {st : BankState} {v : Serial} (hstate : (s.bank b).state = st)
    (hserial : (s.bank b).serial = some v) (honly : ∀ c, (s.bank c).serial = some v → c = b) :
    s.findBank st v = some b := by
  have hsome : (s.findBank st v).isSome :=
    List.find?_isSome.mpr ⟨b, by cases b <;> simp [bankIds], by simp [hstate, hserial]⟩
  obtain ⟨c, hc⟩ := Option.isSome_iff_exists.mp hsome
  have hfound := List.find?_some hc
  rw [decide_eq_true_eq] at hfound
  rw [hc, honly c hfound.2]

/-- A record alone of its serial is rewritten alone. -/
theorem map_serial_unique {f : Placement → Placement} (hothers : ∀ q ∈ newer ++ older, q.serial ≠ r.serial) :
    (newer ++ r :: older).map (fun q => if q.serial = r.serial then f q else q) = newer ++ f r :: older := by
  have hkept (l : List Placement) (hl : ∀ q ∈ l, q.serial ≠ r.serial) :
      l.map (fun q => if q.serial = r.serial then f q else q) = l :=
    (List.map_congr_left fun q hq => if_neg (hl q hq)).trans (List.map_id _)
  rw [List.map_append, List.map_cons, if_pos rfl, hkept newer fun q hq => hothers q (List.mem_append_left _ hq),
    hkept older fun q hq => hothers q (List.mem_append_right _ hq)]

end

/-- Settles O54. -/
theorem blendTakesTheOldestPlacement : Obligations.BlendTakesTheOldestPlacement := by
  refine fun s => ⟨fun h => ?_, fun newer r older b hpass hjoin hcopying hstopping hpw hr holder hothers hplaced hserial
    honly => ?_⟩
  · by_cases hfree : s.blenderFree = true
    · obtain ⟨hpass, hjoin, hcopying, hstopping⟩ := (blenderFree_iff s).mp hfree
      obtain h | h | h | h | h := h
      · exact absurd hpass h
      · exact absurd hjoin h
      · rw [hcopying] at h
        cases h
      · rw [hstopping] at h
        cases h
      · exact blendTake_nothing (deepestPlaced_none h)
    · exact blendTake_busy (Bool.not_eq_true _ ▸ hfree)
  · rw [blendTake_due ((blenderFree_iff s).mpr ⟨hpass, hjoin, hcopying, hstopping⟩) (deepestPlaced_some hpw hr holder)
      (findBank_unique hplaced hserial honly)]
    have hrecords := map_serial_unique (f := fun q => { q with state := .blending, used := some (usedAtTake s.geo q) })
      hothers
    rw [← hpw] at hrecords
    simp only [State.takeBlend, State.updateRecord, hrecords]
    rfl

end Sys2Proof.Machine

/-! ### SEAM_FIX (R97, R107, R109 to R113) -/

namespace Sys2Proof.Machine

/-! #### Every fourth number of a range -/

theorem everyFourth_eq (lo hi : Int) :
    everyUpTo lo hi 4 = (List.range ((hi - lo + 4) / 4).toNat).map fun (i : Nat) => lo + 4 * (i : Int) := by
  unfold everyUpTo
  split
  · have hnone : ((hi - lo + 4) / 4).toNat = 0 := by omega
    rw [hnone]
    rfl
  · have hcount : ((hi - lo) / (4 : Nat)).toNat + 1 = ((hi - lo + 4) / 4).toNat := by omega
    rw [hcount]
    rfl

theorem mem_everyFourth {lo hi v : Int} : v ∈ everyUpTo lo hi 4 ↔ lo ≤ v ∧ v ≤ hi ∧ (v - lo) % 4 = 0 := by
  rw [everyFourth_eq, List.mem_map]
  constructor
  · rintro ⟨i, hi', rfl⟩
    rw [List.mem_range] at hi'
    omega
  · rintro ⟨hlo, hhi, hmod⟩
    exact ⟨((v - lo) / 4).toNat, List.mem_range.mpr (by omega), by omega⟩

theorem everyFourth_sorted (lo hi : Int) : (everyUpTo lo hi 4).Pairwise (· < ·) := by
  rw [everyFourth_eq]
  exact List.Pairwise.map _ (fun a b hab => by omega) List.pairwise_lt_range

/-! #### The feather (R110) -/

/-- A feather is the largest of the widths that is at most FEATHER and at most the room. -/
structure LargestFeather (feather : Nat) (room : Int) (f : Nat) : Prop where
  width : f ∈ [0, 8, 16, 32, 64]
  fits : f = 0 ∨ (f ≤ feather ∧ (f : Int) ≤ room)
  largest : ∀ g ∈ [8, 16, 32, 64], g ≤ feather → (g : Int) ≤ room → g ≤ f

section

variable {feather f f' : Nat} {room overlap : Int} {how : HowPlaced} {gap : Bool}

theorem LargestFeather.le (h : LargestFeather feather room f) (h' : LargestFeather feather room f') : f ≤ f' := by
  obtain hzero | ⟨hle, hroom⟩ := h.fits
  · omega
  · by_cases hzero : f = 0
    · omega
    · refine h'.largest f ?_ hle hroom
      have := h.width
      simp only [List.mem_cons, List.not_mem_nil, or_false] at this ⊢
      omega

theorem LargestFeather.unique (h : LargestFeather feather room f) (h' : LargestFeather feather room f') : f = f' :=
  Nat.le_antisymm (h.le h') (h'.le h)

theorem featherFor_none (h : how = .origin ∨ gap = true) : featherFor how gap feather (some overlap) = 0 := if_pos h

theorem featherFor_largest (h : ¬ (how = .origin ∨ gap = true)) :
    LargestFeather feather (overlap - 8) (featherFor how gap feather (some overlap)) := by
  have heq : featherFor how gap feather (some overlap) =
      ([64, 32, 16, 8].find? fun f => decide (f ≤ feather ∧ (f : Int) ≤ overlap - 8)).getD 0 := if_neg h
  rw [heq]
  cases hfind : [64, 32, 16, 8].find? fun f => decide (f ≤ feather ∧ (f : Int) ≤ overlap - 8) with
  | none =>
    rw [List.find?_eq_none] at hfind
    refine ⟨by simp, .inl rfl, fun g hg hle hroom => ?_⟩
    have hmem : g ∈ [64, 32, 16, 8] := by
      simp only [List.mem_cons, List.not_mem_nil, or_false] at hg ⊢
      omega
    exact absurd (decide_eq_true ⟨hle, hroom⟩) (hfind g hmem)
  | some w =>
    obtain ⟨hw, before, after, hsplit, hbefore⟩ := List.find?_eq_some_iff_append.mp hfind
    rw [decide_eq_true_eq] at hw
    have hmem : w ∈ [64, 32, 16, 8] := by rw [hsplit]; simp
    refine ⟨?_, .inr hw, fun g hg hle hroom => ?_⟩
    · simp only [List.mem_cons, List.not_mem_nil, or_false, Option.getD_some] at hmem ⊢
      omega
    · have hg' : g ∈ before ++ w :: after := by
        rw [← hsplit]
        simp only [List.mem_cons, List.not_mem_nil, or_false] at hg ⊢
        omega
      have hsorted : (before ++ w :: after).Pairwise (· ≥ ·) := by
        rw [← hsplit]
        decide
      obtain hg' | hg' := List.mem_append.mp hg'
      · have := hbefore g hg'
        simp [hle, hroom] at this
      · obtain ⟨-, htail, -⟩ := List.pairwise_append.mp hsorted
        obtain rfl | hg' := List.mem_cons.mp hg'
        · exact Nat.le_refl _
        · exact (List.pairwise_cons.mp htail).1 g hg'

theorem featherFor_facts (how : HowPlaced) (gap : Bool) (feather : Nat) (overlap : Int) :
    featherFor how gap feather (some overlap) ∈ [0, 8, 16, 32, 64] ∧
    (featherFor how gap feather (some overlap) ≤ feather ∨ featherFor how gap feather (some overlap) = 0) := by
  by_cases h : how = .origin ∨ gap = true
  · rw [featherFor_none h]
    exact ⟨by simp, .inr rfl⟩
  · have hlargest := featherFor_largest (feather := feather) (overlap := overlap) h
    exact ⟨hlargest.width, hlargest.fits.elim .inr fun h => .inl h.1⟩

end

/-! #### The seam (R111) -/

/-- The seam `u` is chosen before `v`: lower score, then nearer the centre, then further behind. -/
def SeamLeads (score : Int → Nat) (centre2 u v : Int) : Prop :=
  score u < score v ∨ (score u = score v ∧ ((2 * u - centre2).natAbs < (2 * v - centre2).natAbs ∨
    ((2 * u - centre2).natAbs = (2 * v - centre2).natAbs ∧ u ≤ v)))

section

variable {score : Int → Nat} {c : Int}

/-- One step of the search for the seam. -/
def seamStep (score : Int → Nat) (centre2 : Int) (best : Option Int) (u : Int) : Option Int :=
  match best with
  | none => some u
  | some v =>
    if score u < score v ∨ (score u = score v ∧ (2 * u - centre2).natAbs < (2 * v - centre2).natAbs) then some u
    else some v

theorem bestSeam_eq (score : Int → Nat) (c : Int) (l : List Int) :
    bestSeam score c l = l.foldl (seamStep score c) none := rfl

theorem bestSeam_leads (l : List Int) (hsorted : l.Pairwise (· < ·)) (hne : l ≠ []) :
    ∃ u ∈ l, bestSeam score c l = some u ∧ ∀ v ∈ l, SeamLeads score c u v := by
  rw [bestSeam_eq]
  induction l using List.reverseRecOn with
  | nil => exact absurd rfl hne
  | append_singleton l w ih =>
    rw [List.foldl_append, List.foldl_cons, List.foldl_nil]
    have hself (u : Int) : SeamLeads score c u u := .inr ⟨rfl, .inr ⟨rfl, Int.le_refl u⟩⟩
    by_cases hl : l = []
    · subst hl
      exact ⟨w, by simp, rfl, fun v hv => by rw [List.mem_singleton.mp hv]; exact hself w⟩
    · obtain ⟨hpre, -, hlast⟩ := List.pairwise_append.mp hsorted
      obtain ⟨u, hu, hfold, hleads⟩ := ih hpre hl
      have hlt := hlast u hu w (by simp)
      rw [hfold]
      by_cases hbetter : score w < score u ∨
          (score w = score u ∧ (2 * w - c).natAbs < (2 * u - c).natAbs)
      · refine ⟨w, by simp, if_pos hbetter, fun v hv => ?_⟩
        obtain hv | hv := List.mem_append.mp hv
        · have := hleads v hv
          unfold SeamLeads at this ⊢
          omega
        · rw [List.mem_singleton.mp hv]
          exact hself w
      · refine ⟨u, by simp [hu], if_neg hbetter, fun v hv => ?_⟩
        obtain hv | hv := List.mem_append.mp hv
        · exact hleads v hv
        · rw [List.mem_singleton.mp hv]
          unfold SeamLeads
          omega

end

/-! #### The gain (R112) -/

theorem gainOf_eq (sc sf : Nat) (h : sf ≠ 0) :
    (gainOf sc sf : Int) = max 32 (min 128 (roundDiv ((64 * sc : Nat) : Int) sf)) := by
  rw [gainOf, if_neg h, clampInt]
  push_cast
  omega

theorem gainOf_bounds (sc sf : Nat) : 32 ≤ gainOf sc sf ∧ gainOf sc sf ≤ 128 := by
  by_cases h : sf = 0
  · rw [gainOf, if_pos h]
    omega
  · have := gainOf_eq sc sf h
    omega

/-! #### The measure as a whole -/

section

variable {s : State} {b : BlendPass} {r : Placement} {ref : BlendRef} {rd : Nat → Byte}

theorem measureGain_bounds (s : State) (rd : Nat → Byte) (b : BlendPass) (p : SeamPlan) :
    32 ≤ s.measureGain rd b p ∧ s.measureGain rd b p ≤ 128 := by
  unfold State.measureGain
  split
  · decide
  · exact gainOf_bounds _ _

theorem measure_noReference (h : s.bu.reference = none) :
    s.measure rd b r = ⟨max b.t (s.bu.commitLine + 32), 0, 64⟩ := by
  simp only [State.measure, h]
  rfl

theorem measure_gain (h : s.bu.reference = some ref) :
    (s.measure rd b r).gain = s.measureGain rd b (s.seamPlan b r ref) := by
  simp only [State.measure, h]
  split <;> rfl

/-- With an empty seam range the feather is 0. -/
theorem measure_emptyRange (h : s.bu.reference = some ref)
    (hempty : (s.seamPlan b r ref).range.2 < (s.seamPlan b r ref).range.1) :
    (s.measure rd b r).feather = 0 ∧ (s.measure rd b r).seam = max b.t (s.bu.commitLine + 32) := by
  have hnone : (s.seamPlan b r ref).candidates = [] := if_pos hempty
  simp only [State.measure, h, hnone]
  exact ⟨rfl, rfl⟩

theorem measure_range (h : s.bu.reference = some ref)
    (hrange : (s.seamPlan b r ref).range.1 ≤ (s.seamPlan b r ref).range.2) :
    (s.measure rd b r).feather = (s.seamPlan b r ref).feather ∧
    (s.measure rd b r).seam ∈ (s.seamPlan b r ref).candidates ∧
    ∀ v ∈ (s.seamPlan b r ref).candidates, SeamLeads (s.seamScore rd b (s.seamPlan b r ref).rows)
      ((s.seamPlan b r ref).range.1 + (s.seamPlan b r ref).range.2) (s.measure rd b r).seam v := by
  have hne : (s.seamPlan b r ref).candidates ≠ [] :=
    List.ne_nil_of_mem (mem_everyFourth.mpr ⟨Int.le_refl _, hrange, by simp⟩)
  obtain ⟨u, hu, hbest, hleads⟩ := bestSeam_leads (score := s.seamScore rd b (s.seamPlan b r ref).rows)
    (c := (s.seamPlan b r ref).range.1 + (s.seamPlan b r ref).range.2) (s.seamPlan b r ref).candidates
    (everyFourth_sorted _ _) hne
  have hmeasure : s.measure rd b r =
      ⟨u, (s.seamPlan b r ref).feather, s.measureGain rd b (s.seamPlan b r ref)⟩ := by
    simp only [State.measure, h]
    rw [hbest]
  rw [hmeasure]
  exact ⟨rfl, hu, hleads⟩

/-- The feather of a measure is 0 or its plan's. -/
theorem measure_feather (s : State) (rd : Nat → Byte) (b : BlendPass) (r : Placement) :
    (s.measure rd b r).feather = 0 ∨ ∃ ref, s.bu.reference = some ref ∧
      (s.measure rd b r).feather = featherFor r.how r.gap b.feather (some (ref.t + s.geo.fw - b.t)) := by
  cases href : s.bu.reference with
  | none =>
    rw [measure_noReference href]
    exact .inl rfl
  | some ref =>
    obtain h | h := lt_or_ge (s.seamPlan b r ref).range.2 (s.seamPlan b r ref).range.1
    · exact .inl (measure_emptyRange href h).1
    · exact .inr ⟨ref, rfl, (measure_range href h).1⟩

end

/-! #### The block schedule (R113) -/

theorem mem_blockSchedule {first last : Int} (h : 0 ≤ first) (a : Nat) : a ∈ blockSchedule first last ↔
    ∃ u : Int, first ≤ u ∧ u < last ∧ 32 * (a : Int) ≤ u ∧ u < 32 * a + 32 := by
  unfold blockSchedule
  split
  · simp only [List.not_mem_nil, false_iff]
    rintro ⟨u, hu⟩
    omega
  · rw [List.mem_range'_1]
    constructor
    · intro ha
      exact ⟨max first (32 * a), by omega⟩
    · rintro ⟨u, hu⟩
      omega

theorem blockSchedule_sorted (first last : Int) : (blockSchedule first last).Pairwise (· < ·) := by
  unfold blockSchedule
  split
  · exact List.Pairwise.nil
  · exact List.pairwise_lt_range'

/-! #### The row -/

section

variable {s : State} {b : BlendPass} {r : Placement} {held : List Byte} {ref : BlendRef}

theorem seamFix_due (hpass : s.bu.pass = some b) (hstage : b.stage = .measuring held)
    (hrecord : s.record b.serial = some r) : exec .seamFix s = .next
      (if (s.sampleAddrs b r).length ≤ held.length then
        s.fixSeam b (s.measure (heldAt (s.sampleAddrs b r) held) b r) else s) := by
  show execSeamFix s = _
  simp only [execSeamFix, hpass, hstage, hrecord]

/-- The common rows by their number. -/
theorem commonRows_eq (g : Geometry) (y0 : Int) (ref : BlendRef) {first last : Int}
    (hfirst : first = max ref.rowLo (max 0 y0))
    (hlast : last = min ref.rowHi (min ((g.ch : Int) - 1) (y0 + g.fh - 1))) :
    commonRows g y0 ref = (List.range ((last - first + 4) / 4).toNat).map fun (i : Nat) => (first + 4 * (i : Int)).toNat := by
  subst hfirst hlast
  rw [commonRows, everyFourth_eq, List.map_map]
  rfl

/-- The gain by the sums over sampled columns and rows. -/
theorem measureGain_eq {rd : Nat → Byte} {p : SeamPlan} {rows cols : Nat} {t first : Int}
    (hrows : p.rows = (List.range rows).map fun (i : Nat) => (first + 4 * (i : Int)).toNat)
    (hcols : p.cols = (List.range cols).map fun (k : Nat) => t + 4 * (k : Int)) :
    s.measureGain rd b p = if cols = 0 ∨ rows = 0 then 64 else gainOf
      ((List.range cols).map fun (k : Nat) => ((List.range rows).map fun (i : Nat) =>
        (rd (s.geo.canvasLuma (t + 4 * (k : Int)) (first + 4 * (i : Int)).toNat)).toNat).sum).sum
      ((List.range cols).map fun (k : Nat) => ((List.range rows).map fun (i : Nat) =>
        (rd (s.blendFrameLuma b (t + 4 * (k : Int)) (first + 4 * (i : Int)).toNat)).toNat).sum).sum := by
  have hempty : (p.cols.isEmpty || p.rows.isEmpty) = true ↔ cols = 0 ∨ rows = 0 := by
    rw [hrows, hcols]
    simp only [Bool.or_eq_true, List.isEmpty_map, List.isEmpty_iff, List.range_eq_nil]
  unfold State.measureGain
  simp only [hempty]
  simp only [hrows, hcols, List.map_map]
  rfl

end

/-- Settles O55: the seam is the one its search leads to, over the ranges of the plan. -/
theorem seamFixFillsTheUsedPart : Obligations.SeamFixFillsTheUsedPart := by
  intro s b r held hpass hstage hrecord
  have hexec := seamFix_due hpass hstage hrecord
  refine ⟨fun hshort => ?_, fun hnone => by simp only [State.sampleAddrs, hnone], fun read hread => ?_⟩
  · rw [hexec, if_neg (Nat.not_le.mpr hshort)]
  · subst hread
    rw [if_pos (by rw [List.length_map]), s.measure_held b r read] at hexec
    refine ⟨s.measure read b r, _, hexec, measure_noReference, ?_, ?_, ?_, ?_, fun hzero => ?_, ?_, fun a hfirst => ?_,
      blockSchedule_sorted _ _⟩
    · obtain h | ⟨ref, -, h⟩ := measure_feather s read b r
      · rw [h]
        simp
      · rw [h]
        exact (featherFor_facts _ _ _ _).1
    · obtain h | ⟨ref, -, h⟩ := measure_feather s read b r
      · exact .inr h
      · rw [h]
        exact (featherFor_facts _ _ _ _).2
    · cases href : s.bu.reference with
      | none => rw [measure_noReference href]; norm_num
      | some ref => rw [measure_gain href]; exact (measureGain_bounds _ _ _ _).1
    · cases href : s.bu.reference with
      | none => rw [measure_noReference href]; norm_num
      | some ref => rw [measure_gain href]; exact (measureGain_bounds _ _ _ _).2
    · obtain h | ⟨ref, -, h⟩ := measure_feather s read b r
      · exact h
      · rw [h, featherFor_none hzero]
    · intro ref lead lo hi first last f rows cols canvas frame score href hlead hfzero hflargest hlo hhi hfirst hlast
        hrows hcols hcanvas hframe hscore
      have hf : (s.seamPlan b r ref).feather = f := by
        subst hlead
        by_cases hzero : r.how = .origin ∨ r.gap = true
        · exact (featherFor_none hzero).trans (hfzero hzero).symm
        · obtain ⟨hwidth, hfits, hlargest⟩ := hflargest hzero
          exact (featherFor_largest hzero).unique ⟨hwidth, hfits, hlargest⟩
      have hrange : (s.seamPlan b r ref).range = (lo, hi) := by
        rw [hlo, hhi, hlead, ← hf]
        rfl
      have hplanRows : (s.seamPlan b r ref).rows =
          (List.range rows).map fun (i : Nat) => (first + 4 * (i : Int)).toNat := by
        rw [hrows]
        exact commonRows_eq s.geo b.y0 ref hfirst hlast
      have hplanCols : (s.seamPlan b r ref).cols = (List.range cols).map fun (k : Nat) => b.t + 4 * (k : Int) := by
        have hcount : (lead - 1 - b.t + 4) / 4 = (lead - b.t + 3) / 4 := by congr 1; omega
        rw [hcols, ← hcount, hlead]
        exact everyFourth_eq _ _
      have hplanScore : s.seamScore read b (s.seamPlan b r ref).rows = score := by
        rw [hscore, hcanvas, hframe]
        funext u
        rw [State.seamScore, hplanRows, List.map_map]
        rfl
      have hgain := (measure_gain (rd := read) (b := b) (r := r) href).trans (measureGain_eq hplanRows hplanCols)
      refine ⟨fun hempty => measure_emptyRange href (by rw [hrange]; exact hempty), fun hnonempty => ?_, fun hnone => ?_,
        fun total htotal hsome hsome' => ?_⟩
      · obtain ⟨hfeather, hmem, hleads⟩ :=
          measure_range (rd := read) (b := b) (r := r) href (by rw [hrange]; exact hnonempty)
        rw [hplanScore, hrange] at hleads
        have hcandidates : (s.seamPlan b r ref).candidates = everyUpTo lo hi 4 := by
          rw [SeamPlan.candidates, hrange]
        rw [hcandidates] at hmem hleads
        obtain ⟨hlow, hhigh, hmod⟩ := mem_everyFourth.mp hmem
        exact ⟨hfeather.trans hf, hlow, hhigh, hmod,
          fun v hv hv' hvmod => hleads v (mem_everyFourth.mpr ⟨hv, hv', hvmod⟩)⟩
      · rw [hgain, if_pos hnone.symm]
      · have hgain' : (s.measure read b r).gain = gainOf (total canvas) (total frame) := by
          rw [hgain, if_neg (not_or.mpr ⟨hsome', hsome⟩), htotal, hcanvas, hframe]
          rfl
        rw [hgain']
        exact ⟨fun hzero => if_pos hzero, gainOf_eq _ _⟩
    · refine (mem_blockSchedule (first := (s.measure read b r).first) hfirst a).trans ?_
      refine exists_congr fun u => ?_
      show _ ∧ u < min (b.t + s.geo.fw) s.geo.cw ∧ _ ↔ _
      rw [lt_min_iff, and_assoc]
      rfl

end Sys2Proof.Machine

/-! ### BLOCK_WRITE (R10, R97, R107, R113, R114, R117, R118) -/

namespace Sys2Proof.Machine

/-! #### The bytes of a block (R113, R114) -/

theorem mem_everyOne {lo hi v : Int} : v ∈ everyUpTo lo hi 1 ↔ lo ≤ v ∧ v ≤ hi := by
  unfold everyUpTo
  split
  · simp only [List.not_mem_nil, false_iff]
    omega
  · simp only [List.mem_map, List.mem_range]
    constructor
    · rintro ⟨i, hi', rfl⟩
      omega
    · rintro ⟨hlo, hhi⟩
      exact ⟨(v - lo).toNat, by omega, by omega⟩

section

variable {s : State} {b : BlendPass} {a : Nat} {u : Int} {read : Nat → Byte} {x : Nat} {v : Byte}

/-- The columns of a block that its write covers. -/
def BlendPass.covers (b : BlendPass) (g : Geometry) (a : Nat) (u : Int) : Prop :=
  b.seam.first ≤ u ∧ u < b.t + g.fw ∧ u < g.cw ∧ 32 * (a : Int) ≤ u ∧ u < 32 * a + 32

theorem mem_columns (g : Geometry) : u ∈ b.columns g a ↔ b.covers g a u := by
  rw [BlendPass.columns, mem_everyOne, BlendPass.covers, writeEnd]
  omega

/-- The value at a column with the sweep columns counted as integers. -/
def SeamPart.mix (m : SeamPart) (u : Int) (canvas frame : Nat) : Nat :=
  if u < m.first + m.feather then
    (roundDiv ((canvas : Int) * (2 * m.feather - 2 * (u - m.first) - 1) +
      (frame : Int) * (2 * (u - m.first) + 1)) (2 * m.feather)).toNat
  else frame

theorem value_eq_mix (m : SeamPart) (canvas frame : Nat) (h : m.first ≤ u) :
    m.value u canvas frame = m.mix u canvas frame := by
  unfold SeamPart.value SeamPart.mix mixed
  rw [Int.toNat_of_nonneg (by omega)]

theorem gained_eq (luma gain : Nat) : gained luma gain = min 255 (roundDiv ((luma * gain : Nat) : Int) 64).toNat := by
  rw [gained, Nat.cast_mul]

/-- The luma bytes of a block. -/
theorem mem_blockLuma {rowLo rowHi : Int} (hrow : 0 ≤ rowLo) :
    (∃ o ∈ (everyUpTo rowLo rowHi 1).flatMap fun r => (b.columns s.geo a).map fun u => s.blendLuma b u r.toNat,
      o.target = x ∧ o.form read = v) ↔
    ∃ u r : Int, b.covers s.geo a u ∧ rowLo ≤ r ∧ r ≤ rowHi ∧ x = r.toNat * s.geo.cw + s.geo.memColU u ∧
      v = byteOf (b.seam.mix u (read (r.toNat * s.geo.cw + s.geo.memColU u)).toNat
        (min 255 (roundDiv ((read (s.bankBase b.bank + (r - b.y0).toNat * s.geo.fw +
          s.geo.deliveryCol (u - b.t).toNat)).toNat * b.seam.gain : Nat) 64).toNat)) := by
  have hbyte {u r : Int} (hu : b.covers s.geo a u) (hr : rowLo ≤ r) :
      (s.blendLuma b u r.toNat).form read =
        byteOf (b.seam.mix u (read (r.toNat * s.geo.cw + s.geo.memColU u)).toNat
          (min 255 (roundDiv ((read (s.bankBase b.bank + (r - b.y0).toNat * s.geo.fw +
            s.geo.deliveryCol (u - b.t).toNat)).toNat * b.seam.gain : Nat) 64).toNat)) := by
    have hfirst := hu.1
    show byteOf (b.seam.value u _ (gained _ b.seam.gain)) = _
    rw [value_eq_mix _ _ _ hfirst, gained_eq, State.blendFrameLuma, Geometry.frameLuma,
      Int.toNat_of_nonneg (Int.le_trans hrow hr)]
    rfl
  simp only [List.mem_flatMap, List.mem_map, mem_everyOne, mem_columns]
  constructor
  · rintro ⟨-, ⟨r, ⟨hlo, hhi⟩, u, hu, rfl⟩, rfl, rfl⟩
    exact ⟨u, r, hu, hlo, hhi, rfl, hbyte hu hlo⟩
  · rintro ⟨u, r, hu, hlo, hhi, rfl, rfl⟩
    exact ⟨_, ⟨r, ⟨hlo, hhi⟩, u, hu, rfl⟩, rfl, hbyte hu hlo⟩

theorem leadsGroup_iff : s.geo.leadsGroup (b.columns s.geo a) u = true ↔
    ¬ (b.covers s.geo a (u + 1) ∧ 2 * (s.geo.memColU (u + 1) / 2) = 2 * (s.geo.memColU u / 2)) := by
  simp only [Geometry.leadsGroup, Bool.not_eq_true', Bool.and_eq_false_iff, List.contains_eq_mem, decide_eq_false_iff_not,
    mem_columns, beq_eq_false_iff_ne, not_and_or]
  exact or_congr_right (by omega)

/-- The chroma bytes of a block. -/
theorem mem_blockChroma {rowLo rowHi : Int} (hrow : 0 ≤ rowLo) :
    (∃ o ∈ (everyUpTo (rowLo / 2) (rowHi / 2) 1).flatMap fun i =>
        ((b.columns s.geo a).filter (s.geo.leadsGroup (b.columns s.geo a))).flatMap fun u =>
          s.blendChroma b u i.toNat (max rowLo (2 * i)).toNat, o.target = x ∧ o.form read = v) ↔
    ∃ (u i : Int) (part : Nat), b.covers s.geo a u ∧
      ¬ (b.covers s.geo a (u + 1) ∧ 2 * (s.geo.memColU (u + 1) / 2) = 2 * (s.geo.memColU u / 2)) ∧
      rowLo / 2 ≤ i ∧ i ≤ rowHi / 2 ∧ part < 2 ∧
      x = s.geo.cw * s.geo.ch + i.toNat * s.geo.cw + 2 * (s.geo.memColU u / 2) + part ∧
      v = byteOf (b.seam.mix u
        (read (s.geo.cw * s.geo.ch + i.toNat * s.geo.cw + 2 * (s.geo.memColU u / 2) + part)).toNat
        (read (s.bankBase b.bank + s.geo.fw * s.geo.fh + (max rowLo (2 * i) - b.y0).toNat / 2 * s.geo.fw +
          2 * (s.geo.deliveryCol (u - b.t).toNat / 2) + part)).toNat) := by
  have htarget (u i : Int) (part : Nat) : s.geo.canvasChroma u (2 * i.toNat) part =
      s.geo.cw * s.geo.ch + i.toNat * s.geo.cw + 2 * (s.geo.memColU u / 2) + part := by
    rw [Geometry.canvasChroma, Geometry.chromaAddr, Nat.mul_div_cancel_left _ (by decide)]
  have hframe (u i : Int) (part : Nat) : s.blendFrameChroma b u (max rowLo (2 * i)).toNat part =
      s.bankBase b.bank + s.geo.fw * s.geo.fh + (max rowLo (2 * i) - b.y0).toNat / 2 * s.geo.fw +
        2 * (s.geo.deliveryCol (u - b.t).toNat / 2) + part := by
    rw [State.blendFrameChroma, Geometry.frameChroma, Int.toNat_of_nonneg (Int.le_trans hrow (le_max_left _ _))]
  have hpart (part : Nat) : part ∈ [0, 1] ↔ part < 2 := by
    simp only [List.mem_cons, List.not_mem_nil, or_false]
    omega
  simp only [List.mem_flatMap, List.mem_filter, mem_everyOne, mem_columns, leadsGroup_iff, State.blendChroma,
    List.mem_map, hpart]
  constructor
  · rintro ⟨-, ⟨i, ⟨hlo, hhi⟩, u, ⟨hu, hleads⟩, part, hlt, rfl⟩, rfl, rfl⟩
    refine ⟨u, i, part, hu, hleads, hlo, hhi, hlt, htarget u i part, ?_⟩
    rw [← htarget, ← hframe, ← value_eq_mix _ _ _ hu.1]
  · rintro ⟨u, i, part, hu, hleads, hlo, hhi, hlt, rfl, rfl⟩
    refine ⟨_, ⟨i, ⟨hlo, hhi⟩, u, ⟨hu, hleads⟩, part, hlt, rfl⟩, htarget u i part, ?_⟩
    rw [← htarget, ← hframe, ← value_eq_mix _ _ _ hu.1]

theorem blockOutputs_eq {lo hi : Int} (hlo : lo = max 0 b.y0)
    (hhi : hi = min ((s.geo.ch : Int) - 1) (b.y0 + s.geo.fh - 1)) (hrows : lo ≤ hi) :
    s.blockOutputs b a =
      ((everyUpTo lo hi 1).flatMap fun r => (b.columns s.geo a).map fun u => s.blendLuma b u r.toNat) ++
      (everyUpTo (lo / 2) (hi / 2) 1).flatMap fun i =>
        ((b.columns s.geo a).filter (s.geo.leadsGroup (b.columns s.geo a))).flatMap fun u =>
          s.blendChroma b u i.toNat (max lo (2 * i)).toNat := by
  subst hlo hhi
  unfold State.blockOutputs
  dsimp only
  rw [if_neg (c := (s.geo.usedRows b.y0).2 < (s.geo.usedRows b.y0).1) (Int.not_lt.mpr hrows)]
  rfl

end

/-! #### The row -/

section

variable {s : State} {b : BlendPass} {a : Nat} {rest : List Nat} {move : Transfer} {lo hi : Int}

theorem passesBlock_iff (hlo : lo = max 0 b.y0) (hhi : hi = min ((s.geo.ch : Int) - 1) (b.y0 + s.geo.fh - 1)) :
    s.passesBlock b a = true ↔ s.coverageAt (s.geo.blockAt a) = .committed ∨ hi < lo := by
  subst hlo hhi
  simp only [State.passesBlock, BlendPass.hasRows, Bool.or_eq_true, decide_eq_true_eq, Bool.not_eq_true',
    decide_eq_false_iff_not]
  exact or_congr_right Int.not_le

theorem blockWrite_boundary (hpass : s.bu.pass = some b) (hstage : b.stage = .writing (a :: rest)) :
    exec .blockWrite s = .next (if s.stopping then s
      else if s.passesBlock b a then s.setBlend (some { b with stage := .writing rest })
      else if Transfer.start.done (s.blockOutputs b a) then s.endBlock b a rest
      else s) := by
  show execBlockWrite s = _
  simp only [execBlockWrite, hpass, hstage]

theorem blockWrite_inside (hpass : s.bu.pass = some b) (hstage : b.stage = .inBlock a rest move) :
    exec .blockWrite s = .next (if move.done (s.blockOutputs b a) then s.endBlock b a rest else s) := by
  show execBlockWrite s = _
  simp only [execBlockWrite, hpass, hstage]

/-- A block being written, or to be written and met by no stop. -/
theorem blockWrite_writes (hpass : s.bu.pass = some b)
    (hat : (b.stage = .writing (a :: rest) ∧ move = ⟨0, []⟩) ∨ b.stage = .inBlock a rest move)
    (hwrites : b.stage = .inBlock a rest move ∨ (s.stopping = false ∧ s.passesBlock b a = false)) :
    exec .blockWrite s = .next (if (s.blockOutputs b a).length ≤ move.written then s.endBlock b a rest else s) := by
  obtain ⟨hstage, rfl⟩ | hstage := hat
  · obtain ⟨hstop, hpasses⟩ := hwrites.resolve_left (by rw [hstage]; nofun)
    rw [blockWrite_boundary hpass hstage, hstop, hpasses]
    simp [Transfer.done, Transfer.start]
  · rw [blockWrite_inside hpass hstage]
    simp [Transfer.done]

theorem endBlock_eq (s : State) (b : BlendPass) (a : Nat) (rest : List Nat) : s.endBlock b a rest = { s with
    pw := (s.endBlock b a rest).pw
    bu := { s.bu with
      coverage := s.bu.coverage.set (s.geo.blockAt a) (.opened b.serial)
      pass := some { b with stage := .writing rest } } } := rfl

theorem endBlock_pw (s : State) (b : BlendPass) (a : Nat) (rest : List Nat) : (s.endBlock b a rest).pw =
    if (s.coverageAt (s.geo.blockAt a)).owner = some b.serial then s.pw else
      s.pw.map fun r =>
        if r.serial = b.serial then { r with owned := r.owned + 1 }
        else if (s.coverageAt (s.geo.blockAt a)).owner = some r.serial then { r with owned := r.owned - 1 }
        else r := rfl

end

/-- Settles O56: the bytes by `mem_blockLuma` and `mem_blockChroma`. -/
theorem blockWriteOpensTheBlock : Obligations.BlockWriteOpensTheBlock := by
  intro s b a rest move hpass hat lo hi hlo hhi
  have hpasses : s.passesBlock b a = true ↔ _ := passesBlock_iff hlo hhi
  refine ⟨fun hstage hstop => ?_, fun hstage hstop h => ?_, fun hwrites => ?_⟩
  · rw [blockWrite_boundary hpass hstage, if_pos hstop]
  · rw [blockWrite_boundary hpass hstage, if_neg (by simp [hstop]), if_pos (hpasses.mpr h)]
    rfl
  · have hexec := blockWrite_writes hpass hat (hwrites.imp_right fun ⟨hstop, hcommitted, hrows⟩ =>
      ⟨hstop, Bool.not_eq_true _ ▸ fun h => (hpasses.mp h).elim hcommitted (Int.not_lt.mpr hrows)⟩)
    refine ⟨fun hshort => ?_, fun hfull => ?_, ?_⟩
    · rw [hexec, if_neg (Nat.not_le.mpr hshort)]
    · rw [if_pos hfull] at hexec
      have hpw := endBlock_pw s b a rest
      refine ⟨_, hexec, endBlock_eq s b a rest, fun hown => ?_, fun owner hopen hother => ?_, fun hblank => ?_⟩
      · rw [hpw, hown]
        exact if_pos rfl
      · rw [hpw, hopen, Coverage.owner, if_neg (by simpa using hother)]
        refine List.map_congr_left fun r _ => ?_
        simp only [Option.some.injEq, eq_comm (a := owner)]
      · rw [hpw, hblank, Coverage.owner, if_neg nofun]
        simp
    · intro first written luma chroma mix read hrows hfirst hwritten hmix hluma hchroma x v
      subst hfirst hwritten hmix hluma hchroma
      have hlo0 : 0 ≤ lo := by omega
      simp only [blockOutputs_eq hlo hhi hrows, List.mem_append, or_and_right, exists_or]
      exact or_congr (mem_blockLuma hlo0) (mem_blockChroma hlo0)

end Sys2Proof.Machine

/-! ### The blend end (R51, R98, R99, R106, R116) -/

namespace Sys2Proof.Machine

section

variable {s : State} {b : BlendPass}

theorem commitBlocks_coverage (s : State) (sel : Nat → Serial → Bool) {k : Nat} (h : k < s.bu.coverage.length) :
    (s.commitBlocks sel).coverageAt k = match s.coverageAt k with
      | .opened o => if sel k o then .committed else .opened o
      | .blank => .blank
      | .committed => .committed := by
  unfold State.coverageAt
  show (List.mapIdx _ s.bu.coverage)[k]?.getD Coverage.blank = _
  rw [List.getElem?_mapIdx, List.getElem?_eq_getElem h]
  cases hcov : s.bu.coverage[k] with
  | blank | committed => rfl
  | opened o => rfl

theorem blendEnd_due (hpass : s.bu.pass = some b) (hstage : b.stage = .writing []) (hstop : s.stopping = false) :
    exec .blendEnd s = .next (s.endBlend b) := by
  show execBlendEnd s = _
  simp only [execBlendEnd, hpass, hstage, hstop, and_self, if_true]

theorem retireBehind_due {claim : Bool} (hpass : s.bu.pass = some b) (hstage : b.stage = .ending true claim) :
    exec .retireBehind s = .next (({ s with ltc := s.ltc.retireAll s.behindVictims } : State).setBlend
      (some { b with stage := .ending false claim })) := by
  show execRetireBehind s = _
  simp only [execRetireBehind, hpass, hstage]

theorem retirementClaim_due {claim : Bool} (hpass : s.bu.pass = some b) (hstage : b.stage = .ending claim true) :
    exec .retirementClaim s = .next (({ s with pw := retirePlacements s.pw } : State).setBlend
      (some { b with stage := .ending claim false })) := by
  show execRetirementClaim s = _
  simp only [execRetirementClaim, hpass, hstage]

theorem blendEndClaim_due (hpass : s.bu.pass = some b) (hstage : b.stage = .ending false false) :
    exec .blendEndClaim s = .next (s.finishBlend b) := by
  show execBlendEndClaim s = _
  simp only [execBlendEndClaim, hpass, hstage, if_true]

theorem behindVictims_eq (s : State) : s.behindVictims = (List.range s.ltc.entries.length).filter fun i =>
    (s.ltc.lm i).any fun r =>
      !r.pinned && !r.origin && decide ((64 * s.geo.binPlace r.bin + 64 : Int) ≤ s.bu.commitLine) := by
  have hprotected (r : Landmark) : (!r.isProtected && s.geo.binBehind s.bu.commitLine r.bin) =
      (!r.pinned && !r.origin && decide ((64 * s.geo.binPlace r.bin + 64 : Int) ≤ s.bu.commitLine)) := by
    rw [Landmark.isProtected, Bool.not_or]
    rfl
  rw [State.behindVictims, Table.indicesOf, funext hprotected]

theorem finishBlend_blending (h : (s.bank b.bank).state = .blending) : s.finishBlend b = { s with
    pw := s.pw.map fun r => if r.serial = b.serial then { r with state := .blended } else r
    pi := { s.pi with banks := s.pi.banks.set b.bank { s.bank b.bank with state := .free, serial := none } }
    bu := { s.bu with
      reference := some ⟨b.t, max 0 b.y0, min ((s.geo.ch : Int) - 1) (b.y0 + s.geo.fh - 1)⟩, pass := none } } := by
  have hbank : ((s.updateRecord b.serial fun r => { r with state := .blended }).bank b.bank).state = .blending := h
  simp only [State.finishBlend, if_pos hbank]
  rfl

end

/-- Settles O57, step by step. -/
theorem blendEndCommitsAndRetires : Obligations.BlendEndCommitsAndRetires := by
  refine fun s b hpass => ⟨fun line hstage hstop hline => ?_, fun claim hstage => ?_, fun claim hstage => ?_,
    fun hstage hblending => ?_⟩
  · subst hline
    refine ⟨_, blendEnd_due hpass hstage hstop, rfl, ?_, fun k hk => ?_, rfl⟩
    · show (List.mapIdx _ s.bu.coverage).length = _
      rw [List.length_mapIdx]
    · have hcov := commitBlocks_coverage s (fun k _ => s.geo.blockBehind (b.newLine s.bu.commitLine) k) hk
      refine Eq.trans (b := (s.commitBlocks fun k _ => s.geo.blockBehind (b.newLine s.bu.commitLine) k).coverageAt k)
        rfl (hcov.trans ?_)
      cases s.coverageAt k with
      | blank | committed => simp
      | opened o => simp [Geometry.blockBehind, BlendPass.newLine, SeamPart.first]
  · rw [retireBehind_due hpass hstage, behindVictims_eq]
    rfl
  · refine ⟨retirePlacements s.pw, retirementClaim_due hpass hstage, fun hnil => by rw [hnil]; rfl,
      fun r older hpw => ?_⟩
    rw [hpw, retirePlacements]
    simp only [Placement.retirable, decide_not]
  · rw [blendEndClaim_due hpass hstage, finishBlend_blending hblending]

/-! ### The closing (R10, R102, R117, R134, R149 to R151) -/

section

variable {s : State} {j : Join} {i : Nat}

theorem closingReady_iff (s : State) : s.closingReady = true ↔
    s.sc.sweep = .closing ∧ s.me.pass = none ∧ s.bu.pass = none ∧ s.bu.join = none ∧ s.saving = false ∧
      s.stopping = false ∧ ∀ r ∈ s.pw, r.state = .blended := by
  simp [State.closingReady, and_assoc]

theorem closureJoin_waits (h : ¬ (s.closingReady = true ∧ s.sc.closure.state = .detected)) :
    exec .closureJoin s = .next s := by
  show execClosureJoin s = _
  rw [execClosureJoin, if_neg (by simpa using h)]

theorem closureJoin_due (hready : s.closingReady = true) (hstate : s.sc.closure.state = .detected) :
    exec .closureJoin s = .next (if s.prm.feather = 0 then s.setClosureState .joined
      else { s with bu := { s.bu with
        join := some ⟨0, min 64 s.prm.feather, s.sc.closure.ce, s.sc.closure.ry, .start⟩ } }) := by
  show execClosureJoin s = _
  rw [execClosureJoin, if_pos (by simp [hready, hstate])]

theorem commitAll_waits (h : ¬ (s.closingReady = true ∧ s.sc.closure.state ≠ .detected)) :
    exec .commitAllOpenBlocks s = .next s := by
  show execCommitAllOpenBlocks s = _
  rw [execCommitAllOpenBlocks, if_neg (by simpa using h)]

theorem commitAll_due (hready : s.closingReady = true) (hstate : s.sc.closure.state ≠ .detected) :
    exec .commitAllOpenBlocks s = .next s.finishClosing := by
  show execCommitAllOpenBlocks s = _
  rw [execCommitAllOpenBlocks, if_pos (by simp [hready, hstate])]

theorem finishClosing_coverage (s : State) : s.finishClosing.bu.coverage =
    s.bu.coverage.map fun c => if c = .blank then .blank else .committed := by
  refine List.ext_getElem? fun k => ?_
  show (List.mapIdx _ s.bu.coverage)[k]? = _
  rw [List.getElem?_mapIdx, List.getElem?_map]
  cases s.bu.coverage[k]? with
  | none => rfl
  | some c => cases c <;> rfl

/-! #### The join's columns (R149 to R151) -/

theorem joinColumn_due (hjoin : s.bu.join = some j) : exec .joinColumn s =
    .next (if s.stopping && decide (j.move = .start) then s
      else if j.move.done (s.joinOutputs j j.next) then s.joinAdvance j else s) := by
  show execJoinColumn s = _
  simp only [execJoinColumn, hjoin]

theorem joinColumn_takes (hjoin : s.bu.join = some j) (hgoes : s.stopping = false ∨ j.move ≠ ⟨0, []⟩)
    (hdone : (s.joinOutputs j j.next).length ≤ j.move.written) : exec .joinColumn s = .next (s.joinAdvance j) := by
  have hmoved : j.move.done (s.joinOutputs j j.next) = true := decide_eq_true hdone
  rw [joinColumn_due hjoin, if_neg, if_pos hmoved]
  rw [Bool.and_eq_true, decide_eq_true_eq]
  rintro ⟨hstop, hstart⟩
  obtain h | h := hgoes
  · rw [hstop] at h
    cases h
  · exact h hstart

theorem joinAdvance_last (h : j.feather ≤ j.next + 1) : s.joinAdvance j = { s with
    bu := { s.bu with join := none }
    sc := { s.sc with closure := { s.sc.closure with
      state := if s.stopping then s.sc.closure.state else .joined } } } := by
  rw [State.joinAdvance, if_neg (Nat.not_lt.mpr h)]
  cases s.stopping <;> rfl

/-- Neither block of the column is BLANK. -/
theorem joinWrites_iff (s : State) (j : Join) (i : Nat) : s.joinWrites j i =
    !decide (s.coverageAt (s.geo.memColU i / 32) = .blank ∨ s.coverageAt (s.geo.memColU (j.ce + i) / 32) = .blank) := by
  rw [State.joinWrites, Bool.decide_or, Bool.not_or]
  rfl

theorem partnerRow_some {g : Geometry} {ry : Int} {row q : Nat} :
    partnerRow g ry row = some q ↔ q < g.ch ∧ (q : Int) = row + ry := by
  unfold partnerRow
  split
  · rw [Option.some.injEq]
    omega
  · simp only [reduceCtorEq, false_iff]
    omega

/-- The mean of late and origin byte at a join column (R149). -/
def Join.mix (j : Join) (i late origin : Nat) : Byte :=
  byteOf (roundDiv ((late : Int) * (2 * j.feather - 2 * i - 1) + (origin : Int) * (2 * i + 1)) (2 * j.feather)).toNat

variable {read : Nat → Byte} {x : Nat} {v : Byte}

theorem mem_joinLuma : (∃ o ∈ s.joinLuma j i, o.target = x ∧ o.form read = v) ↔
    ∃ row q : Nat, row < s.geo.ch ∧ q < s.geo.ch ∧ (q : Int) = row + j.ry ∧ x = row * s.geo.cw + s.geo.memColU i ∧
      v = j.mix i (read (q * s.geo.cw + s.geo.memColU (j.ce + i))).toNat
        (read (row * s.geo.cw + s.geo.memColU i)).toNat := by
  simp only [State.joinLuma, List.mem_filterMap, List.mem_range, Option.map_eq_some_iff, partnerRow_some]
  constructor
  · rintro ⟨-, ⟨row, hrow, q, ⟨hq, hpartner⟩, rfl⟩, rfl, rfl⟩
    exact ⟨row, q, hrow, hq, hpartner, rfl, rfl⟩
  · rintro ⟨row, q, hrow, hq, hpartner, rfl, rfl⟩
    exact ⟨_, ⟨row, hrow, q, ⟨hq, hpartner⟩, rfl⟩, rfl, rfl⟩

theorem canvasChroma_even (g : Geometry) (u : Int) (k part : Nat) :
    g.canvasChroma u (2 * k) part = g.cw * g.ch + k * g.cw + 2 * (g.memColU u / 2) + part := by
  rw [Geometry.canvasChroma, Geometry.chromaAddr, Nat.mul_div_cancel_left _ (by decide)]

theorem mem_joinChroma : (∃ o ∈ s.joinChroma j i, o.target = x ∧ o.form read = v) ↔
    ¬ (i % 2 = 0 ∧ i + 1 < j.feather ∧ s.joinWrites j (i + 1) = true) ∧
    ∃ k q part : Nat, k < s.geo.ch / 2 ∧ q < s.geo.ch ∧ (q : Int) = 2 * k + j.ry ∧ part < 2 ∧
      x = s.geo.cw * s.geo.ch + k * s.geo.cw + 2 * (s.geo.memColU i / 2) + part ∧
      v = j.mix i (read (s.geo.cw * s.geo.ch + q / 2 * s.geo.cw + 2 * (s.geo.memColU (j.ce + i) / 2) + part)).toNat
        (read x).toNat := by
  have hpart (part : Nat) : part ∈ [0, 1] ↔ part < 2 := by
    simp only [List.mem_cons, List.not_mem_nil, or_false]
    omega
  unfold State.joinChroma
  split
  · rename_i hleft
    simp [hleft]
  · rename_i hleft
    simp only [hleft, not_false_eq_true, true_and, List.mem_flatten, List.mem_filterMap, List.mem_range,
      Option.map_eq_some_iff, partnerRow_some]
    constructor
    · rintro ⟨o, ⟨os, ⟨k, hk, q, ⟨hq, hpartner⟩, rfl⟩, ho⟩, rfl, rfl⟩
      obtain ⟨part, hlt, rfl⟩ := List.mem_map.mp ho
      exact ⟨k, q, part, hk, hq, by push_cast at hpartner; exact hpartner, (hpart part).mp hlt,
        canvasChroma_even _ _ _ _, rfl⟩
    · rintro ⟨k, q, part, hk, hq, hpartner, hlt, hx, rfl⟩
      rw [← canvasChroma_even] at hx
      subst hx
      exact ⟨_, ⟨_, ⟨k, hk, q, ⟨hq, by push_cast; exact hpartner⟩, rfl⟩,
        List.mem_map.mpr ⟨part, (hpart part).mpr hlt, rfl⟩⟩, rfl, rfl⟩

end

/-- Settles O58: the bytes of a join column by `mem_joinLuma` and `mem_joinChroma`. -/
theorem closingJoinsAndFinishes : Obligations.ClosingJoinsAndFinishes := by
  refine fun s => ⟨fun hnot => ?_, closingReady_iff s, fun hready hstate => ⟨?_, fun hzero => ?_, fun hpos => ?_⟩,
    fun hready hstate => ⟨?_, s.finishClosing, commitAll_due hready hstate, rfl, rfl, finishClosing_coverage s, rfl, ?_,
      rfl, rfl, rfl, rfl⟩,
    fun j i origin late kept hjoin hi horigin hlate hkept => ⟨fun hstop hstart => ?_, fun hshort => ?_,
      fun hgoes hdone => ⟨fun hmore => ?_, fun hlast => ?_⟩, fun hkeep => ?_, fun hwritten mix read hmix x v => ?_⟩⟩
  · exact ⟨closureJoin_waits (by simp [hnot]), commitAll_waits (by simp [hnot])⟩
  · exact commitAll_waits (by simp [hstate])
  · rw [closureJoin_due hready hstate, if_pos hzero]
    rfl
  · rw [closureJoin_due hready hstate, if_neg (Nat.pos_iff_ne_zero.mp hpos)]
    rfl
  · exact closureJoin_waits (by simp [hstate])
  · exact raise_bit _ .finished
  · rw [joinColumn_due hjoin, if_pos (by rw [hstop, hstart]; rfl)]
  · subst hi
    rw [joinColumn_due hjoin]
    have hnot : ¬ j.move.done (s.joinOutputs j j.next) = true := by
      simpa [Transfer.done] using hshort
    rw [if_neg hnot, ite_self]
  · subst hi
    rw [joinColumn_takes hjoin hgoes hdone, State.joinAdvance, if_pos hmore]
    rfl
  · subst hi
    rw [joinColumn_takes hjoin hgoes hdone, joinAdvance_last hlast]
  · have hwrites : s.joinWrites j i = false := by
      rw [joinWrites_iff, ← congrFun hkept i, hkeep]
      rfl
    rw [State.joinOutputs, hwrites]
    rfl
  · have hwrites (k : Nat) : s.joinWrites j k = !kept k := by rw [joinWrites_iff, hkept]
    have hnext : s.joinWrites j (i + 1) = true ↔ kept (i + 1) = false := by
      rw [hwrites, Bool.not_eq_true']
    subst horigin hlate hmix
    rw [State.joinOutputs, hwrites, hwritten, Bool.not_false, if_pos rfl]
    simp only [List.mem_append, or_and_right, exists_or]
    rw [mem_joinLuma, mem_joinChroma, hnext]
    rfl

end Sys2Proof.Machine
